-- ==== Sys2Proof/Word.lean ====
section
/-! DEFINITION. The word types of the device (R5, R8: registers are 32 bits wide) and the plainest
helpers over natural numbers seen as bit strings. -/

namespace Sys2Proof

/-- One 32-bit register word (00_scope.md, "Bits, bytes and fields"). -/
abbrev Word := BitVec 32

/-- One byte of a memory or of a record. -/
abbrev Byte := BitVec 8

/-- Bits `lo + w - 1 : lo` of a number (R5: bit 0 is the least significant). -/
def bitsOf (x lo w : Nat) : Nat := (x / 2 ^ lo) % 2 ^ w

/-- `x` with bits `lo + w - 1 : lo` replaced by the low `w` bits of `v`. -/
def setBitsOf (x lo w v : Nat) : Nat :=
  x - bitsOf x lo w * 2 ^ lo + (v % 2 ^ w) * 2 ^ lo

/-- Bit `i` of a number. -/
def bitAt (x i : Nat) : Bool := bitsOf x i 1 == 1

/-- Number of a Boolean: 1 for true. -/
def b2n (b : Bool) : Nat := if b then 1 else 0

/-- The value of the low `w` bits of `x` in two's complement. -/
def signedOf (w x : Nat) : Int :=
  let y := x % 2 ^ w
  if y < 2 ^ (w - 1) then (y : Int) else (y : Int) - (2 ^ w : Int)

/-- The `w`-bit two's complement pattern of an integer. -/
def patternOf (w : Nat) (i : Int) : Nat := (i % (2 ^ w : Int)).toNat

/-- The `n` bytes of a number, least significant first (R6: memory structures are little-endian). -/
def bytesLE : Nat → Nat → List Byte
  | 0, _ => []
  | n + 1, x => BitVec.ofNat 8 x :: bytesLE n (x / 256)

/-- The `n` bytes of a number, most significant first (R6: wire fields are in network byte order). -/
def bytesBE (n x : Nat) : List Byte := (bytesLE n x).reverse

/-- The number whose little-endian bytes are given. -/
def ofBytesLE : List Byte → Nat
  | [] => 0
  | b :: bs => b.toNat + 256 * ofBytesLE bs

/-- The number whose big-endian bytes are given. -/
def ofBytesBE (bs : List Byte) : Nat := ofBytesLE bs.reverse

/-- The word at byte offset `i` of a little-endian record. -/
def wordAt (bs : List Byte) (i : Nat) : Nat := ofBytesLE ((bs.drop i).take 4)

/-- `w` added with saturation at the largest `w`-bit value. -/
def satAdd (w x n : Nat) : Nat := min (x + n) (2 ^ w - 1)

end Sys2Proof
end

