-- ==== Sys2Proof/Syntax.lean ====
section
/-! DEFINITION. The commands of the device and their operands. -/

namespace Sys2Proof

/-- The access paths of R81 and R84 (PATH of xxx_ERR_INFO): the physical function, the virtual function
of CUn, the management bus. -/
inductive Path where
  | pf
  | vf (n : Fin 5)
  | mgt
  deriving DecidableEq, Repr

/-- What an audio side sees on its frame sync (R389). A master ignores it. -/
inductive AudSync where
  /-- an edge, rising or falling, `count` bit clocks after the side's last frame boundary (while SEEKING, after the last edge); the
  bit-clock rate is within ±0.1 % -/
  | edge (rising : Bool) (count : Nat) (inRate : Bool)
  /-- the side's frame boundary passes without a frame sync -/
  | absent
  deriving DecidableEq, Repr

/-- What the data pin of a receive side held at each bit clock of a TDM frame, sampled on the rising and on the falling edges of the
bit clock (R387); the first is that in which the frame-sync edge is first sampled (R386). -/
structure TdmLine where
  rising : List Bool
  falling : List Bool
  deriving DecidableEq, Repr

/-- What has happened to one beat when the controller reads it (R411 to R413): errors in its symbols (0 to 31 the data, 32 to 35 the
check bytes) beside those that it held before, a beat read from the wrong place, the reports of the stack's on-die ECC, read
data parity that fails again on the retry. -/
structure BeatCheck where
  errors : List (Nat × Byte) := []
  misplaced : Bool := false
  stackCorrected : Bool := false
  stackFailed : Bool := false
  parity : Bool := false
  deriving DecidableEq, Repr

/-- Where a merge candidate comes from (R233). There is no temporal source (R245). -/
inductive MergeSource where
  | spatial | zero | history | pairwise
  deriving DecidableEq, Repr

/-- A tool of transform and quantisation that the encoder may use (R233). -/
inductive TxTool where
  | dct | transformSkip | rdoq | signHiding | mts | lfnst | depQuant | jointCbCr
  deriving DecidableEq, Repr

/-- How a prediction unit is predicted: intra with its luma mode and the mode its chroma comes to, or inter from list 0 with
the reference index, the vector in quarter samples, and the source of its merge candidate if it is merged. -/
inductive Prediction where
  | intra (luma chroma : Nat)
  | inter (ref : Nat) (mvx mvy : Int) (merge : Option MergeSource)
  deriving DecidableEq, Repr

/-- A prediction unit: its place in the CTU and size, in luma samples, and its prediction. -/
structure PredUnit where
  x : Nat
  y : Nat
  w : Nat
  h : Nat
  pred : Prediction
  deriving DecidableEq, Repr

/-- A coding unit: its place in the CTU and size, cu_skip_flag, its prediction units, the smallest and largest side of its
transform blocks, the tools used, and how many inter candidates and intra modes were fully evaluated for it (R247). -/
structure CodingUnit where
  x : Nat
  y : Nat
  w : Nat
  h : Nat
  skip : Bool := false
  units : List PredUnit
  tbMin : Nat := 32
  tbMax : Nat := 32
  tools : List TxTool := []
  inters : Nat := 0
  intras : Nat := 0
  deriving DecidableEq, Repr

/-- How the coding of one CTU turns out (R240, R275, R276): the coding units that its search chose (none where the rules
leave it none) and the bytes that they complete; the bytes of its fixed-cost form, and whether that form's fill is a skipped
one (R246); the cabac_zero_words that its slice needs if it is the last of it; whether its coding had begun when an emergency
was declared (R278); a failing read (address and syndrome class); the sums of its record (R332): SAD, ACT, SSE_Y, SSE_C. -/
structure CtuResult where
  cus : List CodingUnit := []
  data : List Byte := []
  formData : List Byte := []
  formSkip : Bool := true
  zeroWords : Nat := 0
  begun : Bool := true
  memErr : Option (Nat × Nat) := none
  meas : List Nat := []
  deriving DecidableEq, Repr

/-- Where and why decoding stops (R326, R327). -/
structure StopCause where
  cause : Nat
  cls : Nat
  ctu : Nat := 0xFFFF
  offset : Nat := 0
  deriving DecidableEq, Repr

/-- What a completed task hands back: the beats its reads found (R411, R412); for a COMPOSE the reads of lookup tables that
fail (composed line, layer, address, syndrome class: R201); for a SEGMENT its CTUs; for VERIFY where the decoder's
reconstruction of the row differs from the encoder's (raster CTU address, byte of its area, value), or a stop (R330). -/
structure TaskResult where
  beats : List (Nat × BeatCheck) := []
  lut : List (Nat × Nat × Nat × Nat) := []
  ctus : List CtuResult := []
  differ : List (Nat × Nat × Byte) := []
  stop : Option StopCause := none
  deriving DecidableEq, Repr

/-- What a motion-vector entry says of a 16×16 block of a decoded stream (R334): the prediction unit that covers its top-left
luma sample; `l1`: its vector is from list 1. -/
structure MvBlock where
  intra : Bool := false
  skip : Bool := false
  merge : Bool := false
  bi : Bool := false
  l1 : Bool := false
  ref : Nat := 0
  mvx : Int := 0
  mvy : Int := 0
  deriving DecidableEq, Repr

/-- One CTU of a decoded stream, as its record and entries give it (R333, R334): its blocks in raster order. -/
structure DecodedCtu where
  bits : Nat := 0
  qp : Int := 0
  cus : Nat := 0
  area : List Nat := []
  act : Nat := 0
  tile : Nat := 0
  blocks : List MvBlock := []
  deriving DecidableEq, Repr

/-- What decoding one access unit finds in it, by the processes of the standard that the stream follows (R325 to R329): which
standard; the first stop met in its syntax; the CTU reached where bytes or a read fail; the POC; the pictures that the
reference picture set or the lists name, each with the offset of the element that names it; DPB size, reordering and latency
(0: no limit) of the sequence; whether the picture is output, and whether pictures before an IRAP picture are not; the
recovery count of a VVC picture header; bit depth; the bytes of the DPB that it reads (address, count); what the reads find;
CTU size and CTUs. -/
structure DecodeResult where
  vvc : Bool := false
  stop : Option StopCause := none
  reached : Nat := 0xFFFF
  poc : Int := 0
  refs : List (Int × Nat) := []
  buffering : Nat := 6
  reorder : Nat := 0
  latency : Nat := 0
  output : Bool := true
  noPrior : Bool := false
  recovery : Nat := 0
  depth : Nat := 8
  reads : List (Nat × Nat) := []
  beats : List (Nat × BeatCheck) := []
  size : Nat := 64
  ctus : List DecodedCtu := []
  deriving DecidableEq, Repr

/-- An Ubnen-P line packet as a group's receiver rebuilds it (R362, R365, R366). -/
structure ColumnRun where
  /-- lane group, 0 to 4 -/
  group : Nat
  /-- running disparity of each lane before the first column, from the group's first P-lane; true is positive -/
  rds : List Bool
  /-- the code groups on the lanes, column by column, after deskew and with any markers between them: from a START column to the
  END, ABORT or START column that ends the packet. A code group is ten bits as they stand on the line, the first most
  significant -/
  columns : List (List Nat)
  deriving DecidableEq, Repr

/-- The strap levels that a reset samples (R56). -/
structure Straps where
  addr : Nat := 0
  smb : Bool := false
  link : Nat := 0
  test : Bool := false
  deriving DecidableEq, Repr

/-- Which umpire SRAM records fail their own CRC at an AUX reset from AUX_RST# (R55, R466): log entries by SEQ, the kept
next sequence number, scorecards by unit and place (0 latest, 1 previous), training records by unit, the image. -/
structure KeptRecords where
  badLog : List Nat := []
  seqOk : Bool := true
  badCards : List (Nat × Nat) := []
  badTraining : List Nat := []
  imageOk : Bool := true
  deriving DecidableEq, Repr

/-- The options of the port that R101 lists or names as not supported, as configuration space reports them. -/
inductive PciFeature where
  | vc1 | aer | ari | sriov | flr | d3hot | tags14 | relaxedOrdering | noSnoop
  | aspmL0s | aspmL1 | l1Substates | l0p | ats | pri | pasid | tph | ide | peerToPeer | retryStatus
  deriving DecidableEq, Repr

/-- A configuration request (R101 to R106). Function 0 is the PF, n + 1 the VF of CUn. -/
inductive ConfigReq where
  /-- a read of an offset whose content the specification does not give -/
  | read (fn offset : Nat)
  /-- a read that tells whether an option is supported (R101) -/
  | feature (fn : Nat) (x : PciFeature)
  /-- a read and a write-one-to-clear of the AER status of a function (R101) -/
  | readAer (fn : Nat)
  | clearAer (fn mask : Nat)
  /-- Device Control: codes of Max Payload Size and Max Read Request Size, Enable Relaxed Ordering, Enable No Snoop (R101) -/
  | deviceControl (fn mps mrrs : Nat) (relaxed noSnoop : Bool)
  /-- Bus Master Enable of a function -/
  | busMaster (fn : Nat) (on : Bool)
  /-- VF Enable and NumVFs -/
  | sriov (enable : Bool) (numVfs : Nat)
  /-- MSI-X Enable and Function Mask of a function -/
  | msix (fn : Nat) (enable mask : Bool)
  /-- VC1 enabled with TC7 mapped to it, or not -/
  | vc1 (on : Bool)
  /-- any other write -/
  | write (fn offset value : Nat)
  deriving DecidableEq, Repr

/-- What a unit start meets (R69, R72, R419): the umpire SRAM gives the resident image back as it was stored, or with
another body, which the digest check is to find; or the check of the restored training fails. -/
inductive StartResult where
  | good
  | body (bytes : List Byte)
  | badMemory
  deriving DecidableEq, Repr

/-- A completion of a device read (R120): its data, or an error (UR or CA, or poisoned data). -/
inductive ReadReply where
  | data (bytes : List Byte)
  | error (poisoned : Bool)
  deriving DecidableEq, Repr

/-- A Parnouz request as it arrives (R132): the bytes after OPCODE. In I3C mode these are TAG, LEN, the arguments and the
CRC-8; in SMBus mode the byte count, TAG, the arguments and the PEC. -/
structure MgtReq where
  bytes : List Byte := []
  deriving DecidableEq, Repr

/-- What a housekeeping round reads (R441, R442, R454, R457): the six dies and the five stacks in 0.1 °C (none: absent),
the lowest ageing margins of the six dies in ps and their rails' Voltage reads in mV, and for each unit its four voltage
monitors and the voltage its loop would hold at full load and 85 °C; `volts` gives none for a Voltage read that goes unanswered. `link` is
the level of STRAP_LINK, which a device reset samples (R56). -/
structure Round where
  dies : List (Option Int) := []
  stackTemps : List (Option Int) := []
  margins : List Nat := []
  volts : List (Option Nat) := []
  monitors : List (List Nat) := []
  needs : List Nat := []
  link : Nat := 0
  deriving DecidableEq, Repr

/-- Energy of the last second in µJ (R458 to R460): CTU engines and whole die of each unit, and the package. -/
structure EnergyReport where
  enc : List Nat := []
  unit : List Nat := []
  package : Nat := 0
  deriving DecidableEq, Repr

/-- The level that POWER_FAIL loses, VDD_HUB or PWR_GOOD, and what the device reset samples of STRAP_LINK (R56, R61). -/
structure SupplyLoss where
  hub : Bool
  link : Nat := 0
  deriving DecidableEq, Repr

/-- What a register read names: the BAR, the offset within it, and whether the request came on VC1 (R103, R125). -/
structure BarAt where
  bar : Nat
  off : Nat
  vc1 : Bool := false
  deriving DecidableEq, Repr

/-- What a BAR2 read names: the offset, and whether the request came on VC1 (R108, R125). -/
structure WindowAt where
  off : Nat
  vc1 : Bool := false
  deriving DecidableEq, Repr

/-- A timing reference and the offset that it shows (R345, R348). -/
structure RefAt where
  ref : Nat
  offset : Int
  deriving DecidableEq, Repr

/-- A unit and what its timing unit finds there: the greatest error within a window, in 2⁻¹⁶ ns (R351), or the frequency of
CUn_LOSC in Hz (R340). -/
structure UnitValue where
  unit : Fin 5
  value : Nat
  deriving DecidableEq, Repr

/-- A frame that the T-lane of a unit receives, from its destination address to its frame check sequence (R355). -/
structure UnitFrame where
  unit : Fin 5
  frame : List Byte
  deriving DecidableEq, Repr

/-- The commands of the device: one constructor per row of spec/opcode_table.json, in its order. `n` is a channel unit;
`u` a channel unit or, with none, the hub; `path` the access path of a register access (R81). -/
inductive Instr where
  /-- VDD_AUX_RISE (R55) -/
  | vddAuxRise (straps : Straps)
  /-- AUX_RST_ASSERT (R55) -/
  | auxRstAssert (straps : Straps) (kept : KeptRecords)
  /-- POWER_FAIL (R61) -/
  | powerFail (loss : SupplyLoss)
  /-- PWR_GOOD_RISE (R58) -/
  | pwrGoodRise (link : Nat)
  /-- HBM_TRAINING_START (R63) -/
  | hbmTrainingStart (invalid : List Nat)
  /-- HBM_TRAINING_DONE (R63) -/
  | hbmTrainingDone (n : Fin 5) (failing : Nat)
  /-- START_AFTER_TRAINING (R65) -/
  | startAfterTraining (n : Fin 5)
  /-- LINK_RESET (R52) -/
  | linkReset
  /-- LINK_DOWN (R128) -/
  | linkDown
  /-- LTSSM_CHANGE (R100) -/
  | ltssmChange (state rate width : Nat) (flit : Bool)
  /-- CONFIG_REQUEST (R101) -/
  | configRequest (r : ConfigReq)
  /-- FUNCTION_RESET (R52) -/
  | functionReset (n : Fin 5)
  /-- D3HOT_ENTRY (R102) -/
  | d3hotEntry (fn : Nat)
  /-- D0_RETURN (R102) -/
  | d0Return (fn : Nat)
  /-- SUPPLY_ISOLATION (R62) -/
  | supplyIsolation (n : Fin 5)
  /-- AVS_TIMEOUT (R51) -/
  | avsTimeout (rail : Nat)
  /-- IMG_LOAD (R68) -/
  | imgLoad (path : Path) (value : Word)
  /-- IMG_LOAD_DONE (R68); `last` is the completion of the last read, where it has not come by PCIE_COMPLETION -/
  | imgLoadDone (last : Option ReadReply)
  /-- UNIT_REQ_COLD (R73) -/
  | unitReqCold (path : Path) (n : Fin 5) (keep : Byte)
  /-- UNIT_REQ_PARKED (R421) -/
  | unitReqParked (path : Path) (n : Fin 5) (keep : Byte)
  /-- UNIT_REQ_HELD (R74) -/
  | unitReqHeld (path : Path) (n : Fin 5) (keep : Byte)
  /-- UNIT_REQ_RUN (R72) -/
  | unitReqRun (path : Path) (n : Fin 5) (keep : Byte)
  /-- UNIT_START_COMPLETE (R72) -/
  | unitStartComplete (n : Fin 5) (r : StartResult)
  /-- UNIT_STOP_COMPLETE (R73) -/
  | unitStopComplete (n : Fin 5)
  /-- FORCED_STEP (R472) -/
  | forcedStep (n : Fin 5) (step : Nat)
  /-- PARK_FAILED (R473) -/
  | parkFailed (n : Fin 5)
  /-- HELD_WRITE_AFTER_SUBST (R74) -/
  | heldWriteAfterSubst (n : Fin 5)
  /-- REG_WRITE (R93) -/
  | regWrite (path : Path) (bar off : Nat) (value : Word) (be : BitVec 4)
  /-- LATCHED_READ (R87) -/
  | latchedRead (path : Path) (at_ : BarAt)
  /-- READ_CLEAR (R8) -/
  | readClear (path : Path) (off : Nat)
  /-- TABLE_IDX_WRITE (R88) -/
  | tableIdxWrite (path : Path) (off : Nat) (value : Word)
  /-- TABLE_DATA_WRITE (R88) -/
  | tableDataWrite (path : Path) (off : Nat) (value : Word)
  /-- TABLE_DATA_READ (R88) -/
  | tableDataRead (path : Path) (off : Nat)
  /-- REVERT (R84) -/
  | revert (path : Path) (page : Nat) (value : Word)
  /-- ERR_CLEAR (R84) -/
  | errClear (path : Path) (page : Nat)
  /-- INT_CLR (R85) -/
  | intClr (path : Path) (page : Nat) (value : Word)
  /-- BLOCK_TIMEOUT (R84) -/
  | blockTimeout (u : Option (Fin 5)) (block wait : Nat)
  /-- EVT_INJECT (R99) -/
  | evtInject (path : Path) (u : Option (Fin 5)) (value : Word)
  /-- EVENT_DELIVER (R97) -/
  | eventDeliver (u : Option (Fin 5))
  /-- DOORBELL (R113) -/
  | doorbell (path : Path) (u : Option (Fin 5)) (ring : Nat) (value : Word)
  /-- RING_ENABLE (R113) -/
  | ringEnable (path : Path) (u : Option (Fin 5)) (ring : Nat)
  /-- RING_DISABLE (R116) -/
  | ringDisable (path : Path) (u : Option (Fin 5)) (ring : Nat)
  /-- DESCRIPTOR_COMPLETE (R115) -/
  | descriptorComplete (ring : Nat)
  /-- PCIE_COMPLETION (R120) -/
  | pcieCompletion (ring : Nat) (r : ReadReply)
  /-- DMA_READ_TIMEOUT (R120) -/
  | dmaReadTimeout (ring : Nat)
  /-- MSIX_MODERATION_TIMEOUT (R122) -/
  | msixModerationTimeout (ring : Nat)
  /-- BAR2_WRITE (R110) -/
  | bar2Write (path : Path) (off : Nat) (bytes : List Byte) (vc1 : Bool)
  /-- BAR2_READ (R109) -/
  | bar2Read (path : Path) (at_ : WindowAt) (len : Nat) (beats : List (Nat × BeatCheck))
  /-- SINK_DRAIN (R110) -/
  | sinkDrain (n : Fin 5)
  /-- QUENCH (R127) -/
  | quench (path : Path) (n : Fin 5)
  /-- QUENCH_DONE (R127) -/
  | quenchDone (n : Fin 5) (ns : Nat)
  /-- RESUME (R127) -/
  | resume (path : Path) (n : Fin 5)
  /-- READ32 (R134) -/
  | read32 (q : MgtReq)
  /-- WRITE32 (R134) -/
  | write32 (q : MgtReq)
  /-- GET_STATUS (R469) -/
  | getStatus (q : MgtReq)
  /-- READ_LOG (R134) -/
  | readLog (q : MgtReq)
  /-- READ_SCORECARD (R135) -/
  | readScorecard (q : MgtReq)
  /-- SET_POWER (R134) -/
  | setPower (q : MgtReq)
  /-- RESET_UNIT (R134) -/
  | resetUnit (q : MgtReq)
  /-- SUBSTITUTE (R430) -/
  | substitute (q : MgtReq)
  /-- FORCE_SHUTDOWN (R453) -/
  | forceShutdown (q : MgtReq)
  /-- MGT_QUENCH (R127) -/
  | mgtQuench (q : MgtReq)
  /-- MGT_RESUME (R134) -/
  | mgtResume (q : MgtReq)
  /-- LANE_STATE (R384) -/
  | laneState (q : MgtReq)
  /-- LINK_STATE (R134) -/
  | linkState (q : MgtReq)
  /-- SET_BUS_MODE (R131) -/
  | setBusMode (q : MgtReq)
  /-- UNKNOWN_OPCODE (R134) -/
  | unknownOpcode (opcode : Nat) (q : MgtReq)
  /-- RESPONSE_READ (R133) -/
  | responseRead
  /-- REQUEST_TIMEOUT (R133) -/
  | requestTimeout
  /-- ENEC (R129) -/
  | enec (events : Byte)
  /-- DISEC (R129) -/
  | disec (events : Byte)
  /-- RSTDAA (R129) -/
  | rstdaa
  /-- ENTDAA (R129) -/
  | entdaa (addr : Nat)
  /-- SETDASA (R129) -/
  | setdasa (addr : Nat)
  /-- SETMWL (R129) -/
  | setmwl (len : Nat)
  /-- SETMRL (R129) -/
  | setmrl (len : Nat)
  /-- GETPID (R129) -/
  | getpid
  /-- GETBCR (R129) -/
  | getbcr
  /-- GETDCR (R129) -/
  | getdcr
  /-- GETSTATUS (R129) -/
  | getstatus
  /-- GETMXDS (R129) -/
  | getmxds
  /-- RSTACT (R129) -/
  | rstact (action : Nat)
  /-- ALERT_RESPONSE (R130) -/
  | alertResponse
  /-- SMBUS_TIMEOUT (R130) -/
  | smbusTimeout
  /-- COMMIT (R144) -/
  | commit (path : Path) (n : Fin 5)
  /-- COMMIT_AT (R146) -/
  | commitAt (path : Path) (n : Fin 5)
  /-- ADMISSION_VERDICT (R153) -/
  | admissionVerdict (n : Fin 5)
  /-- COMMIT_DONE (R147) -/
  | commitDone (n : Fin 5)
  /-- SLIP_PENDING (R145) -/
  | slipPending (n : Fin 5)
  /-- CONFIG_RECORD_TIMEOUT (R474) -/
  | configRecordTimeout (n : Fin 5)
  /-- LINE_TICK (R176) -/
  | lineTick (n : Fin 5) (back : Nat)
  /-- CONTEXT_FREED_RELEASE (R174) -/
  | contextFreedRelease (n : Fin 5)
  /-- TASK_COMPLETE (R177) -/
  | taskComplete (n : Fin 5) (executor : Nat) (r : TaskResult)
  /-- LINE_PACKET (R197) -/
  | linePacket (n : Fin 5) (k : ColumnRun)
  /-- FLIP_ARM (R208) -/
  | flipArm (path : Path) (n : Fin 5) (ctx layer : Nat)
  /-- FLIP_APPLY (R208) -/
  | flipApply (n : Fin 5) (ctx layer : Nat)
  /-- CYCLE (R238) -/
  | cycle (path : Path) (n : Fin 5) (prog : Nat)
  /-- FREEZE (R254) -/
  | freeze (path : Path) (n : Fin 5) (prog : Nat)
  /-- PCR_ONLY_PACKET (R292) -/
  | pcrOnlyPacket (n : Fin 5) (prog : Nat)
  /-- PATH_UNDERRUN (R300) -/
  | pathUnderrun (n : Fin 5) (x : Nat)
  /-- UBNEN_S_RECEIVE (R306); the operands are those of a ColumnRun -/
  | ubnenSReceive (n : Fin 5) (group : Nat) (rds : List Bool) (columns : List (List Nat))
  /-- HOLD_EXPIRY (R307) -/
  | holdExpiry (n : Fin 5)
  /-- ACCESS_UNIT_DECODE (R325) -/
  | accessUnitDecode (n : Fin 5) (r : DecodeResult)
  /-- DECODER_RESUME (R328) -/
  | decoderResume (path : Path) (n : Fin 5)
  /-- DECODER_STARVED (R323) -/
  | decoderStarved (n : Fin 5)
  /-- SCORECARD_RECEIVE (R427) -/
  | scorecardReceive (n : Fin 5) (crcOk : Bool)
  /-- SCORECARD_TIMEOUT (R474) -/
  | scorecardTimeout (n : Fin 5)
  /-- HOST_TIME_SAMPLE (R342) -/
  | hostTimeSample (path : Path) (n : Fin 5) (value : Word)
  /-- PHASE_ADJUST (R352) -/
  | phaseAdjust (path : Path) (n : Fin 5) (value : Word)
  /-- PPS_EDGE (R343) -/
  | ppsEdge (n : Fin 5) (width : Nat) (tenMeg : Option Int)
  /-- LOSC_FAIL (R340) -/
  | loscFail (n : Fin 5) (hz : Nat)
  /-- REFERENCE_QUALIFIED (R345) -/
  | referenceQualified (n : Fin 5) (ref : Nat) (offset : Int)
  /-- REFERENCE_ABSENT (R342) -/
  | referenceAbsent (n : Fin 5) (ref : Nat)
  /-- TIM_DRIFT (R347) -/
  | timDrift (n : Fin 5) (ref : Nat) (offset : Int)
  /-- TIM_SWITCH (R349) -/
  | timSwitch (n : Fin 5) (offset : Int)
  /-- TIM_CONTEST (R348) -/
  | timContest (n : Fin 5) (a b : RefAt)
  /-- CONTEST_WINDOW_END (R348); `offsetW` is the witness's -/
  | contestWindowEnd (n : Fin 5) (a b : RefAt) (offsetW : Int)
  /-- REVERT_SWITCH (R346) -/
  | revertSwitch (n : Fin 5) (ref : Nat)
  /-- LOCK_ACHIEVED (R351) -/
  | lockAchieved (x : UnitValue)
  /-- LOCK_LOST (R351) -/
  | lockLost (x : UnitValue)
  /-- HOLDOVER_EXPIRY (R351) -/
  | holdoverExpiry (n : Fin 5)
  /-- PTP_SYNC (R357) -/
  | ptpSync (n : Fin 5) (frame : List Byte)
  /-- PTP_FOLLOW_UP (R355) -/
  | ptpFollowUp (n : Fin 5) (frame : List Byte)
  /-- PTP_DELAY_RESP (R356) -/
  | ptpDelayResp (n : Fin 5) (frame : List Byte)
  /-- PTP_ANNOUNCE (R355): the Ethernet header of the frame and what follows it -/
  | ptpAnnounce (n : Fin 5) (header body : List Byte)
  /-- PTP_DELAY_REQ_RECEIVE (R355) -/
  | ptpDelayReqReceive (n : Fin 5) (frame : List Byte)
  /-- PTP_SYNC_TRANSMIT (R358) -/
  | ptpSyncTransmit (n : Fin 5)
  /-- PTP_DELAY_REQ_TRANSMIT (R355) -/
  | ptpDelayReqTransmit (n : Fin 5)
  /-- ANNOUNCE_TIMEOUT (R342) -/
  | announceTimeout (n : Fin 5)
  /-- ARP_REQUEST (R355): the Ethernet header of the frame and what follows it -/
  | arpRequest (n : Fin 5) (header body : List Byte)
  /-- ICMP_ECHO (R355): the Ethernet header of the frame, the IP header, and what follows it -/
  | icmpEcho (n : Fin 5) (header ip body : List Byte)
  /-- LANE_SIGNAL_DETECT (R373) -/
  | laneSignalDetect (n : Fin 5) (lane : Nat)
  /-- CDR_LOCK (R373) -/
  | cdrLock (n : Fin 5) (lane : Nat)
  /-- COMMA_ALIGN (R373) -/
  | commaAlign (n : Fin 5) (lane : Nat)
  /-- POLARITY_PASS (R373) -/
  | polarityPass (n : Fin 5) (lane : Nat)
  /-- POLARITY_INVERT (R373) -/
  | polarityInvert (n : Fin 5) (lane : Nat)
  /-- LANE_ORDER (R373) -/
  | laneOrder (n : Fin 5) (group : Nat) (rev : Bool)
  /-- LANE_UP (R374) -/
  | laneUp (n : Fin 5) (group : Nat) (skews : List Nat)
  /-- BRINGUP_TIMEOUT (R373) -/
  | bringupTimeout (n : Fin 5) (lane : Nat)
  /-- LANE_LOST (R376) -/
  | laneLost (n : Fin 5) (lane cause violations : Nat)
  /-- ALIGNMENT_MARKER (R363) -/
  | alignmentMarker (n : Fin 5) (lane laneNo count check skew : Nat)
  /-- ALIGN_LOST (R377) -/
  | alignLost (n : Fin 5) (group : Nat)
  /-- AUTONEG_COMPLETE (R375) -/
  | autonegComplete (n : Fin 5) (partner : Nat)
  /-- S_LANE_TX_START (R371) -/
  | sLaneTxStart (n : Fin 5) (lane : Nat)
  /-- EYE_SCAN (R383) -/
  | eyeScan (path : Path) (n : Fin 5) (lane : Nat)
  /-- EYE_SCAN_DONE (R383) -/
  | eyeScanDone (n : Fin 5) (lane : Nat) (errors : List Nat)
  /-- PRBS_CLEAR (R382) -/
  | prbsClear (path : Path) (n : Fin 5) (lane : Nat)
  /-- PRBS_LOCK (R382): bits of the line, those before the window of 64 bits that decides, the window, and those after it -/
  | prbsLock (n : Fin 5) (lane : Nat) (before window after : List Bool)
  /-- ADAPTATION_UPDATE (R381) -/
  | adaptationUpdate (n : Fin 5) (lane : Nat) (moves : List Int)
  /-- FOM_UPDATE (R381) -/
  | fomUpdate (n : Fin 5) (lane fom : Nat)
  /-- TDM_FRAME (R390) -/
  | tdmFrame (n : Fin 5) (port : Nat) (sync : AudSync) (line : TdmLine) (errors : List Nat)
  /-- TDM_FRAME_TRANSMIT (R391) -/
  | tdmFrameTransmit (n : Fin 5) (port : Nat) (sync : AudSync) (beats : List (Nat × BeatCheck))
  /-- MASK_ARM (R392) -/
  | maskArm (path : Path) (n : Fin 5) (port side : Nat)
  /-- RESTART_REQUEST (R399) -/
  | restartRequest (path : Path) (n : Fin 5) (port side : Nat)
  /-- BIT_CLOCK_LOSS (R389) -/
  | bitClockLoss (n : Fin 5) (port side : Nat)
  /-- INIT_DONE (R406) -/
  | initDone (n : Fin 5)
  /-- SCRUB_BEAT (R417) -/
  | scrubBeat (n : Fin 5) (k : BeatCheck)
  /-- RECALIBRATION (R420) -/
  | recalibration (n : Fin 5) (temp : Int)
  /-- STORM_CLEAR (R416) -/
  | stormClear (n : Fin 5)
  /-- BENCH_DESIGNATE (R425) -/
  | benchDesignate (path : Path) (value : Word)
  /-- SUBST_GO (R430) -/
  | substGo (path : Path) (unit : Nat)
  /-- SUBST_RETURN (R439) -/
  | substReturn (path : Path) (unit : Nat)
  /-- WATCHDOG (R431) -/
  | watchdog (n : Fin 5) (prog : Nat)
  /-- BENCH_SEL_DRIVE (R38) -/
  | benchSelDrive
  /-- HOUSEKEEPING_ROUND (R441) -/
  | housekeepingRound (r : Round)
  /-- START_AFTER_COOLING (R451) -/
  | startAfterCooling (n : Fin 5)
  /-- THERM_TRIP_RELEASE (R452) -/
  | thermTripRelease
  /-- FORCE (R453) -/
  | force (path : Path) (value : Word)
  /-- MARGIN_COMPARATOR (R455) -/
  | marginComparator (rail : Nat)
  /-- AVS_STEP_DUE (R454) -/
  | avsStepDue (rail : Nat)
  /-- ENERGY_SECOND (R459) -/
  | energySecond (e : EnergyReport)
  /-- LOG_CLEAR (R464) -/
  | logClear (path : Path)
  /-- SUPPRESSED (R467) -/
  | suppressed (source typ : Nat)
  /-- STATUS_READ (R469) -/
  | statusRead (path : Path)
  /-- VDD_AUX_LOSS (R41) -/
  | vddAuxLoss
  /-- BANK_SUPPLY_CHANGE (R59) -/
  | bankSupplyChange (bank : Nat) (up : Bool)
  /-- PERST_DEASSERT (R58) -/
  | perstDeassert
  /-- LREF_LOSS (R385) -/
  | lrefLoss (n : Fin 5)
  /-- LOSC_RETURN (R340) -/
  | loscReturn (x : UnitValue)
  /-- HARD_CROSSING (R345) -/
  | hardCrossing (n : Fin 5) (ref : Nat) (offset : Int)
  /-- PAIR_AGREE (R348) -/
  | pairAgree (n : Fin 5) (a b : RefAt)
  /-- DISCARDED_FRAME (R355) -/
  | discardedFrame (f : UnitFrame)
  /-- ANNOUNCE_TRANSMIT (R355) -/
  | announceTransmit (n : Fin 5)
  deriving DecidableEq, Repr

end Sys2Proof
end

