-- ==== Sys2Proof/Decode.lean ====
section
/-! DEFINITION. The words of spec/opcode_table.json: it gives bits to no row, so no word spells a command. -/

namespace Sys2Proof

/-- The command that a word spells by the table's bits: none, whatever the word. -/
def decodeTableWord (_nbits _w : Nat) : Option Instr := none

end Sys2Proof
end

