-- ==== Sys2Proof/Config.lean ====
section
/-! DEFINITION. What an implementation fixes and the specification does not state: constants and free values
WITHOUT a body, so that no proof can see a value of them. Free values are applied to plain counters of the state
(`free` of a unit, of the centre), which the machine reads and advances. -/

namespace Sys2Proof.Config

/-- MINOR and MAJOR of xxx_ID by block code (R84 gives no values). -/
opaque blockVersion : Nat → Nat

/-- BLOCKCAP of xxx_CAP by block code, which no chapter defines (R84). -/
opaque blockCap : Nat → Nat

/-- MODEL of SCH_ADMIT_MODEL (06_channel_modes.md): the version number of the admission model. -/
opaque admitModel : Nat

/-- The I3C provisioned ID, bus and device characteristics (R129 names them without values). -/
opaque pid : Nat
opaque bcr : Nat
opaque dcr : Nat
opaque mxds : Nat

/-- The Solkeder image-signing public key in the umpire ROM, a point of P-384 (R67). -/
opaque imageKey : Nat × Nat

/-- The margin target of a rail, from firmware or fuse data (18_thermal_power_telemetry.md); it is read within 50 to 250. -/
opaque marginTarget : Nat → Nat

/-- The guard band of the hub's rail in mV: no register holds it (R454). -/
opaque hubGuard : Nat

/-- Frequency in 2⁻¹⁶ ppb that the steering loop asks for (R349, R351): the control law is not stated. -/
opaque loopTarget : Nat → Nat → Int

/-- A free byte of coded, reconstructed or carried data by unit, free counter and position. -/
opaque freeByte : Nat → Nat → Nat → Byte

/-- A free number by unit and free counter. -/
opaque freeNat : Nat → Nat → Nat

/-- The error of one place of the L1 to L7 sample arithmetic that a requirement bounds and does not fix. -/
opaque sampleError : Nat → Nat → Nat → Int

/-- Delay in 2⁻¹⁶ ns between a packet's release on an idle path and its first column (R299), and how much more path B takes
than path A (R298), by unit and free counter. -/
opaque sendDelay : Nat → Nat → Nat
opaque pathSkew : Nat → Nat → Nat

/-- Where a path stands in its period of alignment markers as a packet begins (R363), by unit and free counter. -/
opaque markerPhase : Nat → Nat → Nat

/-- Values of the syntax elements of parameter sets and headers that the specification leaves to the encoder, by element
(log entry 91). -/
opaque syntaxChoice : Nat → Nat

/-- Values of Ethernet, IPv4 and PTP fields that the specification leaves to the port (log entry 99): type of service,
identification, time to live, currentUtcOffset, timeSource. -/
opaque frameChoice : Nat → Nat

/-- Results of hub events that the specification leaves to the implementation, by free counter. -/
opaque hubFree : Nat → Nat

end Sys2Proof.Config
end

