-- ==== Sys2Proof/Machine/Crc.lean ====
section
/-! DEFINITION. The cyclic checks: CRC-32 of IEEE 802.3 (R221), CRC-16 of the headers (R365), the CRC-32 of
ISO/IEC 13818-1 sections. -/

namespace Sys2Proof.Machine

/-- One bit of the reflected CRC-32. -/
def crc32Bit (x : Nat) : Nat := if x % 2 = 1 then (x / 2) ^^^ 0xEDB88320 else x / 2

/-- One byte of the running CRC-32, initial value all ones, not yet complemented. -/
def crc32Byte (x : Nat) (b : Byte) : Nat :=
  crc32Bit (crc32Bit (crc32Bit (crc32Bit (crc32Bit (crc32Bit (crc32Bit (crc32Bit (x ^^^ b.toNat))))))))

/-- The running CRC-32 over a list of bytes. -/
def crc32Run (x : Nat) (bs : List Byte) : Nat := bs.foldl crc32Byte x

/-- The CRC-32 of a list of bytes (R221). -/
def crc32 (bs : List Byte) : Nat := (crc32Run 0xFFFFFFFF bs) ^^^ 0xFFFFFFFF

/-- One bit of an unreflected CRC of width `w`. -/
def crcTop (w poly x : Nat) : Nat :=
  if bitAt x (w - 1) then ((2 * x) % 2 ^ w) ^^^ poly else (2 * x) % 2 ^ w

/-- Eight steps of an unreflected CRC. -/
def crcTop8 (w poly x : Nat) : Nat :=
  let f := crcTop w poly
  f (f (f (f (f (f (f (f x)))))))

/-- CRC-16 with polynomial 0x1021, initial value 0xFFFF, no reflection, no complement (R365, R305). -/
def crc16 (bs : List Byte) : Nat :=
  bs.foldl (fun x b => crcTop8 16 0x1021 (x ^^^ (b.toNat * 2 ^ 8))) 0xFFFF

/-- The CRC-32 of transport-stream sections: polynomial 0x04C1_1DB7, unreflected, initial value all ones. -/
def crc32Mpeg (bs : List Byte) : Nat :=
  bs.foldl (fun x b => crcTop8 32 0x04C11DB7 (x ^^^ (b.toNat * 2 ^ 24))) 0xFFFFFFFF

/-- The CRC-8 of the SMBus PEC (R132): polynomial 0x07, initial value 0, no reflection, no final XOR. -/
def crc8 (bs : List Byte) : Nat := bs.foldl (fun x b => crcTop8 8 0x07 (x ^^^ b.toNat)) 0

end Sys2Proof.Machine
end

