-- ==== Sys2Proof/Machine/Image.lean ====
section
/-! DEFINITION. SHA-384 (FIPS 180-4) and the verification of an ECDSA P-384 signature (FIPS 186-5), which R67 to R69 name for
the digest and the signature of a microcode image. -/

namespace Sys2Proof.Machine

/-! ### SHA-384 -/

/-- The round constants of SHA-384: fractions of the cube roots of the first eighty primes. -/
def sha384K0 : List Nat := [
   0x428A2F98D728AE22, 0x7137449123EF65CD, 0xB5C0FBCFEC4D3B2F, 0xE9B5DBA58189DBBC,
   0x3956C25BF348B538, 0x59F111F1B605D019, 0x923F82A4AF194F9B, 0xAB1C5ED5DA6D8118,
   0xD807AA98A3030242, 0x12835B0145706FBE, 0x243185BE4EE4B28C, 0x550C7DC3D5FFB4E2,
   0x72BE5D74F27B896F, 0x80DEB1FE3B1696B1, 0x9BDC06A725C71235, 0xC19BF174CF692694,
   0xE49B69C19EF14AD2, 0xEFBE4786384F25E3, 0x0FC19DC68B8CD5B5, 0x240CA1CC77AC9C65]

/-- Round constants, continued. -/
def sha384K1 : List Nat := [
   0x2DE92C6F592B0275, 0x4A7484AA6EA6E483, 0x5CB0A9DCBD41FBD4, 0x76F988DA831153B5,
   0x983E5152EE66DFAB, 0xA831C66D2DB43210, 0xB00327C898FB213F, 0xBF597FC7BEEF0EE4,
   0xC6E00BF33DA88FC2, 0xD5A79147930AA725, 0x06CA6351E003826F, 0x142929670A0E6E70,
   0x27B70A8546D22FFC, 0x2E1B21385C26C926, 0x4D2C6DFC5AC42AED, 0x53380D139D95B3DF,
   0x650A73548BAF63DE, 0x766A0ABB3C77B2A8, 0x81C2C92E47EDAEE6, 0x92722C851482353B]

/-- Round constants, continued. -/
def sha384K2 : List Nat := [
   0xA2BFE8A14CF10364, 0xA81A664BBC423001, 0xC24B8B70D0F89791, 0xC76C51A30654BE30,
   0xD192E819D6EF5218, 0xD69906245565A910, 0xF40E35855771202A, 0x106AA07032BBD1B8,
   0x19A4C116B8D2D0C8, 0x1E376C085141AB53, 0x2748774CDF8EEB99, 0x34B0BCB5E19B48A8,
   0x391C0CB3C5C95A63, 0x4ED8AA4AE3418ACB, 0x5B9CCA4F7763E373, 0x682E6FF3D6B2B8A3,
   0x748F82EE5DEFB2FC, 0x78A5636F43172F60, 0x84C87814A1F0AB72, 0x8CC702081A6439EC]

/-- Round constants, continued. -/
def sha384K3 : List Nat := [
   0x90BEFFFA23631E28, 0xA4506CEBDE82BDE9, 0xBEF9A3F7B2C67915, 0xC67178F2E372532B,
   0xCA273ECEEA26619C, 0xD186B8C721C0C207, 0xEADA7DD6CDE0EB1E, 0xF57D4F7FEE6ED178,
   0x06F067AA72176FBA, 0x0A637DC5A2C898A6, 0x113F9804BEF90DAE, 0x1B710B35131C471B,
   0x28DB77F523047D84, 0x32CAAB7B40C72493, 0x3C9EBE0A15C9BEBC, 0x431D67C49C100D4C,
   0x4CC5D4BECB3E42B6, 0x597F299CFC657E2A, 0x5FCB6FAB3AD6FAEC, 0x6C44198C4A475817]

def sha384K : List Nat := sha384K0 ++ sha384K1 ++ sha384K2 ++ sha384K3

/-- The initial hash value: fractions of the square roots of the ninth to sixteenth primes. -/
def sha384H : List (BitVec 64) :=
  [0xCBBB9D5DC1059ED8#64, 0x629A292A367CD507#64, 0x9159015A3070DD17#64, 0x152FECD8F70E5939#64,
    0x67332667FFC00B31#64, 0x8EB44A8768581511#64, 0xDB0C2E0D64F98FA7#64, 0x47B5481DBEFA4FA4#64]

def shaBig0 (x : BitVec 64) : BitVec 64 := x.rotateRight 28 ^^^ x.rotateRight 34 ^^^ x.rotateRight 39
def shaBig1 (x : BitVec 64) : BitVec 64 := x.rotateRight 14 ^^^ x.rotateRight 18 ^^^ x.rotateRight 41
def shaSmall0 (x : BitVec 64) : BitVec 64 := x.rotateRight 1 ^^^ x.rotateRight 8 ^^^ (x >>> 7)
def shaSmall1 (x : BitVec 64) : BitVec 64 := x.rotateRight 19 ^^^ x.rotateRight 61 ^^^ (x >>> 6)

/-- The padded message: a 1 bit, zeros, and the length in bits in 16 bytes. -/
def shaPad (bs : List Byte) : List Byte :=
  bs ++ 0x80#8 :: (List.replicate ((239 - bs.length % 128) % 128) 0#8 ++ bytesBE 16 (8 * bs.length))

/-- The sixteen words of a block. -/
def shaWords (bs : List Byte) : List (BitVec 64) :=
  (List.range 16).map (fun i => BitVec.ofNat 64 (ofBytesBE ((bs.drop (8 * i)).take 8)))

/-- The eighty words of the message schedule. -/
def shaSchedule (ws : List (BitVec 64)) : List (BitVec 64) :=
  ((List.range 64).foldl (fun (l : List (BitVec 64)) _ =>
    (shaSmall1 (l.getD 1 0) + l.getD 6 0 + shaSmall0 (l.getD 14 0) + l.getD 15 0) :: l) ws.reverse).reverse

/-- One round on the eight working variables. -/
def shaRound (v : List (BitVec 64)) (k : Nat) (w : BitVec 64) : List (BitVec 64) :=
  match v with
  | [a, b, c, d, e, f, g, h] =>
    let t1 := h + shaBig1 e + ((e &&& f) ^^^ (~~~e &&& g)) + BitVec.ofNat 64 k + w
    let t2 := shaBig0 a + ((a &&& b) ^^^ (a &&& c) ^^^ (b &&& c))
    [t1 + t2, a, b, c, d + t1, e, f, g]
  | _ => v

/-- One block. -/
def shaBlock (h : List (BitVec 64)) (bs : List Byte) : List (BitVec 64) :=
  let v := (sha384K.zip (shaSchedule (shaWords bs))).foldl (fun v kw => shaRound v kw.1 kw.2) h
  (h.zip v).map (fun x => x.1 + x.2)

/-- `n` blocks. -/
def shaBlocks : Nat → List (BitVec 64) → List Byte → List (BitVec 64)
  | 0, h, _ => h
  | n + 1, h, bs => shaBlocks n (shaBlock h bs) (bs.drop 128)

/-- The SHA-384 digest of a list of bytes: 48 bytes. -/
def sha384 (bs : List Byte) : List Byte :=
  let m := shaPad bs
  ((shaBlocks (m.length / 128) sha384H m).take 6).flatMap (fun w => bytesBE 8 w.toNat)

/-! ### ECDSA over P-384 -/

/-- The field prime, the order of the base point, and the base point. -/
def p384P : Nat := 0xFFFFFFFFFFFFFFFFFFFFFFFFFFFFFFFFFFFFFFFFFFFFFFFFFFFFFFFFFFFFFFFEFFFFFFFF0000000000000000FFFFFFFF
def p384N : Nat := 0xFFFFFFFFFFFFFFFFFFFFFFFFFFFFFFFFFFFFFFFFFFFFFFFFC7634D81F4372DDF581A0DB248B0A77AECEC196ACCC52973
def p384G : Nat × Nat :=
  (0xAA87CA22BE8B05378EB1C71EF320AD746E1D3B628BA79B9859F741E082542A385502F25DBF55296C3A545E3872760AB7,
   0x3617DE4A96262C6F5D9E98BF9292DC29F8F41DBD289A147CE9DA3113B5F0B8C00A60B1CE1D7E819D7A431D7C90EA0E5F)

/-- `b` to the power `e` modulo `m`, for exponents below 2^384. -/
def powMod (m b e : Nat) : Nat :=
  ((List.range 384).reverse).foldl (fun acc i => if e.testBit i then acc * acc % m * b % m else acc * acc % m) 1

/-- The inverse modulo a prime. -/
def invMod (m a : Nat) : Nat := powMod m (a % m) (m - 2)

/-- The difference modulo the field prime. -/
def p384Sub (a b : Nat) : Nat := (a + p384P - b % p384P) % p384P

/-- The sum of two points of the curve; none is the point at infinity. -/
def p384Add (a b : Option (Nat × Nat)) : Option (Nat × Nat) :=
  match a, b with
  | none, b => b
  | a, none => a
  | some (x1, y1), some (x2, y2) =>
    if x1 = x2 ∧ (y1 + y2) % p384P = 0 then none
    else
      let l := if x1 = x2 then p384Sub (3 * x1 * x1) 3 * invMod p384P (2 * y1) % p384P
        else p384Sub y2 y1 * invMod p384P (p384Sub x2 x1) % p384P
      let x := p384Sub (l * l) (x1 + x2)
      some (x, p384Sub (l * p384Sub x1 x) y1)

/-- A multiple of a point. -/
def p384Mul (k : Nat) (a : Nat × Nat) : Option (Nat × Nat) :=
  ((List.range 384).reverse).foldl (fun acc i =>
    let acc := p384Add acc acc
    if k.testBit i then p384Add acc (some a) else acc) none

/-- The signature (r, s) of the digest `h` checks against the public key `q`. -/
def ecdsaOk (q : Nat × Nat) (h r s : Nat) : Bool :=
  decide (1 ≤ r) && decide (r < p384N) && decide (1 ≤ s) && decide (s < p384N) &&
    (let w := invMod p384N s
     match p384Add (p384Mul (h * w % p384N) p384G) (p384Mul (r * w % p384N) q) with
     | some (x, _) => x % p384N == r
     | none => false)

/-! ### Microcode images (R66 to R69) -/

/-- A part of an image: `n` bytes from byte `a`. -/
def imgPart (bs : List Byte) (a n : Nat) : List Byte := (bs.drop a).take n

/-- Header fields (R66). -/
def imgMagic (bs : List Byte) : Nat := wordAt bs 0x000
def imgLength (bs : List Byte) : Nat := wordAt bs 0x008
def imgVersion (bs : List Byte) : Nat := wordAt bs 0x00C
def imgEntry (bs : List Byte) : Nat := wordAt bs 0x010
def imgDigest (bs : List Byte) : List Byte := imgPart bs 0x040 48
def imgSigR (bs : List Byte) : Nat := ofBytesBE (imgPart bs 0x0A0 48)
def imgSigS (bs : List Byte) : Nat := ofBytesBE (imgPart bs 0x0D0 48)

/-- The body: bytes 0x100 to LENGTH − 1. -/
def imgBody (bs : List Byte) : List Byte := imgPart bs 0x100 (imgLength bs - 0x100)

/-- MAGIC of an image. -/
def imgMagicValue : Nat := 0x555A4B53

/-- The signature check (R67): SHA-384 over header bytes 0x000 to 0x09F, against the key in the umpire ROM. -/
def imgSigOk (bs : List Byte) : Bool :=
  ecdsaOk Config.imageKey (ofBytesBE (sha384 (imgPart bs 0 0xA0))) (imgSigR bs) (imgSigS bs)

/-- RESULT of an image read of `len` bytes: the first check that fails (R68), or 2. -/
def imgCheck (bs : List Byte) (len : Nat) : Nat :=
  if imgMagic bs ≠ imgMagicValue then 4
  else if imgLength bs ≠ len then 5
  else if sha384 (imgBody bs) ≠ imgDigest bs then 6
  else if !imgSigOk bs then 7
  else 2

end Sys2Proof.Machine
end

