-- ==== Sys2Proof/Machine/Bits.lean ====
section
/-! DEFINITION. Bits and bytes of coded syntax: fixed-length and Exp-Golomb codes, byte alignment, emulation prevention,
NAL units (H.265 clauses 7.3.1, 7.4.2, 9.2; H.266 the same; PRESUMED, log entry 91). -/

namespace Sys2Proof.Machine

/-- `n` bits of a number, most significant first. -/
def bitsU (n v : Nat) : List Bool := (List.range n).map (fun i => bitAt v (n - 1 - i))

/-- ue(v). -/
def bitsUe (v : Nat) : List Bool :=
  let k := Nat.log2 (v + 1)
  List.replicate k false ++ bitsU (k + 1) (v + 1)

/-- se(v). -/
def bitsSe (v : Int) : List Bool := bitsUe (if 0 < v then (2 * v - 1).toNat else (-2 * v).toNat)

/-- One bit. -/
def bit1 (b : Bool) : List Bool := [b]

/-- Bytes of a run of bits, first bit most significant; `n` bytes. -/
def packBits : Nat → List Bool → List Byte
  | 0, _ => []
  | n + 1, bs =>
    BitVec.ofNat 8 ((List.range 8).foldl (fun x i => 2 * x + b2n (bs.getD i false)) 0) :: packBits n (bs.drop 8)

/-- Bits until the next whole byte. -/
def padOf (n : Nat) : Nat := (8 - n % 8) % 8

/-- Bits followed by a one and zeros up to a whole byte: trailing bits of an RBSP, byte_alignment() of a slice header. -/
def trailed (bs : List Bool) : List Bool :=
  let b := bs ++ [true]
  b ++ List.replicate (padOf b.length) false

/-- Bits padded as an SEI payload or a VUI payload is: nothing if whole bytes, else a one and zeros. -/
def payloadBits (bs : List Bool) : List Bool := if bs.length % 8 = 0 then bs else trailed bs

/-- Whole bytes of a run of bits. -/
def bytesOfBits (bs : List Bool) : List Byte := packBits (bs.length / 8) bs

/-- Emulation prevention: `z` zero bytes stand just before. -/
def escapeFrom : Nat → List Byte → List Byte
  | _, [] => []
  | z, b :: l =>
    if 2 ≤ z ∧ b.toNat ≤ 3 then 3#8 :: b :: escapeFrom (if b = 0#8 then 1 else 0) l
    else b :: escapeFrom (if b = 0#8 then z + 1 else 0) l

/-- Zero bytes at the end of a run of bytes that follows `z` zero bytes. -/
def zerosAfter : Nat → List Byte → Nat
  | z, [] => z
  | z, b :: l => zerosAfter (if b = 0#8 then z + 1 else 0) l

/-- A run of bytes with its emulation prevention bytes removed: `z` zero bytes stand just before. -/
def unescapeFrom : Nat → List Byte → List Byte
  | _, [] => []
  | z, b :: l =>
    if 2 ≤ z ∧ b = 3#8 then unescapeFrom 0 l
    else b :: unescapeFrom (if b = 0#8 then z + 1 else 0) l

/-- The four-byte start code (R260). -/
def startCode : List Byte := [0#8, 0#8, 0#8, 1#8]

/-- The two bytes of a NAL unit header with nuh_layer_id 0 and TemporalId 0. -/
def nalHeader (vvc : Bool) (typ : Nat) : List Byte :=
  if vvc then [0#8, BitVec.ofNat 8 (typ * 8 + 1)] else [BitVec.ofNat 8 (typ * 2), 1#8]

/-- A NAL unit with its start code, from the whole bytes of its RBSP. -/
def nalOf (vvc : Bool) (typ : Nat) (rbsp : List Byte) : List Byte :=
  startCode ++ nalHeader vvc typ ++ escapeFrom 0 rbsp

/-- A NAL unit of a syntax structure that ends in trailing bits. -/
def nalBits (vvc : Bool) (typ : Nat) (bs : List Bool) : List Byte := nalOf vvc typ (bytesOfBits (trailed bs))

/-- The most bytes that a NAL unit of `n` bytes of RBSP can take: every possible emulation prevention byte counted (R282),
which is one before every second byte from the third. -/
def nalMost (n : Nat) : Nat := 6 + n + (n - 1) / 2

/-- Bytes of the RBSP of a syntax structure. -/
def rbspLen (bs : List Bool) : Nat := bs.length / 8 + 1

/-- The syntax of a NAL unit that holds one SEI message: type, size, payload. -/
def seiBits (typ : Nat) (payload : List Bool) : List Bool :=
  let p := payloadBits payload
  bitsU 8 typ ++ bitsU 8 (p.length / 8) ++ p

/-! ### Reading -/

/-- Bits of a run of bytes. -/
def bitsOfBytes (bs : List Byte) : List Bool := bs.flatMap (fun b => bitsU 8 b.toNat)

/-- The value of `n` bits, and what follows; none past the end. -/
def readU (n : Nat) (bs : List Bool) : Option (Nat × List Bool) :=
  if bs.length < n then none else some ((bs.take n).foldl (fun x b => 2 * x + b2n b) 0, bs.drop n)

/-- ue(v) and what follows. -/
def readUe (bs : List Bool) : Option (Nat × List Bool) :=
  let k := (bs.takeWhile (fun b => !b)).length
  match readU (k + 1) (bs.drop k) with
  | some (v, r) => some (v - 1, r)
  | none => none

/-- Skip `n` bits. -/
def skipBits (n : Nat) (bs : List Bool) : Option (List Bool) := if bs.length < n then none else some (bs.drop n)

end Sys2Proof.Machine
end

