-- ==== Sys2Proof/Machine/Store.lean ====
section
/-! DEFINITION. The one sparse store of the model: a list of (address, value) pairs in ONE canonical
form (addresses strictly rising, no entry equal to what an unlisted address reads as). The register
files of the hub, the umpire and the units use it with the reset values of 04_register_model.md (R53),
and each HBM array uses it with the zero of R406. -/

namespace Sys2Proof.Machine

variable {β : Type}

/-- What address `k` reads as: the listed value, else `d k`. -/
def storeGet (d : Nat → β) : List (Nat × β) → Nat → β
  | [], k => d k
  | (k', v) :: rest, k => if k = k' then v else storeGet d rest k

/-- Insert or replace the entry of address `k`, keeping the addresses rising. -/
def storeInsert : List (Nat × β) → Nat → β → List (Nat × β)
  | [], k, v => [(k, v)]
  | (k', v') :: rest, k, v =>
    if k < k' then (k, v) :: (k', v') :: rest
    else if k = k' then (k, v) :: rest
    else (k', v') :: storeInsert rest k v

/-- Remove the entry of address `k`. -/
def storeErase : List (Nat × β) → Nat → List (Nat × β)
  | [], _ => []
  | (k', v') :: rest, k => if k = k' then rest else (k', v') :: storeErase rest k

/-- Write `v` at address `k`: writing what an unlisted address reads as removes the entry. -/
def storeSet [DecidableEq β] (d : Nat → β) (l : List (Nat × β)) (k : Nat) (v : β) : List (Nat × β) :=
  if v = d k then storeErase l k else storeInsert l k v

/-- Every address of the list is above `k`. -/
def storeAbove : Nat → List (Nat × β) → Bool
  | _, [] => true
  | k, (k', _) :: rest => decide (k < k') && storeAbove k' rest

/-- The canonical form: addresses strictly rising, no entry equal to the default. -/
def storeWf [DecidableEq β] (d : Nat → β) : List (Nat × β) → Bool
  | [] => true
  | (k, v) :: rest => decide (v ≠ d k) && storeAbove k rest && storeWf d rest

/-- Keep only the addresses that satisfy `p` (a reset of the others: they read as `d` again). -/
def storeKeep (p : Nat → Bool) (l : List (Nat × β)) : List (Nat × β) := l.filter (fun e => p e.1)

/-- The `n` values from address `k` upward. -/
def storeRange (d : Nat → β) (l : List (Nat × β)) (k : Nat) : Nat → List β
  | 0 => []
  | n + 1 => storeGet d l k :: storeRange d l (k + 1) n

/-- Write the values of a list from address `k` upward. -/
def storePut [DecidableEq β] (d : Nat → β) (l : List (Nat × β)) : Nat → List β → List (Nat × β)
  | _, [] => l
  | k, v :: vs => storePut d (storeSet d l k v) (k + 1) vs

end Sys2Proof.Machine
end

