-- ==== Sys2Proof/Machine/RegTypes.lean ====
section
/-! DEFINITION. The vocabulary of the register tables of the spec: blocks and their codes (R77, R78),
access codes (R8), field checks (R90, R93, R94), register and table descriptions (R87, R88). The rows
themselves stand in RegMapHub.lean and RegMapUnit.lean. -/

namespace Sys2Proof.Machine

/-- The blocks of R77 and R78. -/
inductive Block where
  | hst | dma | sup | mgt
  | lnk | cap | cmp | enc | rct | pkt | dec | sch | tim | aud | mem | hkp | evt
  deriving DecidableEq, Repr

/-- Block codes of R77 and R78. -/
def Block.code : Block → Nat
  | .hst => 0x01 | .dma => 0x02 | .sup => 0x03 | .mgt => 0x04
  | .lnk => 0x10 | .cap => 0x11 | .cmp => 0x12 | .enc => 0x13 | .rct => 0x14 | .pkt => 0x15
  | .dec => 0x16 | .sch => 0x17 | .tim => 0x18 | .aud => 0x19 | .mem => 0x1A | .hkp => 0x1B | .evt => 0x1C

/-- Offset of page 0: within BAR0 for a hub block (R77), within the unit window for a unit block (R78). -/
def Block.base : Block → Nat
  | .hst => 0x0 | .dma => 0x10000 | .sup => 0x40000 | .mgt => 0x50000
  | .lnk => 0x000000 | .cap => 0x020000 | .cmp => 0x040000 | .enc => 0x080000 | .rct => 0x0A0000
  | .pkt => 0x0C0000 | .dec => 0x0E0000 | .sch => 0x100000 | .tim => 0x120000 | .aud => 0x140000
  | .mem => 0x160000 | .hkp => 0x180000 | .evt => 0x1A0000

/-- Pages used by the block (R77, R78). -/
def Block.pages : Block → Nat
  | .hst => 16 | .dma => 44 | .sup => 6 | .mgt => 1
  | .lnk => 22 | .cap => 5 | .cmp => 64 | .enc => 32 | .rct => 9 | .pkt => 9
  | .dec => 8 | .sch => 16 | .tim => 8 | .aud => 5 | .mem => 8 | .hkp => 4 | .evt => 1

/-- The blocks reached in the hub's 16 MiB (R77). -/
def hubBlocks : List Block := [.hst, .dma, .sup, .mgt]

/-- The blocks of a unit window (R78). -/
def unitBlocks : List Block :=
  [.lnk, .cap, .cmp, .enc, .rct, .pkt, .dec, .sch, .tim, .aud, .mem, .hkp, .evt]

/-- A block of a unit window, not of the hub. -/
def Block.isUnit (b : Block) : Bool := decide (0x10 ≤ b.code)

/-- Key of a common register (R83): the copy on the block's page 0 stands for every page. -/
def Block.common (b : Block) (off : Nat) : Nat := b.base + off

/-- Access codes of R8 (no field of the spec uses W1S). -/
inductive Acc where
  | rw | ro | wo | w1c | rc
  deriving DecidableEq, Repr

/-- The check of one field against its stated range (R90, R93). -/
inductive Chk where
  /-- every pattern is legal -/
  | any
  /-- `lo` to `hi` -/
  | range (lo hi : Nat)
  /-- one of the codes listed -/
  | enum (codes : List Nat)
  /-- `lo` to `hi` in multiples of `k` -/
  | mult (lo hi k : Nat)
  /-- signed, `lo` to `hi` -/
  | srange (lo hi : Int)
  deriving DecidableEq, Repr

/-- Checks that tie the fields of one register together at the write. -/
inductive Cross where
  | none
  /-- HST_QUENCH: QUENCH and RESUME both set is RANGE -/
  | quench
  /-- SUP_IMG_LEN: a multiple of 256, at most 524,288 -/
  | imgLen
  /-- SUP_SUBST_CTL: GO and RETURN both set is RANGE -/
  | substCtl
  /-- CMP_LCFG: a scaled lake layer is RANGE (R216) -/
  | lakeScale
  /-- CMP_LNEXT_ADDR: 24 GiB or above is RANGE -/
  | below24GiB
  /-- a ring table store: R112, and BUSY while enabled -/
  | ring
  /-- a coefficient entry under R215 -/
  | coef
  /-- a mask store under R404 -/
  | map
  /-- a colour matrix row: every value is legal (R217) -/
  | mtx
  | commit | encPcfg | audFirst | refCfg | ptpVid | ptpIntv | ptpMac
  deriving DecidableEq, Repr

/-- What a write of a register does beyond storing its fields; the owner of the register carries it out. -/
inductive Act where
  | none | quench | doorbell | inject | unitCtl | imgCtl | logCtl | faultReg | bench | substCtl | thermCtl
  | commit | flip | encPctl | decCtl | timLoop | timFset | timPadj | hostTime | lnkPctl | audCtl | audMask
  deriving DecidableEq, Repr

/-- One field of a register or of a table word. `zero`: a count, size, period or time field under R94.
`alt` gives the reset values by page or repetition where they differ. -/
structure FieldDef where
  name : String
  hi : Nat
  lo : Nat
  acc : Acc
  reset : Nat
  chk : Chk := .any
  zero : Bool := false
  /-- a live field of a staged register (R504) -/
  live : Bool := false
  /-- reset values by page -/
  byPage : List Nat := []
  /-- reset values by repetition -/
  byRep : List Nat := []
  deriving DecidableEq, Repr

/-- Width of a field. -/
def FieldDef.width (f : FieldDef) : Nat := f.hi + 1 - f.lo

/-- One register of the spec's tables: first page, number of pages, offset, repetitions and their
stride, words (2: a 64-bit register under R87), staged or live (R89). -/
structure RegDef where
  name : String
  page : Nat
  pages : Nat
  off : Nat
  reps : Nat
  stride : Nat
  words : Nat
  staged : Bool
  cross : Cross
  act : Act := .none
  fields : List FieldDef
  deriving DecidableEq, Repr

/-- One table of R88: its IDX and DATA offsets, data words and entries; `fields` pairs a word with a field. -/
structure TableDef where
  name : String
  page : Nat
  pages : Nat
  idxOff : Nat
  dataOff : Nat
  words : Nat
  entries : Nat
  staged : Bool
  cross : Cross
  fields : List (Nat × FieldDef)
  deriving DecidableEq, Repr

/-- One field of one register instance: the key of its (low) word, its lowest bit and width. -/
structure Fld where
  key : Nat
  lo : Nat
  w : Nat
  deriving DecidableEq, Repr

/-- Reset value of a field on page `p`, repetition `r`. -/
def FieldDef.resetAt (f : FieldDef) (p r : Nat) : Nat :=
  match f.byPage, f.byRep with
  | [], [] => f.reset
  | [], l => l.getD r 0
  | l, _ => l.getD p 0

/-- The value check of one field, zero aside (R93). -/
def Chk.ok (w : Nat) (v : Nat) : Chk → Bool
  | .any => true
  | .range lo hi => decide (lo ≤ v) && decide (v ≤ hi)
  | .enum l => l.contains v
  | .mult lo hi k => decide (lo ≤ v) && decide (v ≤ hi) && decide (v % k = 0)
  | .srange lo hi => decide (lo ≤ signedOf w v) && decide (signedOf w v ≤ hi)

/-- What a register offset holds. -/
inductive Hit where
  /-- no register: NO_REG in the common area of `blk` (R79) -/
  | hole (blk : Block)
  /-- the common register at offset `off` (R84) -/
  | common (blk : Block) (off : Nat)
  /-- word `word` of repetition `rep` of a register on page `page` of its block -/
  | reg (blk : Block) (page rep word : Nat) (d : RegDef)
  /-- a table's IDX (R88) -/
  | idx (blk : Block) (page : Nat) (t : TableDef)
  /-- word `i` of a table's data window -/
  | data (blk : Block) (page i : Nat) (t : TableDef)
  deriving DecidableEq, Repr

/-- The block whose pages hold offset `off`, among `bs`. -/
def blockAt (bs : List Block) (off : Nat) : Option Block :=
  bs.find? (fun b => decide (b.base ≤ off) && decide (off < b.base + b.pages * 0x1000))

/-- Does register `d` cover page `p`, page offset `o`? The repetition and word if so. -/
def RegDef.covers (d : RegDef) (p o : Nat) : Option (Nat × Nat) :=
  if d.page ≤ p ∧ p < d.page + d.pages ∧ d.off ≤ o then
    let x := o - d.off
    let r := if d.stride = 0 then 0 else x / d.stride
    let y := if d.stride = 0 then x else x % d.stride
    if r < d.reps ∧ y < 4 * d.words then some (r, y / 4) else none
  else none

/-- First register of the list that covers the place. -/
def findReg (ds : List RegDef) (p o : Nat) : Option (RegDef × Nat × Nat) :=
  match ds with
  | [] => none
  | d :: rest =>
    match d.covers p o with
    | some (r, w) => some (d, r, w)
    | none => findReg rest p o

/-- First table of the list that covers the place: none in the pair is the IDX register. -/
def findTable (ts : List TableDef) (p o : Nat) : Option (TableDef × Option Nat) :=
  match ts with
  | [] => none
  | t :: rest =>
    if t.page ≤ p ∧ p < t.page + t.pages then
      if o = t.idxOff then some (t, none)
      else if t.dataOff ≤ o ∧ o < t.dataOff + 4 * t.words then some (t, some ((o - t.dataOff) / 4))
      else findTable rest p o
    else findTable rest p o

/-- What offset `off` of a block holds. `regPages` says which pages of a block hold registers (R83). -/
def hitIn (b : Block) (regPage : Nat → Bool) (ds : List RegDef) (ts : List TableDef) (off : Nat) : Hit :=
  let p := (off - b.base) / 0x1000
  let o := (off - b.base) % 0x1000
  if !regPage p then .hole b
  else if o < 0x100 then .common b o
  else
    match findReg ds p o with
    | some (d, r, w) => .reg b p r w d
    | none =>
      match findTable ts p o with
      | some (t, none) => .idx b p t
      | some (t, some i) => .data b p i t
      | none => .hole b

/-- Reset value of word `word` of a register instance. -/
def RegDef.resetWord (d : RegDef) (page rep word : Nat) : Nat :=
  d.fields.foldl (fun acc f =>
    let v := f.resetAt (page - d.page) rep * 2 ^ f.lo
    acc + (v / 2 ^ (32 * word)) % 2 ^ 32) 0

/-- Key of word `i` of entry `e` of the table whose IDX register has key `idxKey`. -/
def entryKey (idxKey e i : Nat) : Nat := (idxKey + 1) * 2 ^ 32 + e * 16 + i

/-- Reset value of word `i` of every entry of a table (tables whose entries differ are given apart). -/
def TableDef.resetWord (t : TableDef) (i : Nat) : Nat :=
  t.fields.foldl (fun acc f => if f.1 = i then acc + f.2.reset * 2 ^ f.2.lo else acc) 0

end Sys2Proof.Machine
end

