-- ==== Sys2Proof/Machine/Fields.lean ====
section
/-! DEFINITION. One name for each field of each register table of the spec: the key of its word
(BAR0 offset for a hub block, offset within the unit window for a unit block), lowest bit and width.
`p` counts pages (programme, source, lane, port, engine, unit ring page ...) and `r` repetitions. -/

namespace Sys2Proof.Machine.Reg

def HST_LINK_STAT_LTSSM : Fld := ⟨0x100, 0, 4⟩
def HST_LINK_STAT_RATE : Fld := ⟨0x100, 4, 4⟩
def HST_LINK_STAT_WIDTH : Fld := ⟨0x100, 8, 5⟩
def HST_LINK_STAT_FLIT : Fld := ⟨0x100, 13, 1⟩
def HST_LINK_STAT_VC1 : Fld := ⟨0x100, 14, 1⟩
def HST_EVT_FILTER_CLASS : Fld := ⟨0x1100, 0, 7⟩
def HST_EVT_FILTER_MEMCLASS : Fld := ⟨0x1100, 7, 1⟩
def HST_EVT_FILTER_CLASS_HI : Fld := ⟨0x1100, 8, 3⟩
def HST_EVT_FILTER_THERMCLASS : Fld := ⟨0x1100, 11, 1⟩
def HST_EVT_FILTER_CLASS_TOP : Fld := ⟨0x1100, 12, 2⟩
def HST_EVT_QSTAT_DEPTH : Fld := ⟨0x1104, 0, 9⟩
def HST_EVT_SEQ_NEXT : Fld := ⟨0x1108, 0, 32⟩
def HST_EVT_DROPPED_COUNT : Fld := ⟨0x110C, 0, 32⟩
def HST_EVT_FILTERED_COUNT : Fld := ⟨0x1110, 0, 32⟩
def HST_EVT_INJECT_VALUE : Fld := ⟨0x1114, 0, 32⟩
def HST_QUENCH (p : Nat) : Fld := ⟨0x2100 + 0x1000 * p, 0, 1⟩
def HST_QUENCH_RESUME (p : Nat) : Fld := ⟨0x2100 + 0x1000 * p, 1, 1⟩
def HST_QUENCH_STAT_QUENCHED (p : Nat) : Fld := ⟨0x2104 + 0x1000 * p, 0, 1⟩
def HST_QUENCH_STAT_STOPPED (p : Nat) : Fld := ⟨0x2104 + 0x1000 * p, 1, 1⟩
def HST_SINK_DROP_COUNT (p : Nat) : Fld := ⟨0x2108 + 0x1000 * p, 0, 32⟩
def HST_DB_PI (p r : Nat) : Fld := ⟨0x2400 + 0x1000 * p + 0x4 * r, 0, 32⟩
def HST_HDB_PI : Fld := ⟨0x7400, 0, 32⟩
def DMA_ENG_STAT_STATE (p : Nat) : Fld := ⟨0x10100 + 0x1000 * p, 0, 3⟩
def DMA_ENG_STAT_OUTSTANDING (p : Nat) : Fld := ⟨0x10100 + 0x1000 * p, 16, 9⟩
def DMA_RD_TIMEOUT_LIMIT (p : Nat) : Fld := ⟨0x10104 + 0x1000 * p, 0, 16⟩
def DMA_BYTES (p : Nat) : Fld := ⟨0x10108 + 0x1000 * p, 0, 64⟩
def SUP_STRAPS_ADDR : Fld := ⟨0x40100, 0, 2⟩
def SUP_STRAPS_SMB : Fld := ⟨0x40100, 2, 1⟩
def SUP_STRAPS_LINK : Fld := ⟨0x40100, 3, 2⟩
def SUP_STRAPS_TEST : Fld := ⟨0x40100, 5, 1⟩
def SUP_RESET_CAUSE_AUX_POR : Fld := ⟨0x40104, 0, 1⟩
def SUP_RESET_CAUSE_AUX_PIN : Fld := ⟨0x40104, 1, 1⟩
def SUP_RESET_CAUSE_PWR_GOOD : Fld := ⟨0x40104, 2, 1⟩
def SUP_RESET_CAUSE_HUB_SUPPLY : Fld := ⟨0x40104, 3, 1⟩
def SUP_RESET_CAUSE_LINK : Fld := ⟨0x40104, 4, 1⟩
def SUP_UNIT_CTL_REQ (r : Nat) : Fld := ⟨0x40110 + 0x4 * r, 0, 2⟩
def SUP_UNIT_CTL_KEEP (r : Nat) : Fld := ⟨0x40110 + 0x4 * r, 8, 8⟩
def SUP_UNIT_STAT_STATE (r : Nat) : Fld := ⟨0x40130 + 0x4 * r, 0, 2⟩
def SUP_UNIT_STAT_TRAINED (r : Nat) : Fld := ⟨0x40130 + 0x4 * r, 2, 1⟩
def SUP_UNIT_STAT_BENCH (r : Nat) : Fld := ⟨0x40130 + 0x4 * r, 3, 1⟩
def SUP_UNIT_STAT_ISOLATED (r : Nat) : Fld := ⟨0x40130 + 0x4 * r, 4, 1⟩
def SUP_UNIT_STAT_CAUSE (r : Nat) : Fld := ⟨0x40130 + 0x4 * r, 8, 4⟩
def SUP_IMG_ADDR_ADDR : Fld := ⟨0x40150, 8, 56⟩
def SUP_IMG_ADDR_ALIGN : Fld := ⟨0x40150, 0, 8⟩
def SUP_IMG_LEN_LEN : Fld := ⟨0x40158, 0, 20⟩
def SUP_IMG_CTL_GO : Fld := ⟨0x4015C, 0, 1⟩
def SUP_IMG_STAT_RESULT : Fld := ⟨0x40160, 0, 4⟩
def SUP_IMG_VER_VERSION : Fld := ⟨0x40164, 0, 32⟩
def SUP_AVS_STAT_TARGET (r : Nat) : Fld := ⟨0x40170 + 0x4 * r, 0, 10⟩
def SUP_AVS_STAT_MEASURED (r : Nat) : Fld := ⟨0x40170 + 0x4 * r, 10, 10⟩
def SUP_AVS_STAT_NORESP (r : Nat) : Fld := ⟨0x40170 + 0x4 * r, 20, 1⟩
def SUP_LOG_SEQ_NEXT : Fld := ⟨0x41130, 0, 32⟩
def SUP_LOG_CTL_CLEAR : Fld := ⟨0x41134, 0, 1⟩
def SUP_FAULT_STAT_POWER : Fld := ⟨0x41140, 0, 1⟩
def SUP_FAULT_STAT_ISOLATED : Fld := ⟨0x41140, 1, 1⟩
def SUP_FAULT_STAT_THERM : Fld := ⟨0x41140, 2, 1⟩
def SUP_FAULT_STAT_OFFAIR : Fld := ⟨0x41140, 3, 1⟩
def SUP_FAULT_STAT_SUBST : Fld := ⟨0x41140, 4, 1⟩
def SUP_FAULT_STAT_VERIFY : Fld := ⟨0x41140, 5, 1⟩
def SUP_FAULT_STAT_MEMORY : Fld := ⟨0x41140, 6, 1⟩
def SUP_FAULT_STAT_IMAGE : Fld := ⟨0x41140, 7, 1⟩
def SUP_FAULT_STAT_AVS : Fld := ⟨0x41140, 8, 1⟩
def SUP_FAULT_STAT_SENSOR : Fld := ⟨0x41140, 9, 1⟩
def SUP_FAULT_STAT_WATCHDOG : Fld := ⟨0x41140, 10, 1⟩
def SUP_FAULT_EN_POWER : Fld := ⟨0x41144, 0, 1⟩
def SUP_FAULT_EN_ISOLATED : Fld := ⟨0x41144, 1, 1⟩
def SUP_FAULT_EN_THERM : Fld := ⟨0x41144, 2, 1⟩
def SUP_FAULT_EN_OFFAIR : Fld := ⟨0x41144, 3, 1⟩
def SUP_FAULT_EN_SUBST : Fld := ⟨0x41144, 4, 1⟩
def SUP_FAULT_EN_VERIFY : Fld := ⟨0x41144, 5, 1⟩
def SUP_FAULT_EN_MEMORY : Fld := ⟨0x41144, 6, 1⟩
def SUP_FAULT_EN_IMAGE : Fld := ⟨0x41144, 7, 1⟩
def SUP_FAULT_EN_AVS : Fld := ⟨0x41144, 8, 1⟩
def SUP_FAULT_EN_SENSOR : Fld := ⟨0x41144, 9, 1⟩
def SUP_FAULT_EN_WATCHDOG : Fld := ⟨0x41144, 10, 1⟩
def SUP_SC_HOST_HOST : Fld := ⟨0x42100, 0, 5⟩
def SUP_SC_STAT_LATEST (r : Nat) : Fld := ⟨0x42110 + 0x4 * r, 0, 1⟩
def SUP_SC_STAT_PREVIOUS (r : Nat) : Fld := ⟨0x42110 + 0x4 * r, 1, 1⟩
def SUP_SC_STAT_CONFIG (r : Nat) : Fld := ⟨0x42110 + 0x4 * r, 2, 1⟩
def SUP_SC_STAT_FRAME (r : Nat) : Fld := ⟨0x42110 + 0x4 * r, 16, 16⟩
def SUP_BENCH : Fld := ⟨0x43100, 0, 3⟩
def SUP_SUBST_CFG_WDOG : Fld := ⟨0x43104, 0, 1⟩
def SUP_SUBST_CFG_STORM : Fld := ⟨0x43104, 1, 1⟩
def SUP_SUBST_CFG_THERM : Fld := ⟨0x43104, 2, 1⟩
def SUP_SUBST_CFG_ISOL : Fld := ⟨0x43104, 3, 1⟩
def SUP_SUBST_CTL_UNIT : Fld := ⟨0x43108, 0, 3⟩
def SUP_SUBST_CTL_GO : Fld := ⟨0x43108, 8, 1⟩
def SUP_SUBST_CTL_RETURN : Fld := ⟨0x43108, 9, 1⟩
def SUP_SUBST_STAT_STATE : Fld := ⟨0x4310C, 0, 2⟩
def SUP_SUBST_STAT_BENCH_EN : Fld := ⟨0x4310C, 2, 1⟩
def SUP_SUBST_STAT_SEL : Fld := ⟨0x4310C, 4, 3⟩
def SUP_SUBST_STAT_FAILED : Fld := ⟨0x4310C, 8, 3⟩
def SUP_SUBST_STAT_SERVER : Fld := ⟨0x4310C, 12, 3⟩
def SUP_SUBST_STAT_TRIGGER : Fld := ⟨0x4310C, 16, 8⟩
def SUP_SUBST_STAT_REASON : Fld := ⟨0x4310C, 24, 8⟩
def SUP_SUBST_TIME_TIME : Fld := ⟨0x43110, 0, 32⟩
def SUP_SUBST_COUNT_DONE : Fld := ⟨0x43114, 0, 16⟩
def SUP_SUBST_COUNT_FAILED : Fld := ⟨0x43114, 16, 16⟩
def SUP_STATUS_BYTES (r : Nat) : Fld := ⟨0x44100 + 0x4 * r, 0, 32⟩
def SUP_TEMP (r : Nat) : Fld := ⟨0x45100 + 0x4 * r, 0, 16⟩
def SUP_TEMP_VALID (r : Nat) : Fld := ⟨0x45100 + 0x4 * r, 16, 1⟩
def SUP_TEMP_SUSPECT (r : Nat) : Fld := ⟨0x45100 + 0x4 * r, 17, 1⟩
def SUP_TEMP_WARN (r : Nat) : Fld := ⟨0x45100 + 0x4 * r, 18, 1⟩
def SUP_TEMP_SHUT (r : Nat) : Fld := ⟨0x45100 + 0x4 * r, 19, 1⟩
def SUP_TEMP_STACK_TEMP (r : Nat) : Fld := ⟨0x45120 + 0x4 * r, 0, 16⟩
def SUP_TEMP_STACK_VALID (r : Nat) : Fld := ⟨0x45120 + 0x4 * r, 16, 1⟩
def SUP_TEMP_STACK_SUSPECT (r : Nat) : Fld := ⟨0x45120 + 0x4 * r, 17, 1⟩
def SUP_TEMP_STACK_WARN (r : Nat) : Fld := ⟨0x45120 + 0x4 * r, 18, 1⟩
def SUP_TEMP_STACK_SHUT (r : Nat) : Fld := ⟨0x45120 + 0x4 * r, 19, 1⟩
def SUP_RAW (r : Nat) : Fld := ⟨0x45140 + 0x4 * r, 0, 16⟩
def SUP_RAW_EST (r : Nat) : Fld := ⟨0x45140 + 0x4 * r, 16, 16⟩
def SUP_RAW_STACK_RAW (r : Nat) : Fld := ⟨0x45160 + 0x4 * r, 0, 16⟩
def SUP_RAW_STACK_EST (r : Nat) : Fld := ⟨0x45160 + 0x4 * r, 16, 16⟩
def SUP_THERM_CTL_FORCE : Fld := ⟨0x45180, 0, 5⟩
def SUP_THERM_STAT_TRIP : Fld := ⟨0x45184, 0, 1⟩
def SUP_DEV_ENERGY_UJ : Fld := ⟨0x45190, 0, 64⟩
def SUP_DEV_EPP_EPP : Fld := ⟨0x45198, 0, 16⟩
def MGT_MODE_BUS : Fld := ⟨0x50100, 0, 1⟩
def MGT_MODE_DYN_VALID : Fld := ⟨0x50100, 1, 1⟩
def MGT_MODE_DYN_ADDR : Fld := ⟨0x50100, 2, 7⟩
def MGT_MODE_STATIC_ADDR : Fld := ⟨0x50100, 9, 7⟩

def EVT_FILTER_CLASS : Fld := ⟨0x1A0100, 0, 7⟩
def EVT_FILTER_MEMCLASS : Fld := ⟨0x1A0100, 7, 1⟩
def EVT_FILTER_CLASS_HI : Fld := ⟨0x1A0100, 8, 3⟩
def EVT_FILTER_THERMCLASS : Fld := ⟨0x1A0100, 11, 1⟩
def EVT_FILTER_CLASS_TOP : Fld := ⟨0x1A0100, 12, 2⟩
def EVT_QSTAT_DEPTH : Fld := ⟨0x1A0104, 0, 9⟩
def EVT_SEQ_NEXT : Fld := ⟨0x1A0108, 0, 32⟩
def EVT_DROPPED_COUNT : Fld := ⟨0x1A010C, 0, 32⟩
def EVT_FILTERED_COUNT : Fld := ⟨0x1A0110, 0, 32⟩
def EVT_INJECT_VALUE : Fld := ⟨0x1A0114, 0, 32⟩
def SCH_MODE : Fld := ⟨0x100100, 0, 3⟩
def SCH_MODE_VERIFY : Fld := ⟨0x100100, 8, 8⟩
def SCH_COMMIT_GO : Fld := ⟨0x100104, 0, 1⟩
def SCH_COMMIT_AT_EN : Fld := ⟨0x100104, 1, 1⟩
def SCH_COMMIT_AT_FRAME : Fld := ⟨0x100108, 0, 16⟩
def SCH_COMMIT_STAT_STATE : Fld := ⟨0x10010C, 0, 3⟩
def SCH_COMMIT_STAT_LAST_CODE : Fld := ⟨0x10010C, 16, 16⟩
def SCH_COMMIT_NUM_NUM : Fld := ⟨0x100110, 0, 32⟩
def SCH_ACTIVE_NUM_NUM : Fld := ⟨0x100114, 0, 32⟩
def SCH_EFFECT_FRAME_FRAME : Fld := ⟨0x100118, 0, 16⟩
def SCH_REFUSE_DETAIL_CODE : Fld := ⟨0x10011C, 0, 16⟩
def SCH_REFUSE_DETAIL_KIND : Fld := ⟨0x10011C, 16, 4⟩
def SCH_REFUSE_DETAIL_INDEX : Fld := ⟨0x10011C, 24, 8⟩
def SCH_ADMIT_MODEL_MODEL : Fld := ⟨0x100120, 0, 16⟩
def SCH_ADMIT_RATE0_COMPOSITED : Fld := ⟨0x100124, 0, 16⟩
def SCH_ADMIT_RATE0_CODED : Fld := ⟨0x100124, 16, 16⟩
def SCH_ADMIT_RATE1_DECODED : Fld := ⟨0x100128, 0, 16⟩
def SCH_ADMIT_RATE1_OUTPUT : Fld := ⟨0x100128, 16, 16⟩
def SCH_ADMIT_SLIP_SLIP (r : Nat) : Fld := ⟨0x100140 + 0x4 * r, 0, 16⟩
def SCH_ADMIT_SLIP_BOUND (r : Nat) : Fld := ⟨0x100140 + 0x4 * r, 16, 16⟩
def SCH_DISPATCH_MODE : Fld := ⟨0x100160, 0, 1⟩
def SCH_DISPATCH_STEAL : Fld := ⟨0x100160, 1, 1⟩
def SCH_NOW_TICK : Fld := ⟨0x100164, 0, 32⟩
def SCH_TICKS_COUNT : Fld := ⟨0x100168, 0, 64⟩
def SCH_CTX_STAT_USED : Fld := ⟨0x100170, 0, 14⟩
def SCH_CTX_STAT_PEAK : Fld := ⟨0x100170, 14, 14⟩
def SCH_CTX_STAT_PSTALL : Fld := ⟨0x100170, 28, 4⟩
def SCH_PTIME_CORE (r : Nat) : Fld := ⟨0x101100 + 0x10 * r, 0, 4⟩
def SCH_PTIME_EXTRA (r : Nat) : Fld := ⟨0x101100 + 0x10 * r, 4, 3⟩
def SCH_PTIME_PLAN (r : Nat) : Fld := ⟨0x101100 + 0x10 * r, 8, 3⟩
def SCH_PTIME_PRIO (r : Nat) : Fld := ⟨0x101100 + 0x10 * r, 12, 3⟩
def SCH_PSLIP_SLIP (r : Nat) : Fld := ⟨0x101104 + 0x10 * r, 0, 16⟩
def SCH_PSLIP_RUNG (r : Nat) : Fld := ⟨0x101104 + 0x10 * r, 16, 3⟩
def SCH_PSLIP_OFFSET (r : Nat) : Fld := ⟨0x101104 + 0x10 * r, 20, 3⟩
def SCH_PSLIP_CEIL (r : Nat) : Fld := ⟨0x101104 + 0x10 * r, 24, 3⟩
def SCH_PMAX_MAXSLIP (r : Nat) : Fld := ⟨0x101108 + 0x10 * r, 0, 16⟩
def SCH_PLATE_LATE (r : Nat) : Fld := ⟨0x10110C + 0x10 * r, 0, 16⟩
def SCH_PLATE_OVERRUN (r : Nat) : Fld := ⟨0x10110C + 0x10 * r, 16, 16⟩
def CAP_RASTER_RATE_NUM : Fld := ⟨0x20100, 0, 17⟩
def CAP_RASTER_RATE_DEN : Fld := ⟨0x20100, 17, 11⟩
def CAP_RASTER_LINES_TOTAL : Fld := ⟨0x20104, 0, 16⟩
def CAP_RASTER_LINES_ACTIVE : Fld := ⟨0x20104, 16, 16⟩
def CAP_RASTER_PHASE_OFFSET : Fld := ⟨0x20108, 0, 16⟩
def CAP_SRC_CFG_EN (p : Nat) : Fld := ⟨0x21100 + 0x1000 * p, 0, 1⟩
def CAP_SRC_CFG_KIND (p : Nat) : Fld := ⟨0x21100 + 0x1000 * p, 1, 2⟩
def CAP_SRC_CFG_GROUP (p : Nat) : Fld := ⟨0x21100 + 0x1000 * p, 3, 3⟩
def CAP_SRC_CFG_SRCID (p : Nat) : Fld := ⟨0x21100 + 0x1000 * p, 6, 2⟩
def CAP_SRC_CFG_FORMAT (p : Nat) : Fld := ⟨0x21100 + 0x1000 * p, 8, 8⟩
def CAP_SRC_GEOM_WIDTH (p : Nat) : Fld := ⟨0x21104 + 0x1000 * p, 0, 16⟩
def CAP_SRC_GEOM_RECOVER (p : Nat) : Fld := ⟨0x21104 + 0x1000 * p, 16, 8⟩
def CAP_SRC_BUF_ADDR (p : Nat) : Fld := ⟨0x21108 + 0x1000 * p, 12, 52⟩
def CAP_SRC_STAT_READY (p : Nat) : Fld := ⟨0x21110 + 0x1000 * p, 0, 1⟩
def CAP_SRC_STAT_CAUSE (p : Nat) : Fld := ⟨0x21110 + 0x1000 * p, 4, 4⟩
def CAP_SRC_STAT_CLEAN (p : Nat) : Fld := ⟨0x21110 + 0x1000 * p, 8, 8⟩
def CAP_SRC_STAT_LINE (p : Nat) : Fld := ⟨0x21110 + 0x1000 * p, 16, 16⟩
def CAP_SRC_CHK_HDR (p : Nat) : Fld := ⟨0x21114 + 0x1000 * p, 0, 8⟩
def CAP_SRC_CHK_PAYLOAD (p : Nat) : Fld := ⟨0x21114 + 0x1000 * p, 8, 8⟩
def CAP_SRC_CHK_ORDER (p : Nat) : Fld := ⟨0x21114 + 0x1000 * p, 16, 8⟩
def CAP_SRC_CHK_OTHER (p : Nat) : Fld := ⟨0x21114 + 0x1000 * p, 24, 8⟩
def CMP_CTX_CFG_EN (p : Nat) : Fld := ⟨0x41100 + 0x1000 * p, 0, 1⟩
def CMP_CTX_CFG_SRC (p : Nat) : Fld := ⟨0x41100 + 0x1000 * p, 1, 2⟩
def CMP_CTX_CFG_L0 (p : Nat) : Fld := ⟨0x41100 + 0x1000 * p, 8, 1⟩
def CMP_CTX_CFG_LAYERS (p : Nat) : Fld := ⟨0x41100 + 0x1000 * p, 9, 7⟩
def CMP_CTX_BG_COLOUR (p : Nat) : Fld := ⟨0x41104 + 0x1000 * p, 0, 48⟩
def CMP_CTX_OUT_ADDR (p : Nat) : Fld := ⟨0x41110 + 0x1000 * p, 12, 52⟩
def CMP_LCFG_FORMAT (p : Nat) : Fld := ⟨0x48100 + 0x1000 * p, 0, 4⟩
def CMP_LCFG_PREMUL (p : Nat) : Fld := ⟨0x48100 + 0x1000 * p, 4, 1⟩
def CMP_LCFG_SEQ (p : Nat) : Fld := ⟨0x48100 + 0x1000 * p, 5, 1⟩
def CMP_LCFG_SCALE (p : Nat) : Fld := ⟨0x48100 + 0x1000 * p, 6, 1⟩
def CMP_LSIZE_SW (p : Nat) : Fld := ⟨0x48104 + 0x1000 * p, 0, 16⟩
def CMP_LSIZE_SH (p : Nat) : Fld := ⟨0x48104 + 0x1000 * p, 16, 16⟩
def CMP_LDSIZE_DW (p : Nat) : Fld := ⟨0x48108 + 0x1000 * p, 0, 16⟩
def CMP_LDSIZE_DH (p : Nat) : Fld := ⟨0x48108 + 0x1000 * p, 16, 16⟩
def CMP_LSTRIDE_STRIDE (p : Nat) : Fld := ⟨0x4810C + 0x1000 * p, 0, 17⟩
def CMP_LNEXT_ADDR_ADDR (p : Nat) : Fld := ⟨0x48110 + 0x1000 * p, 6, 58⟩
def CMP_LNEXT_POS_X (p : Nat) : Fld := ⟨0x48118 + 0x1000 * p, 0, 16⟩
def CMP_LNEXT_POS_Y (p : Nat) : Fld := ⟨0x48118 + 0x1000 * p, 16, 16⟩
def CMP_LNEXT_ALPHA_GALPHA (p : Nat) : Fld := ⟨0x4811C + 0x1000 * p, 0, 16⟩
def CMP_LFLIP_ARM (p : Nat) : Fld := ⟨0x48120 + 0x1000 * p, 0, 1⟩
def CMP_LSTAT_LOADED (p : Nat) : Fld := ⟨0x48124 + 0x1000 * p, 0, 1⟩
def CMP_LSTAT_PENDING (p : Nat) : Fld := ⟨0x48124 + 0x1000 * p, 1, 1⟩
def CMP_LSTAT_HELD (p : Nat) : Fld := ⟨0x48124 + 0x1000 * p, 2, 1⟩
def CMP_LSTAT_PREV_BUSY (p : Nat) : Fld := ⟨0x48124 + 0x1000 * p, 3, 1⟩
def CMP_LSTAT_FRAME (p : Nat) : Fld := ⟨0x48124 + 0x1000 * p, 16, 16⟩
def CMP_LCUR_ADDR_ADDR (p : Nat) : Fld := ⟨0x48128 + 0x1000 * p, 0, 64⟩
def CMP_REN_CFG_EN (p : Nat) : Fld := ⟨0x68100 + 0x1000 * p, 0, 1⟩
def CMP_REN_CFG_CTX (p : Nat) : Fld := ⟨0x68100 + 0x1000 * p, 1, 2⟩
def CMP_REN_CFG_SCALE (p : Nat) : Fld := ⟨0x68100 + 0x1000 * p, 3, 1⟩
def CMP_REN_CFG_CHROMA (p : Nat) : Fld := ⟨0x68100 + 0x1000 * p, 4, 2⟩
def CMP_REN_CFG_CFILT (p : Nat) : Fld := ⟨0x68100 + 0x1000 * p, 6, 1⟩
def CMP_REN_CFG_DEPTH (p : Nat) : Fld := ⟨0x68100 + 0x1000 * p, 8, 5⟩
def CMP_REN_SIZE_W (p : Nat) : Fld := ⟨0x68104 + 0x1000 * p, 0, 16⟩
def CMP_REN_SIZE_H (p : Nat) : Fld := ⟨0x68104 + 0x1000 * p, 16, 16⟩
def CMP_REN_OUT_ADDR (p : Nat) : Fld := ⟨0x68108 + 0x1000 * p, 12, 52⟩
def CMP_SW_RES_RESULT (r : Nat) : Fld := ⟨0x40140 + 0x4 * r, 0, 2⟩
def CMP_SW_RES_FRAME (r : Nat) : Fld := ⟨0x40140 + 0x4 * r, 16, 16⟩
def CMP_SW_CRC_VALUE (r : Nat) : Fld := ⟨0x40180 + 0x4 * r, 0, 32⟩
def CMP_SW_EXP_VALUE (r : Nat) : Fld := ⟨0x401C0 + 0x4 * r, 0, 32⟩
def ENC_PCFG_EN (p : Nat) : Fld := ⟨0x81100 + 0x1000 * p, 0, 1⟩
def ENC_PCFG_CODEC (p : Nat) : Fld := ⟨0x81100 + 0x1000 * p, 1, 1⟩
def ENC_PCFG_REN (p : Nat) : Fld := ⟨0x81100 + 0x1000 * p, 2, 3⟩
def ENC_PCFG_TILECOLS (p : Nat) : Fld := ⟨0x81100 + 0x1000 * p, 5, 3⟩
def ENC_PCFG_PROFILE (p : Nat) : Fld := ⟨0x81100 + 0x1000 * p, 8, 4⟩
def ENC_PCFG_TIER (p : Nat) : Fld := ⟨0x81100 + 0x1000 * p, 12, 1⟩
def ENC_PCFG_LEVEL (p : Nat) : Fld := ⟨0x81100 + 0x1000 * p, 16, 8⟩
def ENC_PCFG_REFS (p : Nat) : Fld := ⟨0x81100 + 0x1000 * p, 24, 3⟩
def ENC_PBAND_CYCLE (p : Nat) : Fld := ⟨0x81104 + 0x1000 * p, 0, 12⟩
def ENC_PBAND_HASH (p : Nat) : Fld := ⟨0x81104 + 0x1000 * p, 12, 2⟩
def ENC_PBAND_AUD (p : Nat) : Fld := ⟨0x81104 + 0x1000 * p, 14, 1⟩
def ENC_PVUI_PRIM (p : Nat) : Fld := ⟨0x81108 + 0x1000 * p, 0, 8⟩
def ENC_PVUI_TRANS (p : Nat) : Fld := ⟨0x81108 + 0x1000 * p, 8, 8⟩
def ENC_PVUI_MATRIX (p : Nat) : Fld := ⟨0x81108 + 0x1000 * p, 16, 8⟩
def ENC_PVUI_FULL (p : Nat) : Fld := ⟨0x81108 + 0x1000 * p, 24, 1⟩
def ENC_PRECON_ADDR (p : Nat) : Fld := ⟨0x81110 + 0x1000 * p, 12, 52⟩
def ENC_PCTL_CYCLE (p : Nat) : Fld := ⟨0x81120 + 0x1000 * p, 0, 1⟩
def ENC_PCTL_FREEZE (p : Nat) : Fld := ⟨0x81120 + 0x1000 * p, 1, 1⟩
def ENC_PSTAT_POS (p : Nat) : Fld := ⟨0x81124 + 0x1000 * p, 0, 12⟩
def ENC_PSTAT_STARTING (p : Nat) : Fld := ⟨0x81124 + 0x1000 * p, 12, 1⟩
def ENC_PSTAT_FUGITIVE (p : Nat) : Fld := ⟨0x81124 + 0x1000 * p, 16, 16⟩
def ENC_PCOUNT_FILLROWS (p : Nat) : Fld := ⟨0x81128 + 0x1000 * p, 0, 16⟩
def ENC_PCOUNT_FUGREF (p : Nat) : Fld := ⟨0x81128 + 0x1000 * p, 16, 16⟩
def ENC_PPOC_POC (p : Nat) : Fld := ⟨0x8112C + 0x1000 * p, 0, 32⟩
def ENC_PPICS_COUNT (p : Nat) : Fld := ⟨0x81130 + 0x1000 * p, 0, 64⟩
def ENC_CE_STAT_BUSY (p : Nat) : Fld := ⟨0x90100 + 0x1000 * p, 0, 1⟩
def ENC_CE_STAT_PROG (p : Nat) : Fld := ⟨0x90100 + 0x1000 * p, 4, 4⟩
def ENC_CE_STAT_RUNG (p : Nat) : Fld := ⟨0x90100 + 0x1000 * p, 8, 3⟩
def ENC_CE_STAT_DECK (p : Nat) : Fld := ⟨0x90100 + 0x1000 * p, 12, 2⟩
def ENC_CE_STAT_ROW (p : Nat) : Fld := ⟨0x90100 + 0x1000 * p, 16, 16⟩
def ENC_CE_CTUS_COUNT (p : Nat) : Fld := ⟨0x90108 + 0x1000 * p, 0, 64⟩
def RCT_PRATEMAX_RATE (p : Nat) : Fld := ⟨0xA1100 + 0x1000 * p, 0, 32⟩
def RCT_PRATE_RATE (p : Nat) : Fld := ⟨0xA1104 + 0x1000 * p, 0, 32⟩
def RCT_PCPB_SIZE (p : Nat) : Fld := ⟨0xA1108 + 0x1000 * p, 0, 32⟩
def RCT_PINIT_INIT (p : Nat) : Fld := ⟨0xA110C + 0x1000 * p, 0, 17⟩
def RCT_PCFG_CBR (p : Nat) : Fld := ⟨0xA1110 + 0x1000 * p, 0, 1⟩
def RCT_PCFG_STRETCH (p : Nat) : Fld := ⟨0xA1110 + 0x1000 * p, 8, 5⟩
def RCT_PCFG_EMIN (p : Nat) : Fld := ⟨0xA1110 + 0x1000 * p, 16, 8⟩
def RCT_PQP_QPMIN (p : Nat) : Fld := ⟨0xA1114 + 0x1000 * p, 0, 8⟩
def RCT_PQP_QPMAX (p : Nat) : Fld := ⟨0xA1114 + 0x1000 * p, 8, 8⟩
def RCT_PLIMIT_VALUE (p : Nat) : Fld := ⟨0xA1120 + 0x1000 * p, 0, 32⟩
def RCT_PTARGET_VALUE (p : Nat) : Fld := ⟨0xA1124 + 0x1000 * p, 0, 32⟩
def RCT_PLMIN_VALUE (p : Nat) : Fld := ⟨0xA1128 + 0x1000 * p, 0, 32⟩
def RCT_PFREE_VALUE (p : Nat) : Fld := ⟨0xA112C + 0x1000 * p, 0, 32⟩
def RCT_PLAST_VALUE (p : Nat) : Fld := ⟨0xA1130 + 0x1000 * p, 0, 32⟩
def RCT_PFILLER_VALUE (p : Nat) : Fld := ⟨0xA1134 + 0x1000 * p, 0, 32⟩
def RCT_PROW_QPBASE (p : Nat) : Fld := ⟨0xA1138 + 0x1000 * p, 0, 8⟩
def RCT_PROW_ROW (p : Nat) : Fld := ⟨0xA1138 + 0x1000 * p, 16, 16⟩
def RCT_PCOUNT_EMERG (p : Nat) : Fld := ⟨0xA113C + 0x1000 * p, 0, 16⟩
def RCT_PCOUNT_CAPPED (p : Nat) : Fld := ⟨0xA113C + 0x1000 * p, 16, 16⟩
def RCT_PFLOOR_VALUE (p : Nat) : Fld := ⟨0xA1140 + 0x1000 * p, 0, 32⟩
def RCT_PKAPPA_VALUE (p : Nat) : Fld := ⟨0xA1144 + 0x1000 * p, 0, 32⟩
def RCT_PBITS_COUNT (p : Nat) : Fld := ⟨0xA1148 + 0x1000 * p, 0, 64⟩
def PKT_PATH_ENA : Fld := ⟨0xC0100, 0, 1⟩
def PKT_PATH_ENB : Fld := ⟨0xC0100, 1, 1⟩
def PKT_PATHSTAT_ACTIVE (r : Nat) : Fld := ⟨0xC0104 + 0x4 * r, 0, 1⟩
def PKT_PATHSTAT_UNDERRUN (r : Nat) : Fld := ⟨0xC0104 + 0x4 * r, 16, 16⟩
def PKT_PCFG_FORM (p : Nat) : Fld := ⟨0xC1100 + 0x1000 * p, 0, 1⟩
def PKT_PCFG_PATHA (p : Nat) : Fld := ⟨0xC1100 + 0x1000 * p, 1, 1⟩
def PKT_PCFG_PATHB (p : Nat) : Fld := ⟨0xC1100 + 0x1000 * p, 2, 1⟩
def PKT_PCFG_RING (p : Nat) : Fld := ⟨0xC1100 + 0x1000 * p, 3, 1⟩
def PKT_PCFG_MAXPAY (p : Nat) : Fld := ⟨0xC1100 + 0x1000 * p, 16, 16⟩
def PKT_PSTREAM_SID (p : Nat) : Fld := ⟨0xC1104 + 0x1000 * p, 0, 16⟩
def PKT_PSTREAM_EPOCH0 (p : Nat) : Fld := ⟨0xC1104 + 0x1000 * p, 16, 8⟩
def PKT_PSEQ0_SEQ0 (p : Nat) : Fld := ⟨0xC1108 + 0x1000 * p, 0, 32⟩
def PKT_PPID_PMT (p : Nat) : Fld := ⟨0xC110C + 0x1000 * p, 0, 13⟩
def PKT_PPID_VIDEO (p : Nat) : Fld := ⟨0xC110C + 0x1000 * p, 16, 13⟩
def PKT_PAUD_EN (p r : Nat) : Fld := ⟨0xC1110 + 0x1000 * p + 0x4 * r, 0, 1⟩
def PKT_PAUD_PORT (p r : Nat) : Fld := ⟨0xC1110 + 0x1000 * p + 0x4 * r, 1, 2⟩
def PKT_PAUD_COUNT (p r : Nat) : Fld := ⟨0xC1110 + 0x1000 * p + 0x4 * r, 3, 2⟩
def PKT_PAUD_FIRST (p r : Nat) : Fld := ⟨0xC1110 + 0x1000 * p + 0x4 * r, 8, 4⟩
def PKT_PAUD_PID (p r : Nat) : Fld := ⟨0xC1110 + 0x1000 * p + 0x4 * r, 16, 13⟩
def PKT_PSTAT_ONAIR (p : Nat) : Fld := ⟨0xC1120 + 0x1000 * p, 0, 1⟩
def PKT_PSTAT_EPOCH (p : Nat) : Fld := ⟨0xC1120 + 0x1000 * p, 8, 8⟩
def PKT_PSEQ_NEXT (p : Nat) : Fld := ⟨0xC1124 + 0x1000 * p, 0, 32⟩
def PKT_PPKTS_COUNT (p : Nat) : Fld := ⟨0xC1128 + 0x1000 * p, 0, 64⟩
def PKT_PDROP_COUNT (p : Nat) : Fld := ⟨0xC1130 + 0x1000 * p, 0, 32⟩
def PKT_PWAIT_MAXWAIT (p : Nat) : Fld := ⟨0xC1134 + 0x1000 * p, 0, 32⟩
def DEC_CFG_INFORM : Fld := ⟨0xE0100, 0, 2⟩
def DEC_CFG_INPATH : Fld := ⟨0xE0100, 2, 1⟩
def DEC_CFG_RECOV : Fld := ⟨0xE0100, 3, 1⟩
def DEC_CFG_HASHCHK : Fld := ⟨0xE0100, 4, 1⟩
def DEC_CFG_LEAD : Fld := ⟨0xE0100, 8, 3⟩
def DEC_CFG_VPID : Fld := ⟨0xE0100, 16, 13⟩
def DEC_CTL_RESUME : Fld := ⟨0xE0104, 0, 1⟩
def DEC_STAT_STATE : Fld := ⟨0xE0108, 0, 3⟩
def DEC_STAT_QUEUE : Fld := ⟨0xE0108, 4, 3⟩
def DEC_STAT_PARTIAL : Fld := ⟨0xE0108, 8, 8⟩
def DEC_STAT_FOREIGN : Fld := ⟨0xE0108, 16, 16⟩
def DEC_STOP_VALUE (r : Nat) : Fld := ⟨0xE0110 + 0x4 * r, 0, 32⟩
def DEC_PICCRC_VALUE : Fld := ⟨0xE0124, 0, 32⟩
def DEC_PICS_VALUE : Fld := ⟨0xE0128, 0, 64⟩
def DEC_SCFG_STATS : Fld := ⟨0xE0130, 0, 8⟩
def DEC_SCFG_MVF : Fld := ⟨0xE0130, 8, 8⟩
def DEC_SDROP_STATS (r : Nat) : Fld := ⟨0xE0140 + 0x4 * r, 0, 16⟩
def DEC_SDROP_MVF (r : Nat) : Fld := ⟨0xE0140 + 0x4 * r, 16, 16⟩
def DEC_LANES_GROUPA : Fld := ⟨0xE1100, 0, 3⟩
def DEC_LANES_GROUPB : Fld := ⟨0xE1100, 4, 3⟩
def DEC_LANES_SID : Fld := ⟨0xE1100, 16, 16⟩
def DEC_HOLD : Fld := ⟨0xE1104, 0, 14⟩
def DEC_INBUF_ADDR : Fld := ⟨0xE1108, 12, 52⟩
def DEC_DPB_ADDR : Fld := ⟨0xE1118, 12, 52⟩
def DEC_DPBCFG_DPBN : Fld := ⟨0xE1120, 0, 5⟩
def DEC_DPBCFG_INSIZE : Fld := ⟨0xE1120, 8, 8⟩
def DEC_MAXSIZE_MAXW : Fld := ⟨0xE1124, 0, 16⟩
def DEC_MAXSIZE_MAXH : Fld := ⟨0xE1124, 16, 16⟩
def DEC_VBUF_ADDR (r : Nat) : Fld := ⟨0xE2100 + 0x10 * r, 12, 52⟩
def DEC_VCMP_COUNT (r : Nat) : Fld := ⟨0xE2108 + 0x10 * r, 0, 32⟩
def DEC_VMIS_COUNT (r : Nat) : Fld := ⟨0xE210C + 0x10 * r, 0, 32⟩
def TIM_NOW0_NS : Fld := ⟨0x120100, 0, 30⟩
def TIM_NOW1_SEC_LO : Fld := ⟨0x120104, 0, 32⟩
def TIM_NOW2_SEC_HI : Fld := ⟨0x120108, 0, 16⟩
def TIM_NOW2_FRAC : Fld := ⟨0x120108, 16, 16⟩
def TIM_STAT_STATE : Fld := ⟨0x120110, 0, 3⟩
def TIM_STAT_OPEN : Fld := ⟨0x120110, 3, 1⟩
def TIM_STAT_SEL : Fld := ⟨0x120110, 4, 3⟩
def TIM_STAT_STANDBY : Fld := ⟨0x120110, 8, 3⟩
def TIM_STAT_OSCSRC : Fld := ⟨0x120110, 11, 1⟩
def TIM_STAT_OSCFAIL : Fld := ⟨0x120110, 12, 1⟩
def TIM_STAT_SEEDED : Fld := ⟨0x120110, 13, 1⟩
def TIM_STAT_ALARM : Fld := ⟨0x120110, 14, 1⟩
def TIM_OSC : Fld := ⟨0x120114, 0, 1⟩
def TIM_OSC_LOSCKHZ : Fld := ⟨0x120114, 4, 17⟩
def TIM_LIMITS_WINDOW : Fld := ⟨0x120118, 0, 8⟩
def TIM_LIMITS_QUAL : Fld := ⟨0x120118, 8, 8⟩
def TIM_LIMITS_FSLEW : Fld := ⟨0x120118, 16, 10⟩
def TIM_LIMITS_REVERT : Fld := ⟨0x120118, 26, 1⟩
def TIM_HOLD_HOLDMAX : Fld := ⟨0x12011C, 0, 24⟩
def TIM_AGREE_AGREEF : Fld := ⟨0x120120, 0, 16⟩
def TIM_AGREE_LOCKNS : Fld := ⟨0x120120, 16, 16⟩
def TIM_LOOP_OPEN : Fld := ⟨0x120124, 0, 1⟩
def TIM_LOOP_ALIGN : Fld := ⟨0x120124, 1, 1⟩
def TIM_LOOP_CAPTURE : Fld := ⟨0x120124, 8, 8⟩
def TIM_LOOP_PRATE : Fld := ⟨0x120124, 16, 16⟩
def TIM_OFFSET_FRAC : Fld := ⟨0x120128, 0, 16⟩
def TIM_OFFSET_NS : Fld := ⟨0x120128, 16, 48⟩
def TIM_FREQ_PPB : Fld := ⟨0x120130, 0, 32⟩
def TIM_FSET_PPB : Fld := ⟨0x120134, 0, 32⟩
def TIM_LEAD : Fld := ⟨0x120138, 0, 16⟩
def TIM_LEAD_TARGET : Fld := ⟨0x120138, 16, 16⟩
def TIM_PADJ_ADJ : Fld := ⟨0x120140, 0, 64⟩
def TIM_HOSTTIME0_TIME : Fld := ⟨0x120150, 0, 32⟩
def TIM_HOSTTIME1_TIME : Fld := ⟨0x120154, 0, 32⟩
def TIM_HOSTTIME2_TIME : Fld := ⟨0x120158, 0, 32⟩
def TIM_REFCFG_EN (r : Nat) : Fld := ⟨0x120160 + 0x8 * r, 0, 1⟩
def TIM_REFCFG_RANK (r : Nat) : Fld := ⟨0x120160 + 0x8 * r, 1, 3⟩
def TIM_REFCFG_SOFT (r : Nat) : Fld := ⟨0x120160 + 0x8 * r, 4, 8⟩
def TIM_REFCFG_HARD (r : Nat) : Fld := ⟨0x120160 + 0x8 * r, 12, 8⟩
def TIM_REFCFG_PARAM (r : Nat) : Fld := ⟨0x120160 + 0x8 * r, 20, 8⟩
def TIM_REFSTAT_PRESENT (r : Nat) : Fld := ⟨0x120164 + 0x8 * r, 0, 1⟩
def TIM_REFSTAT_QUALIFIED (r : Nat) : Fld := ⟨0x120164 + 0x8 * r, 1, 1⟩
def TIM_REFSTAT_CONTESTED (r : Nat) : Fld := ⟨0x120164 + 0x8 * r, 2, 1⟩
def TIM_REFSTAT_LOSER (r : Nat) : Fld := ⟨0x120164 + 0x8 * r, 3, 1⟩
def TIM_REFSTAT_REJECT (r : Nat) : Fld := ⟨0x120164 + 0x8 * r, 4, 4⟩
def TIM_REFSTAT_FOFF (r : Nat) : Fld := ⟨0x120164 + 0x8 * r, 8, 24⟩
def TIM_PTP_CFG_EN : Fld := ⟨0x121100, 0, 1⟩
def TIM_PTP_CFG_SLAVEONLY : Fld := ⟨0x121100, 1, 1⟩
def TIM_PTP_CFG_ONESTEP : Fld := ⟨0x121100, 2, 1⟩
def TIM_PTP_CFG_UNICAST_DR : Fld := ⟨0x121100, 3, 1⟩
def TIM_PTP_CFG_VLAN : Fld := ⟨0x121100, 4, 1⟩
def TIM_PTP_CFG_DOMAIN : Fld := ⟨0x121100, 8, 8⟩
def TIM_PTP_CFG_VID : Fld := ⟨0x121100, 16, 12⟩
def TIM_PTP_INTV_SYNC : Fld := ⟨0x121104, 0, 4⟩
def TIM_PTP_INTV_ANN : Fld := ⟨0x121104, 4, 4⟩
def TIM_PTP_INTV_DREQ : Fld := ⟨0x121104, 8, 4⟩
def TIM_PTP_INTV_ARTO : Fld := ⟨0x121104, 12, 4⟩
def TIM_PTP_INTV_PRIO1 : Fld := ⟨0x121104, 16, 8⟩
def TIM_PTP_INTV_PRIO2 : Fld := ⟨0x121104, 24, 8⟩
def TIM_PTP_MAC_MAC : Fld := ⟨0x121108, 0, 48⟩
def TIM_PTP_IP_IP : Fld := ⟨0x121110, 0, 32⟩
def TIM_PTP_INGRESS_LATENCY : Fld := ⟨0x121114, 0, 20⟩
def TIM_PTP_EGRESS_LATENCY : Fld := ⟨0x121118, 0, 20⟩
def TIM_PTP_ASYM_ASYM : Fld := ⟨0x12111C, 0, 32⟩
def TIM_PTP_STAT_PORT : Fld := ⟨0x121120, 0, 4⟩
def TIM_PTP_STAT_LINK : Fld := ⟨0x121120, 4, 1⟩
def TIM_PTP_STAT_DROPS : Fld := ⟨0x121120, 16, 16⟩
def TIM_PTP_OFM_OFM : Fld := ⟨0x121128, 0, 64⟩
def TIM_PTP_MPD_MPD : Fld := ⟨0x121130, 0, 32⟩
def LNK_CFG_SPLIT : Fld := ⟨0x100, 0, 1⟩
def LNK_TMO_CDR : Fld := ⟨0x104, 0, 8⟩
def LNK_TMO_COMMA : Fld := ⟨0x104, 8, 8⟩
def LNK_TMO_POL : Fld := ⟨0x104, 16, 8⟩
def LNK_TMO_ALIGN : Fld := ⟨0x104, 24, 8⟩
def LNK_GSTAT_GROUP : Fld := ⟨0x108, 0, 4⟩
def LNK_GSTAT_G16 : Fld := ⟨0x108, 4, 1⟩
def LNK_GSTAT_PATHA : Fld := ⟨0x108, 5, 1⟩
def LNK_GSTAT_PATHB : Fld := ⟨0x108, 6, 1⟩
def LNK_GSTAT_TLINK : Fld := ⟨0x108, 7, 1⟩
def LNK_LOST_COUNT : Fld := ⟨0x10C, 0, 16⟩
def LNK_PCFG_MODE (p : Nat) : Fld := ⟨0x1100 + 0x1000 * p, 0, 2⟩
def LNK_PCFG_RATE (p : Nat) : Fld := ⟨0x1100 + 0x1000 * p, 4, 3⟩
def LNK_PCFG_PATTERN (p : Nat) : Fld := ⟨0x1100 + 0x1000 * p, 8, 2⟩
def LNK_PCFG_POLFIX (p : Nat) : Fld := ⟨0x1100 + 0x1000 * p, 10, 2⟩
def LNK_PCTL_HOLD (p : Nat) : Fld := ⟨0x1104 + 0x1000 * p, 0, 1⟩
def LNK_PCTL_CLEAR (p : Nat) : Fld := ⟨0x1104 + 0x1000 * p, 1, 1⟩
def LNK_PCTL_SCAN (p : Nat) : Fld := ⟨0x1104 + 0x1000 * p, 2, 1⟩
def LNK_PCTL_DWELL (p : Nat) : Fld := ⟨0x1104 + 0x1000 * p, 8, 5⟩
def LNK_PSTAT_STEP (p : Nat) : Fld := ⟨0x1108 + 0x1000 * p, 0, 3⟩
def LNK_PSTAT_INV (p : Nat) : Fld := ⟨0x1108 + 0x1000 * p, 3, 1⟩
def LNK_PSTAT_REV (p : Nat) : Fld := ⟨0x1108 + 0x1000 * p, 4, 1⟩
def LNK_PSTAT_PLOCK (p : Nat) : Fld := ⟨0x1108 + 0x1000 * p, 5, 1⟩
def LNK_PSTAT_SCANBUSY (p : Nat) : Fld := ⟨0x1108 + 0x1000 * p, 6, 1⟩
def LNK_PSTAT_FOM (p : Nat) : Fld := ⟨0x1108 + 0x1000 * p, 8, 8⟩
def LNK_PSTAT_SKEW (p : Nat) : Fld := ⟨0x1108 + 0x1000 * p, 16, 8⟩
def LNK_PSTAT_FAIL (p : Nat) : Fld := ⟨0x1108 + 0x1000 * p, 24, 4⟩
def LNK_PERR_CODE (p : Nat) : Fld := ⟨0x110C + 0x1000 * p, 0, 16⟩
def LNK_PERR_MARKER (p : Nat) : Fld := ⟨0x110C + 0x1000 * p, 16, 8⟩
def LNK_PERR_RESTART (p : Nat) : Fld := ⟨0x110C + 0x1000 * p, 24, 8⟩
def LNK_PFOMMIN_MIN (p : Nat) : Fld := ⟨0x1110 + 0x1000 * p, 0, 8⟩
def LNK_PRBS_BITS_COUNT (p : Nat) : Fld := ⟨0x1118 + 0x1000 * p, 0, 64⟩
def LNK_PRBS_ERRS_COUNT (p : Nat) : Fld := ⟨0x1120 + 0x1000 * p, 0, 64⟩
def LNK_SCFG_RATE (p : Nat) : Fld := ⟨0x11100 + 0x1000 * p, 4, 3⟩
def LNK_SCFG_PRESET (p : Nat) : Fld := ⟨0x11100 + 0x1000 * p, 8, 4⟩
def LNK_SCFG_PATTERN (p : Nat) : Fld := ⟨0x11100 + 0x1000 * p, 12, 2⟩
def LNK_SCFG_PRBSGEN (p : Nat) : Fld := ⟨0x11100 + 0x1000 * p, 14, 1⟩
def LNK_SSTAT_SENDS (p : Nat) : Fld := ⟨0x11104 + 0x1000 * p, 0, 2⟩
def LNK_TCFG_AN : Fld := ⟨0x15100, 0, 1⟩
def LNK_TCFG_PRESET : Fld := ⟨0x15100, 8, 4⟩
def LNK_TCFG_POLFIX : Fld := ⟨0x15100, 12, 2⟩
def LNK_TSTAT_STEP : Fld := ⟨0x15104, 0, 3⟩
def LNK_TSTAT_INV : Fld := ⟨0x15104, 3, 1⟩
def LNK_TSTAT_FOM : Fld := ⟨0x15104, 8, 8⟩
def LNK_TSTAT_PARTNER : Fld := ⟨0x15104, 16, 16⟩
def AUD_CFG_EN (p r : Nat) : Fld := ⟨0x141100 + 0x1000 * p + 0x40 * r, 0, 1⟩
def AUD_CFG_MASTER (p r : Nat) : Fld := ⟨0x141100 + 0x1000 * p + 0x40 * r, 1, 1⟩
def AUD_CFG_RATE (p r : Nat) : Fld := ⟨0x141100 + 0x1000 * p + 0x40 * r, 2, 1⟩
def AUD_CFG_FSDLY (p r : Nat) : Fld := ⟨0x141100 + 0x1000 * p + 0x40 * r, 3, 1⟩
def AUD_CFG_FSPOL (p r : Nat) : Fld := ⟨0x141100 + 0x1000 * p + 0x40 * r, 4, 1⟩
def AUD_CFG_FSWIDE (p r : Nat) : Fld := ⟨0x141100 + 0x1000 * p + 0x40 * r, 5, 1⟩
def AUD_CFG_BCPOL (p r : Nat) : Fld := ⟨0x141100 + 0x1000 * p + 0x40 * r, 6, 1⟩
def AUD_CFG_AUTO (p r : Nat) : Fld := ⟨0x141100 + 0x1000 * p + 0x40 * r, 7, 1⟩
def AUD_CFG_FLOW (p r : Nat) : Fld := ⟨0x141100 + 0x1000 * p + 0x40 * r, 8, 1⟩
def AUD_RING_ADDR (p r : Nat) : Fld := ⟨0x141104 + 0x1000 * p + 0x40 * r, 6, 58⟩
def AUD_SIZE_LOG2 (p r : Nat) : Fld := ⟨0x14110C + 0x1000 * p + 0x40 * r, 0, 5⟩
def AUD_SIZE_SLOG2 (p r : Nat) : Fld := ⟨0x14110C + 0x1000 * p + 0x40 * r, 8, 5⟩
def AUD_STAMP_ADDR (p r : Nat) : Fld := ⟨0x141110 + 0x1000 * p + 0x40 * r, 6, 58⟩
def AUD_MASK_NEXT (p r : Nat) : Fld := ⟨0x141118 + 0x1000 * p + 0x40 * r, 0, 16⟩
def AUD_MASK_CUR (p r : Nat) : Fld := ⟨0x141118 + 0x1000 * p + 0x40 * r, 16, 16⟩
def AUD_CTL_ARM (p r : Nat) : Fld := ⟨0x14111C + 0x1000 * p + 0x40 * r, 0, 1⟩
def AUD_CTL_RESTART (p r : Nat) : Fld := ⟨0x14111C + 0x1000 * p + 0x40 * r, 1, 1⟩
def AUD_HOST_HOSTPTR (p r : Nat) : Fld := ⟨0x141120 + 0x1000 * p + 0x40 * r, 0, 32⟩
def AUD_STAT_STATE (p r : Nat) : Fld := ⟨0x141124 + 0x1000 * p + 0x40 * r, 0, 2⟩
def AUD_STAT_PENDING (p r : Nat) : Fld := ⟨0x141124 + 0x1000 * p + 0x40 * r, 2, 1⟩
def AUD_STAT_LAG (p r : Nat) : Fld := ⟨0x141124 + 0x1000 * p + 0x40 * r, 8, 16⟩
def AUD_WCOUNT_VALUE (p r : Nat) : Fld := ⟨0x141128 + 0x1000 * p + 0x40 * r, 0, 32⟩
def AUD_FCOUNT_VALUE (p r : Nat) : Fld := ⟨0x14112C + 0x1000 * p + 0x40 * r, 0, 32⟩
def AUD_MASKFRAME_VALUE (p r : Nat) : Fld := ⟨0x141130 + 0x1000 * p + 0x40 * r, 0, 32⟩
def AUD_COUNT_ROTATIONS (p r : Nat) : Fld := ⟨0x141134 + 0x1000 * p + 0x40 * r, 0, 16⟩
def AUD_COUNT_FSERR (p r : Nat) : Fld := ⟨0x141134 + 0x1000 * p + 0x40 * r, 16, 8⟩
def AUD_COUNT_RESTARTS (p r : Nat) : Fld := ⟨0x141134 + 0x1000 * p + 0x40 * r, 24, 8⟩
def MEM_STAT_INITDONE : Fld := ⟨0x160110, 0, 1⟩
def MEM_STAT_STORM : Fld := ⟨0x160110, 1, 1⟩
def MEM_STAT_WBACK : Fld := ⟨0x160110, 2, 1⟩
def MEM_STAT_TEMP : Fld := ⟨0x160110, 8, 8⟩
def MEM_STAT_REFX : Fld := ⟨0x160110, 16, 2⟩
def MEM_ECC_CORR : Fld := ⟨0x160114, 0, 16⟩
def MEM_ECC_STACKCORR : Fld := ⟨0x160114, 16, 16⟩
def MEM_UNCOR_COUNT : Fld := ⟨0x160118, 0, 32⟩
def MEM_STORMCFG_STORMN : Fld := ⟨0x16011C, 0, 8⟩
def MEM_STORMCFG_STORMWIN : Fld := ⟨0x16011C, 8, 16⟩
def MEM_REG_RATE (r : Nat) : Fld := ⟨0x161100 + 0x10 * r, 0, 14⟩
def MEM_REG_BURST (r : Nat) : Fld := ⟨0x161100 + 0x10 * r, 16, 12⟩
def MEM_REG_BORROW (r : Nat) : Fld := ⟨0x161100 + 0x10 * r, 31, 1⟩
def MEM_NEED (r : Nat) : Fld := ⟨0x161104 + 0x10 * r, 0, 16⟩
def MEM_BYTES_COUNT (r : Nat) : Fld := ⟨0x161108 + 0x10 * r, 0, 64⟩
def MEM_LOG_SEQ_NEXT : Fld := ⟨0x162130, 0, 32⟩
def MEM_SCRUB_PERIOD : Fld := ⟨0x163100, 0, 5⟩
def MEM_SCRUB_POS_ADDR : Fld := ⟨0x163104, 0, 35⟩
def MEM_SCRUB_PASSES_COUNT : Fld := ⟨0x16310C, 0, 32⟩
def MEM_RECAL : Fld := ⟨0x163110, 0, 16⟩
def MEM_RECAL_RESTORED : Fld := ⟨0x163110, 16, 1⟩
def HKP_THERM_TEMP : Fld := ⟨0x180100, 0, 16⟩
def HKP_THERM_CEIL : Fld := ⟨0x180100, 16, 3⟩
def HKP_THERM_SUSPECT : Fld := ⟨0x180100, 19, 1⟩
def HKP_THERM_WARN : Fld := ⟨0x180100, 20, 1⟩
def HKP_VMON_MV (r : Nat) : Fld := ⟨0x181100 + 0x4 * r, 0, 12⟩
def HKP_VMON_RANGE (r : Nat) : Fld := ⟨0x181100 + 0x4 * r, 12, 1⟩
def HKP_AGE_MARGIN : Fld := ⟨0x181110, 0, 10⟩
def HKP_AGE_NEED : Fld := ⟨0x181110, 10, 10⟩
def HKP_AGE_AGED : Fld := ⟨0x181110, 20, 1⟩
def HKP_AVSCFG_GUARD : Fld := ⟨0x181114, 0, 6⟩
def HKP_ENERGY_UJ : Fld := ⟨0x182100, 0, 64⟩
def HKP_ENERGY_ENC_UJ : Fld := ⟨0x182108, 0, 64⟩
def HKP_EPP_ENC : Fld := ⟨0x182110, 0, 16⟩
def HKP_EPP_UNIT : Fld := ⟨0x182110, 16, 16⟩
def HKP_LUMA_COUNT : Fld := ⟨0x182118, 0, 64⟩

end Sys2Proof.Machine.Reg
end

