-- ==== Sys2Proof/Machine/RegMapHub.lean ====
section
/-! DEFINITION. The register tables of the hub: HST, DMA (05_host_port.md), SUP (03, 17, 18, 19) and MGT (05). -/

namespace Sys2Proof.Machine

/-- The registers of HST, page by page. -/
def regsHST : List RegDef := [
  { name := "HST_LINK_STAT", page := 0, pages := 1, off := 256, reps := 1, stride := 0, words := 1, staged := false, cross := .none, act := .none,
    fields := [{ name := "LTSSM", hi := 3, lo := 0, acc := .ro, reset := 0 },
      { name := "RATE", hi := 7, lo := 4, acc := .ro, reset := 0 },
      { name := "WIDTH", hi := 12, lo := 8, acc := .ro, reset := 0 },
      { name := "FLIT", hi := 13, lo := 13, acc := .ro, reset := 0 },
      { name := "VC1", hi := 14, lo := 14, acc := .ro, reset := 0 }] },
  { name := "HST_EVT_FILTER", page := 1, pages := 1, off := 256, reps := 1, stride := 0, words := 1, staged := false, cross := .none, act := .none,
    fields := [{ name := "CLASS", hi := 6, lo := 0, acc := .rw, reset := 127 },
      { name := "MEMCLASS", hi := 7, lo := 7, acc := .ro, reset := 1 },
      { name := "CLASS_HI", hi := 10, lo := 8, acc := .rw, reset := 7 },
      { name := "THERMCLASS", hi := 11, lo := 11, acc := .ro, reset := 1 },
      { name := "CLASS_TOP", hi := 13, lo := 12, acc := .rw, reset := 3 }] },
  { name := "HST_EVT_QSTAT", page := 1, pages := 1, off := 260, reps := 1, stride := 0, words := 1, staged := false, cross := .none, act := .none,
    fields := [{ name := "DEPTH", hi := 8, lo := 0, acc := .ro, reset := 0 }] },
  { name := "HST_EVT_SEQ", page := 1, pages := 1, off := 264, reps := 1, stride := 0, words := 1, staged := false, cross := .none, act := .none,
    fields := [{ name := "NEXT", hi := 31, lo := 0, acc := .ro, reset := 0 }] },
  { name := "HST_EVT_DROPPED", page := 1, pages := 1, off := 268, reps := 1, stride := 0, words := 1, staged := false, cross := .none, act := .none,
    fields := [{ name := "COUNT", hi := 31, lo := 0, acc := .rc, reset := 0 }] },
  { name := "HST_EVT_FILTERED", page := 1, pages := 1, off := 272, reps := 1, stride := 0, words := 1, staged := false, cross := .none, act := .none,
    fields := [{ name := "COUNT", hi := 31, lo := 0, acc := .rc, reset := 0 }] },
  { name := "HST_EVT_INJECT", page := 1, pages := 1, off := 276, reps := 1, stride := 0, words := 1, staged := false, cross := .none, act := .inject,
    fields := [{ name := "VALUE", hi := 31, lo := 0, acc := .wo, reset := 0 }] },
  { name := "HST_QUENCH", page := 2, pages := 5, off := 256, reps := 1, stride := 0, words := 1, staged := false, cross := .quench, act := .quench,
    fields := [{ name := "QUENCH", hi := 0, lo := 0, acc := .wo, reset := 0 },
      { name := "RESUME", hi := 1, lo := 1, acc := .wo, reset := 0 }] },
  { name := "HST_QUENCH_STAT", page := 2, pages := 5, off := 260, reps := 1, stride := 0, words := 1, staged := false, cross := .none, act := .none,
    fields := [{ name := "QUENCHED", hi := 0, lo := 0, acc := .ro, reset := 0 },
      { name := "STOPPED", hi := 1, lo := 1, acc := .ro, reset := 0 }] },
  { name := "HST_SINK_DROP", page := 2, pages := 5, off := 264, reps := 1, stride := 0, words := 1, staged := false, cross := .none, act := .none,
    fields := [{ name := "COUNT", hi := 31, lo := 0, acc := .rc, reset := 0 }] },
  { name := "HST_DB", page := 2, pages := 5, off := 1024, reps := 32, stride := 4, words := 1, staged := false, cross := .none, act := .doorbell,
    fields := [{ name := "PI", hi := 31, lo := 0, acc := .rw, reset := 0 }] },
  { name := "HST_HDB", page := 7, pages := 1, off := 1024, reps := 1, stride := 0, words := 1, staged := false, cross := .none, act := .doorbell,
    fields := [{ name := "PI", hi := 31, lo := 0, acc := .rw, reset := 0 }] }]

/-- The tables of HST (R88). -/
def tablesHST : List TableDef := [
  { name := "HST_RING", page := 2, pages := 5, idxOff := 272, dataOff := 288, words := 6, entries := 32, staged := false, cross := .ring,
    fields := [(0, { name := "CI", hi := 31, lo := 0, acc := .ro, reset := 0 }),
      (1, { name := "DROPS", hi := 31, lo := 0, acc := .ro, reset := 0 }),
      (2, { name := "BASE_LO", hi := 31, lo := 6, acc := .rw, reset := 0 }),
      (3, { name := "BASE_HI", hi := 31, lo := 0, acc := .rw, reset := 0 }),
      (4, { name := "LOG2SIZE", hi := 4, lo := 0, acc := .rw, reset := 4, chk := .range 4 16 }),
      (4, { name := "IMOD_TIME", hi := 31, lo := 16, acc := .rw, reset := 8, zero := true }),
      (5, { name := "IMOD_COUNT", hi := 15, lo := 0, acc := .rw, reset := 1, zero := true }),
      (5, { name := "IMOD_EN", hi := 16, lo := 16, acc := .rw, reset := 0 }),
      (5, { name := "ENABLE", hi := 17, lo := 17, acc := .rw, reset := 0 })] },
  { name := "HST_HRING", page := 7, pages := 1, idxOff := 272, dataOff := 288, words := 6, entries := 1, staged := false, cross := .ring,
    fields := [(0, { name := "CI", hi := 31, lo := 0, acc := .ro, reset := 0 }),
      (1, { name := "DROPS", hi := 31, lo := 0, acc := .ro, reset := 0 }),
      (2, { name := "BASE_LO", hi := 31, lo := 6, acc := .rw, reset := 0 }),
      (3, { name := "BASE_HI", hi := 31, lo := 0, acc := .rw, reset := 0 }),
      (4, { name := "LOG2SIZE", hi := 4, lo := 0, acc := .rw, reset := 4, chk := .range 4 16 }),
      (4, { name := "IMOD_TIME", hi := 31, lo := 16, acc := .rw, reset := 8, zero := true }),
      (5, { name := "IMOD_COUNT", hi := 15, lo := 0, acc := .rw, reset := 1, zero := true }),
      (5, { name := "IMOD_EN", hi := 16, lo := 16, acc := .rw, reset := 0 }),
      (5, { name := "ENABLE", hi := 17, lo := 17, acc := .rw, reset := 0 })] }]

/-- The registers of DMA, page by page. -/
def regsDMA : List RegDef := [
  { name := "DMA_ENG_STAT", page := 0, pages := 44, off := 256, reps := 1, stride := 0, words := 1, staged := false, cross := .none, act := .none,
    fields := [{ name := "STATE", hi := 2, lo := 0, acc := .ro, reset := 0 },
      { name := "OUTSTANDING", hi := 24, lo := 16, acc := .ro, reset := 0 }] },
  { name := "DMA_RD_TIMEOUT", page := 0, pages := 44, off := 260, reps := 1, stride := 0, words := 1, staged := false, cross := .none, act := .none,
    fields := [{ name := "LIMIT", hi := 15, lo := 0, acc := .rw, reset := 10000, chk := .range 50 50000, zero := true }] },
  { name := "DMA_BYTES", page := 0, pages := 44, off := 264, reps := 1, stride := 0, words := 2, staged := false, cross := .none, act := .none,
    fields := [{ name := "BYTES", hi := 63, lo := 0, acc := .ro, reset := 0 }] }]

/-- The tables of DMA (R88). -/
def tablesDMA : List TableDef := []

/-- The registers of SUP, page by page. -/
def regsSUP : List RegDef := [
  { name := "SUP_STRAPS", page := 0, pages := 1, off := 256, reps := 1, stride := 0, words := 1, staged := false, cross := .none, act := .none,
    fields := [{ name := "ADDR", hi := 1, lo := 0, acc := .ro, reset := 0 },
      { name := "SMB", hi := 2, lo := 2, acc := .ro, reset := 0 },
      { name := "LINK", hi := 4, lo := 3, acc := .ro, reset := 0 },
      { name := "TEST", hi := 5, lo := 5, acc := .ro, reset := 0 }] },
  { name := "SUP_RESET_CAUSE", page := 0, pages := 1, off := 260, reps := 1, stride := 0, words := 1, staged := false, cross := .none, act := .none,
    fields := [{ name := "AUX_POR", hi := 0, lo := 0, acc := .w1c, reset := 0 },
      { name := "AUX_PIN", hi := 1, lo := 1, acc := .w1c, reset := 0 },
      { name := "PWR_GOOD", hi := 2, lo := 2, acc := .w1c, reset := 0 },
      { name := "HUB_SUPPLY", hi := 3, lo := 3, acc := .w1c, reset := 0 },
      { name := "LINK", hi := 4, lo := 4, acc := .w1c, reset := 0 }] },
  { name := "SUP_UNIT_CTL", page := 0, pages := 1, off := 272, reps := 5, stride := 4, words := 1, staged := false, cross := .none, act := .unitCtl,
    fields := [{ name := "REQ", hi := 1, lo := 0, acc := .rw, reset := 0 },
      { name := "KEEP", hi := 15, lo := 8, acc := .rw, reset := 255 }] },
  { name := "SUP_UNIT_STAT", page := 0, pages := 1, off := 304, reps := 5, stride := 4, words := 1, staged := false, cross := .none, act := .none,
    fields := [{ name := "STATE", hi := 1, lo := 0, acc := .ro, reset := 0 },
      { name := "TRAINED", hi := 2, lo := 2, acc := .ro, reset := 0 },
      { name := "BENCH", hi := 3, lo := 3, acc := .ro, reset := 0 },
      { name := "ISOLATED", hi := 4, lo := 4, acc := .ro, reset := 0 },
      { name := "CAUSE", hi := 11, lo := 8, acc := .ro, reset := 0 }] },
  { name := "SUP_IMG_ADDR", page := 0, pages := 1, off := 336, reps := 1, stride := 0, words := 2, staged := false, cross := .none, act := .none,
    fields := [{ name := "ADDR", hi := 63, lo := 8, acc := .rw, reset := 0 },
      { name := "ALIGN", hi := 7, lo := 0, acc := .ro, reset := 0 }] },
  { name := "SUP_IMG_LEN", page := 0, pages := 1, off := 344, reps := 1, stride := 0, words := 1, staged := false, cross := .imgLen, act := .none,
    fields := [{ name := "LEN", hi := 19, lo := 0, acc := .rw, reset := 0, zero := true }] },
  { name := "SUP_IMG_CTL", page := 0, pages := 1, off := 348, reps := 1, stride := 0, words := 1, staged := false, cross := .none, act := .imgCtl,
    fields := [{ name := "GO", hi := 0, lo := 0, acc := .wo, reset := 0 }] },
  { name := "SUP_IMG_STAT", page := 0, pages := 1, off := 352, reps := 1, stride := 0, words := 1, staged := false, cross := .none, act := .none,
    fields := [{ name := "RESULT", hi := 3, lo := 0, acc := .ro, reset := 0 }] },
  { name := "SUP_IMG_VER", page := 0, pages := 1, off := 356, reps := 1, stride := 0, words := 1, staged := false, cross := .none, act := .none,
    fields := [{ name := "VERSION", hi := 31, lo := 0, acc := .ro, reset := 0 }] },
  { name := "SUP_AVS_STAT", page := 0, pages := 1, off := 368, reps := 6, stride := 4, words := 1, staged := false, cross := .none, act := .none,
    fields := [{ name := "TARGET", hi := 9, lo := 0, acc := .ro, reset := 750 },
      { name := "MEASURED", hi := 19, lo := 10, acc := .ro, reset := 0 },
      { name := "NORESP", hi := 20, lo := 20, acc := .ro, reset := 0 }] },
  { name := "SUP_LOG_SEQ", page := 1, pages := 1, off := 304, reps := 1, stride := 0, words := 1, staged := false, cross := .none, act := .none,
    fields := [{ name := "NEXT", hi := 31, lo := 0, acc := .ro, reset := 0 }] },
  { name := "SUP_LOG_CTL", page := 1, pages := 1, off := 308, reps := 1, stride := 0, words := 1, staged := false, cross := .none, act := .logCtl,
    fields := [{ name := "CLEAR", hi := 0, lo := 0, acc := .wo, reset := 0 }] },
  { name := "SUP_FAULT_STAT", page := 1, pages := 1, off := 320, reps := 1, stride := 0, words := 1, staged := false, cross := .none, act := .faultReg,
    fields := [{ name := "POWER", hi := 0, lo := 0, acc := .w1c, reset := 0 },
      { name := "ISOLATED", hi := 1, lo := 1, acc := .w1c, reset := 0 },
      { name := "THERM", hi := 2, lo := 2, acc := .w1c, reset := 0 },
      { name := "OFFAIR", hi := 3, lo := 3, acc := .w1c, reset := 0 },
      { name := "SUBST", hi := 4, lo := 4, acc := .w1c, reset := 0 },
      { name := "VERIFY", hi := 5, lo := 5, acc := .w1c, reset := 0 },
      { name := "MEMORY", hi := 6, lo := 6, acc := .w1c, reset := 0 },
      { name := "IMAGE", hi := 7, lo := 7, acc := .w1c, reset := 0 },
      { name := "AVS", hi := 8, lo := 8, acc := .w1c, reset := 0 },
      { name := "SENSOR", hi := 9, lo := 9, acc := .w1c, reset := 0 },
      { name := "WATCHDOG", hi := 10, lo := 10, acc := .w1c, reset := 0 }] },
  { name := "SUP_FAULT_EN", page := 1, pages := 1, off := 324, reps := 1, stride := 0, words := 1, staged := false, cross := .none, act := .faultReg,
    fields := [{ name := "POWER", hi := 0, lo := 0, acc := .rw, reset := 1 },
      { name := "ISOLATED", hi := 1, lo := 1, acc := .rw, reset := 1 },
      { name := "THERM", hi := 2, lo := 2, acc := .rw, reset := 1 },
      { name := "OFFAIR", hi := 3, lo := 3, acc := .rw, reset := 1 },
      { name := "SUBST", hi := 4, lo := 4, acc := .rw, reset := 1 },
      { name := "VERIFY", hi := 5, lo := 5, acc := .rw, reset := 1 },
      { name := "MEMORY", hi := 6, lo := 6, acc := .rw, reset := 1 },
      { name := "IMAGE", hi := 7, lo := 7, acc := .rw, reset := 1 },
      { name := "AVS", hi := 8, lo := 8, acc := .rw, reset := 1 },
      { name := "SENSOR", hi := 9, lo := 9, acc := .rw, reset := 0 },
      { name := "WATCHDOG", hi := 10, lo := 10, acc := .rw, reset := 1 }] },
  { name := "SUP_SC_HOST", page := 2, pages := 1, off := 256, reps := 1, stride := 0, words := 1, staged := false, cross := .none, act := .none,
    fields := [{ name := "HOST", hi := 4, lo := 0, acc := .rw, reset := 0 }] },
  { name := "SUP_SC_STAT", page := 2, pages := 1, off := 272, reps := 5, stride := 4, words := 1, staged := false, cross := .none, act := .none,
    fields := [{ name := "LATEST", hi := 0, lo := 0, acc := .ro, reset := 0 },
      { name := "PREVIOUS", hi := 1, lo := 1, acc := .ro, reset := 0 },
      { name := "CONFIG", hi := 2, lo := 2, acc := .ro, reset := 0 },
      { name := "FRAME", hi := 31, lo := 16, acc := .ro, reset := 0 }] },
  { name := "SUP_BENCH", page := 3, pages := 1, off := 256, reps := 1, stride := 0, words := 1, staged := false, cross := .none, act := .bench,
    fields := [{ name := "BENCH", hi := 2, lo := 0, acc := .rw, reset := 4, chk := .enum [0, 1, 2, 3, 4, 7] }] },
  { name := "SUP_SUBST_CFG", page := 3, pages := 1, off := 260, reps := 1, stride := 0, words := 1, staged := false, cross := .none, act := .none,
    fields := [{ name := "WDOG", hi := 0, lo := 0, acc := .rw, reset := 1 },
      { name := "STORM", hi := 1, lo := 1, acc := .rw, reset := 1 },
      { name := "THERM", hi := 2, lo := 2, acc := .rw, reset := 1 },
      { name := "ISOL", hi := 3, lo := 3, acc := .rw, reset := 1 }] },
  { name := "SUP_SUBST_CTL", page := 3, pages := 1, off := 264, reps := 1, stride := 0, words := 1, staged := false, cross := .substCtl, act := .substCtl,
    fields := [{ name := "UNIT", hi := 2, lo := 0, acc := .wo, reset := 0, chk := .range 0 4 },
      { name := "GO", hi := 8, lo := 8, acc := .wo, reset := 0 },
      { name := "RETURN", hi := 9, lo := 9, acc := .wo, reset := 0 }] },
  { name := "SUP_SUBST_STAT", page := 3, pages := 1, off := 268, reps := 1, stride := 0, words := 1, staged := false, cross := .none, act := .none,
    fields := [{ name := "STATE", hi := 1, lo := 0, acc := .ro, reset := 0 },
      { name := "BENCH_EN", hi := 2, lo := 2, acc := .ro, reset := 0 },
      { name := "SEL", hi := 6, lo := 4, acc := .ro, reset := 7 },
      { name := "FAILED", hi := 10, lo := 8, acc := .ro, reset := 0 },
      { name := "SERVER", hi := 14, lo := 12, acc := .ro, reset := 0 },
      { name := "TRIGGER", hi := 23, lo := 16, acc := .ro, reset := 0 },
      { name := "REASON", hi := 31, lo := 24, acc := .ro, reset := 0 }] },
  { name := "SUP_SUBST_TIME", page := 3, pages := 1, off := 272, reps := 1, stride := 0, words := 1, staged := false, cross := .none, act := .none,
    fields := [{ name := "TIME", hi := 31, lo := 0, acc := .ro, reset := 0 }] },
  { name := "SUP_SUBST_COUNT", page := 3, pages := 1, off := 276, reps := 1, stride := 0, words := 1, staged := false, cross := .none, act := .none,
    fields := [{ name := "DONE", hi := 15, lo := 0, acc := .rc, reset := 0 },
      { name := "FAILED", hi := 31, lo := 16, acc := .rc, reset := 0 }] },
  { name := "SUP_STATUS", page := 4, pages := 1, off := 256, reps := 8, stride := 4, words := 1, staged := false, cross := .none, act := .none,
    fields := [{ name := "BYTES", hi := 31, lo := 0, acc := .ro, reset := 0 }] },
  { name := "SUP_TEMP", page := 5, pages := 1, off := 256, reps := 6, stride := 4, words := 1, staged := false, cross := .none, act := .none,
    fields := [{ name := "TEMP", hi := 15, lo := 0, acc := .ro, reset := 0 },
      { name := "VALID", hi := 16, lo := 16, acc := .ro, reset := 0 },
      { name := "SUSPECT", hi := 17, lo := 17, acc := .ro, reset := 0 },
      { name := "WARN", hi := 18, lo := 18, acc := .ro, reset := 0 },
      { name := "SHUT", hi := 19, lo := 19, acc := .ro, reset := 0 }] },
  { name := "SUP_TEMP_STACK", page := 5, pages := 1, off := 288, reps := 5, stride := 4, words := 1, staged := false, cross := .none, act := .none,
    fields := [{ name := "TEMP", hi := 15, lo := 0, acc := .ro, reset := 0 },
      { name := "VALID", hi := 16, lo := 16, acc := .ro, reset := 0 },
      { name := "SUSPECT", hi := 17, lo := 17, acc := .ro, reset := 0 },
      { name := "WARN", hi := 18, lo := 18, acc := .ro, reset := 0 },
      { name := "SHUT", hi := 19, lo := 19, acc := .ro, reset := 0 }] },
  { name := "SUP_RAW", page := 5, pages := 1, off := 320, reps := 6, stride := 4, words := 1, staged := false, cross := .none, act := .none,
    fields := [{ name := "RAW", hi := 15, lo := 0, acc := .ro, reset := 0 },
      { name := "EST", hi := 31, lo := 16, acc := .ro, reset := 0 }] },
  { name := "SUP_RAW_STACK", page := 5, pages := 1, off := 352, reps := 5, stride := 4, words := 1, staged := false, cross := .none, act := .none,
    fields := [{ name := "RAW", hi := 15, lo := 0, acc := .ro, reset := 0 },
      { name := "EST", hi := 31, lo := 16, acc := .ro, reset := 0 }] },
  { name := "SUP_THERM_CTL", page := 5, pages := 1, off := 384, reps := 1, stride := 0, words := 1, staged := false, cross := .none, act := .thermCtl,
    fields := [{ name := "FORCE", hi := 4, lo := 0, acc := .wo, reset := 0 }] },
  { name := "SUP_THERM_STAT", page := 5, pages := 1, off := 388, reps := 1, stride := 0, words := 1, staged := false, cross := .none, act := .none,
    fields := [{ name := "TRIP", hi := 0, lo := 0, acc := .ro, reset := 0 }] },
  { name := "SUP_DEV_ENERGY", page := 5, pages := 1, off := 400, reps := 1, stride := 0, words := 2, staged := false, cross := .none, act := .none,
    fields := [{ name := "UJ", hi := 63, lo := 0, acc := .ro, reset := 0 }] },
  { name := "SUP_DEV_EPP", page := 5, pages := 1, off := 408, reps := 1, stride := 0, words := 1, staged := false, cross := .none, act := .none,
    fields := [{ name := "EPP", hi := 15, lo := 0, acc := .ro, reset := 65535 }] }]

/-- The tables of SUP (R88). -/
def tablesSUP : List TableDef := [
  { name := "SUP_LOG", page := 1, pages := 1, idxOff := 256, dataOff := 272, words := 8, entries := 1024, staged := false, cross := .none,
    fields := [(0, { name := "W0", hi := 31, lo := 0, acc := .ro, reset := 0 }),
      (1, { name := "W1", hi := 31, lo := 0, acc := .ro, reset := 0 }),
      (2, { name := "W2", hi := 31, lo := 0, acc := .ro, reset := 0 }),
      (3, { name := "W3", hi := 31, lo := 0, acc := .ro, reset := 0 }),
      (4, { name := "W4", hi := 31, lo := 0, acc := .ro, reset := 0 }),
      (5, { name := "W5", hi := 31, lo := 0, acc := .ro, reset := 0 }),
      (6, { name := "W6", hi := 31, lo := 0, acc := .ro, reset := 0 }),
      (7, { name := "W7", hi := 31, lo := 0, acc := .ro, reset := 0 })] },
  { name := "SUP_SC", page := 2, pages := 1, idxOff := 320, dataOff := 324, words := 16, entries := 1280, staged := false, cross := .none,
    fields := [(0, { name := "W0", hi := 31, lo := 0, acc := .ro, reset := 0 }),
      (1, { name := "W1", hi := 31, lo := 0, acc := .ro, reset := 0 }),
      (2, { name := "W2", hi := 31, lo := 0, acc := .ro, reset := 0 }),
      (3, { name := "W3", hi := 31, lo := 0, acc := .ro, reset := 0 }),
      (4, { name := "W4", hi := 31, lo := 0, acc := .ro, reset := 0 }),
      (5, { name := "W5", hi := 31, lo := 0, acc := .ro, reset := 0 }),
      (6, { name := "W6", hi := 31, lo := 0, acc := .ro, reset := 0 }),
      (7, { name := "W7", hi := 31, lo := 0, acc := .ro, reset := 0 }),
      (8, { name := "W8", hi := 31, lo := 0, acc := .ro, reset := 0 }),
      (9, { name := "W9", hi := 31, lo := 0, acc := .ro, reset := 0 }),
      (10, { name := "W10", hi := 31, lo := 0, acc := .ro, reset := 0 }),
      (11, { name := "W11", hi := 31, lo := 0, acc := .ro, reset := 0 }),
      (12, { name := "W12", hi := 31, lo := 0, acc := .ro, reset := 0 }),
      (13, { name := "W13", hi := 31, lo := 0, acc := .ro, reset := 0 }),
      (14, { name := "W14", hi := 31, lo := 0, acc := .ro, reset := 0 }),
      (15, { name := "W15", hi := 31, lo := 0, acc := .ro, reset := 0 })] },
  { name := "SUP_LANE", page := 4, pages := 1, idxOff := 320, dataOff := 324, words := 1, entries := 60, staged := false, cross := .none,
    fields := [(0, { name := "W0", hi := 31, lo := 0, acc := .ro, reset := 0 })] }]

/-- The registers of MGT, page by page. -/
def regsMGT : List RegDef := [
  { name := "MGT_MODE", page := 0, pages := 1, off := 256, reps := 1, stride := 0, words := 1, staged := false, cross := .none, act := .none,
    fields := [{ name := "BUS", hi := 0, lo := 0, acc := .ro, reset := 0 },
      { name := "DYN_VALID", hi := 1, lo := 1, acc := .ro, reset := 0 },
      { name := "DYN_ADDR", hi := 8, lo := 2, acc := .ro, reset := 0 },
      { name := "STATIC_ADDR", hi := 15, lo := 9, acc := .ro, reset := 88 }] }]

/-- The tables of MGT (R88). -/
def tablesMGT : List TableDef := []

end Sys2Proof.Machine
end

