-- ==== Sys2Proof/Machine/RegMapUnit.lean ====
section
/-! DEFINITION. The register tables of a channel unit, first half: LNK (14), CAP, CMP (07, 08), ENC (09), RCT (10), PKT (11). -/

namespace Sys2Proof.Machine

/-- The registers of LNK, page by page. -/
def regsLNK : List RegDef := [
  { name := "LNK_CFG", page := 0, pages := 1, off := 256, reps := 1, stride := 0, words := 1, staged := true, cross := .none, act := .none,
    fields := [{ name := "SPLIT", hi := 0, lo := 0, acc := .rw, reset := 0 }] },
  { name := "LNK_TMO", page := 0, pages := 1, off := 260, reps := 1, stride := 0, words := 1, staged := false, cross := .none, act := .none,
    fields := [{ name := "CDR", hi := 7, lo := 0, acc := .rw, reset := 20, zero := true },
      { name := "COMMA", hi := 15, lo := 8, acc := .rw, reset := 20, zero := true },
      { name := "POL", hi := 23, lo := 16, acc := .rw, reset := 50, zero := true },
      { name := "ALIGN", hi := 31, lo := 24, acc := .rw, reset := 50, zero := true }] },
  { name := "LNK_GSTAT", page := 0, pages := 1, off := 264, reps := 1, stride := 0, words := 1, staged := false, cross := .none, act := .none,
    fields := [{ name := "GROUP", hi := 3, lo := 0, acc := .ro, reset := 0 },
      { name := "G16", hi := 4, lo := 4, acc := .ro, reset := 0 },
      { name := "PATHA", hi := 5, lo := 5, acc := .ro, reset := 0 },
      { name := "PATHB", hi := 6, lo := 6, acc := .ro, reset := 0 },
      { name := "TLINK", hi := 7, lo := 7, acc := .ro, reset := 0 }] },
  { name := "LNK_LOST", page := 0, pages := 1, off := 268, reps := 1, stride := 0, words := 1, staged := false, cross := .none, act := .none,
    fields := [{ name := "COUNT", hi := 15, lo := 0, acc := .rc, reset := 0 }] },
  { name := "LNK_PCFG", page := 1, pages := 16, off := 256, reps := 1, stride := 0, words := 1, staged := true, cross := .none, act := .none,
    fields := [{ name := "MODE", hi := 1, lo := 0, acc := .rw, reset := 0 },
      { name := "RATE", hi := 6, lo := 4, acc := .rw, reset := 5, chk := .range 1 5 },
      { name := "PATTERN", hi := 9, lo := 8, acc := .rw, reset := 3 },
      { name := "POLFIX", hi := 11, lo := 10, acc := .rw, reset := 0, chk := .range 0 2 }] },
  { name := "LNK_PCTL", page := 1, pages := 16, off := 260, reps := 1, stride := 0, words := 1, staged := false, cross := .none, act := .lnkPctl,
    fields := [{ name := "HOLD", hi := 0, lo := 0, acc := .rw, reset := 0 },
      { name := "CLEAR", hi := 1, lo := 1, acc := .wo, reset := 0 },
      { name := "SCAN", hi := 2, lo := 2, acc := .wo, reset := 0 },
      { name := "DWELL", hi := 12, lo := 8, acc := .rw, reset := 20, chk := .range 10 30 }] },
  { name := "LNK_PSTAT", page := 1, pages := 16, off := 264, reps := 1, stride := 0, words := 1, staged := false, cross := .none, act := .none,
    fields := [{ name := "STEP", hi := 2, lo := 0, acc := .ro, reset := 0 },
      { name := "INV", hi := 3, lo := 3, acc := .ro, reset := 0 },
      { name := "REV", hi := 4, lo := 4, acc := .ro, reset := 0 },
      { name := "PLOCK", hi := 5, lo := 5, acc := .ro, reset := 0 },
      { name := "SCANBUSY", hi := 6, lo := 6, acc := .ro, reset := 0 },
      { name := "FOM", hi := 15, lo := 8, acc := .ro, reset := 0 },
      { name := "SKEW", hi := 23, lo := 16, acc := .ro, reset := 0 },
      { name := "FAIL", hi := 27, lo := 24, acc := .ro, reset := 0 }] },
  { name := "LNK_PERR", page := 1, pages := 16, off := 268, reps := 1, stride := 0, words := 1, staged := false, cross := .none, act := .none,
    fields := [{ name := "CODE", hi := 15, lo := 0, acc := .rc, reset := 0 },
      { name := "MARKER", hi := 23, lo := 16, acc := .rc, reset := 0 },
      { name := "RESTART", hi := 31, lo := 24, acc := .rc, reset := 0 }] },
  { name := "LNK_PFOMMIN", page := 1, pages := 16, off := 272, reps := 1, stride := 0, words := 1, staged := false, cross := .none, act := .none,
    fields := [{ name := "MIN", hi := 7, lo := 0, acc := .rc, reset := 255 }] },
  { name := "LNK_PRBS_BITS", page := 1, pages := 16, off := 280, reps := 1, stride := 0, words := 2, staged := false, cross := .none, act := .none,
    fields := [{ name := "COUNT", hi := 63, lo := 0, acc := .ro, reset := 0 }] },
  { name := "LNK_PRBS_ERRS", page := 1, pages := 16, off := 288, reps := 1, stride := 0, words := 2, staged := false, cross := .none, act := .none,
    fields := [{ name := "COUNT", hi := 63, lo := 0, acc := .ro, reset := 0 }] },
  { name := "LNK_SCFG", page := 17, pages := 4, off := 256, reps := 1, stride := 0, words := 1, staged := true, cross := .none, act := .none,
    fields := [{ name := "RATE", hi := 6, lo := 4, acc := .rw, reset := 5, chk := .range 1 5 },
      { name := "PRESET", hi := 11, lo := 8, acc := .rw, reset := 5, chk := .range 0 10 },
      { name := "PATTERN", hi := 13, lo := 12, acc := .rw, reset := 3 },
      { name := "PRBSGEN", hi := 14, lo := 14, acc := .rw, reset := 0 }] },
  { name := "LNK_SSTAT", page := 17, pages := 4, off := 260, reps := 1, stride := 0, words := 1, staged := false, cross := .none, act := .none,
    fields := [{ name := "SENDS", hi := 1, lo := 0, acc := .ro, reset := 0 }] },
  { name := "LNK_TCFG", page := 21, pages := 1, off := 256, reps := 1, stride := 0, words := 1, staged := true, cross := .none, act := .none,
    fields := [{ name := "AN", hi := 0, lo := 0, acc := .rw, reset := 1 },
      { name := "PRESET", hi := 11, lo := 8, acc := .rw, reset := 5, chk := .range 0 10 },
      { name := "POLFIX", hi := 13, lo := 12, acc := .rw, reset := 0, chk := .range 0 2 }] },
  { name := "LNK_TSTAT", page := 21, pages := 1, off := 260, reps := 1, stride := 0, words := 1, staged := false, cross := .none, act := .none,
    fields := [{ name := "STEP", hi := 2, lo := 0, acc := .ro, reset := 0 },
      { name := "INV", hi := 3, lo := 3, acc := .ro, reset := 0 },
      { name := "FOM", hi := 15, lo := 8, acc := .ro, reset := 0 },
      { name := "PARTNER", hi := 31, lo := 16, acc := .ro, reset := 0 }] }]

/-- The tables of LNK (R88). -/
def tablesLNK : List TableDef := [
  { name := "LNK_EYE", page := 1, pages := 16, idxOff := 320, dataOff := 324, words := 1, entries := 2048, staged := false, cross := .none,
    fields := [(0, { name := "ERRS", hi := 31, lo := 0, acc := .ro, reset := 4294967295 })] }]

/-- The registers of CAP, page by page. -/
def regsCAP : List RegDef := [
  { name := "CAP_RASTER_RATE", page := 0, pages := 1, off := 256, reps := 1, stride := 0, words := 1, staged := true, cross := .none, act := .none,
    fields := [{ name := "NUM", hi := 16, lo := 0, acc := .rw, reset := 120, zero := true },
      { name := "DEN", hi := 27, lo := 17, acc := .rw, reset := 1, chk := .enum [1, 1001] }] },
  { name := "CAP_RASTER_LINES", page := 0, pages := 1, off := 260, reps := 1, stride := 0, words := 1, staged := true, cross := .none, act := .none,
    fields := [{ name := "TOTAL", hi := 15, lo := 0, acc := .rw, reset := 4500, chk := .range 0 8704, zero := true },
      { name := "ACTIVE", hi := 31, lo := 16, acc := .rw, reset := 4320, chk := .range 0 4320, zero := true }] },
  { name := "CAP_RASTER_PHASE", page := 0, pages := 1, off := 264, reps := 1, stride := 0, words := 1, staged := true, cross := .none, act := .none,
    fields := [{ name := "OFFSET", hi := 15, lo := 0, acc := .rw, reset := 0 }] },
  { name := "CAP_SRC_CFG", page := 1, pages := 4, off := 256, reps := 1, stride := 0, words := 1, staged := true, cross := .none, act := .none,
    fields := [{ name := "EN", hi := 0, lo := 0, acc := .rw, reset := 0 },
      { name := "KIND", hi := 2, lo := 1, acc := .rw, reset := 0 },
      { name := "GROUP", hi := 5, lo := 3, acc := .rw, reset := 4, chk := .range 0 4 },
      { name := "SRCID", hi := 7, lo := 6, acc := .rw, reset := 0, byPage := [0, 1, 2, 3] },
      { name := "FORMAT", hi := 15, lo := 8, acc := .rw, reset := 19, chk := .enum [1, 2, 3, 4, 17, 18, 19, 20] }] },
  { name := "CAP_SRC_GEOM", page := 1, pages := 4, off := 260, reps := 1, stride := 0, words := 1, staged := true, cross := .none, act := .none,
    fields := [{ name := "WIDTH", hi := 15, lo := 0, acc := .rw, reset := 7680, chk := .mult 64 7680 16, zero := true },
      { name := "RECOVER", hi := 23, lo := 16, acc := .rw, reset := 2, zero := true }] },
  { name := "CAP_SRC_BUF", page := 1, pages := 4, off := 264, reps := 1, stride := 0, words := 2, staged := true, cross := .none, act := .none,
    fields := [{ name := "ADDR", hi := 63, lo := 12, acc := .rw, reset := 0 }] },
  { name := "CAP_SRC_STAT", page := 1, pages := 4, off := 272, reps := 1, stride := 0, words := 1, staged := false, cross := .none, act := .none,
    fields := [{ name := "READY", hi := 0, lo := 0, acc := .ro, reset := 0 },
      { name := "CAUSE", hi := 7, lo := 4, acc := .ro, reset := 0 },
      { name := "CLEAN", hi := 15, lo := 8, acc := .ro, reset := 0 },
      { name := "LINE", hi := 31, lo := 16, acc := .ro, reset := 0 }] },
  { name := "CAP_SRC_CHK", page := 1, pages := 4, off := 276, reps := 1, stride := 0, words := 1, staged := false, cross := .none, act := .none,
    fields := [{ name := "HDR", hi := 7, lo := 0, acc := .rc, reset := 0 },
      { name := "PAYLOAD", hi := 15, lo := 8, acc := .rc, reset := 0 },
      { name := "ORDER", hi := 23, lo := 16, acc := .rc, reset := 0 },
      { name := "OTHER", hi := 31, lo := 24, acc := .rc, reset := 0 }] }]

/-- The tables of CAP (R88). -/
def tablesCAP : List TableDef := []

/-- The registers of CMP, page by page. -/
def regsCMP : List RegDef := [
  { name := "CMP_CTX_CFG", page := 1, pages := 4, off := 256, reps := 1, stride := 0, words := 1, staged := true, cross := .none, act := .none,
    fields := [{ name := "EN", hi := 0, lo := 0, acc := .rw, reset := 0 },
      { name := "SRC", hi := 2, lo := 1, acc := .rw, reset := 0 },
      { name := "L0", hi := 8, lo := 8, acc := .ro, reset := 1 },
      { name := "LAYERS", hi := 15, lo := 9, acc := .rw, reset := 0 }] },
  { name := "CMP_CTX_BG", page := 1, pages := 4, off := 260, reps := 1, stride := 0, words := 2, staged := true, cross := .none, act := .none,
    fields := [{ name := "COLOUR", hi := 47, lo := 0, acc := .rw, reset := 0 }] },
  { name := "CMP_CTX_OUT", page := 1, pages := 4, off := 272, reps := 1, stride := 0, words := 2, staged := true, cross := .none, act := .none,
    fields := [{ name := "ADDR", hi := 63, lo := 12, acc := .rw, reset := 0 }] },
  { name := "CMP_LCFG", page := 8, pages := 32, off := 256, reps := 1, stride := 0, words := 1, staged := true, cross := .lakeScale, act := .none,
    fields := [{ name := "FORMAT", hi := 3, lo := 0, acc := .rw, reset := 0, chk := .range 0 4 },
      { name := "PREMUL", hi := 4, lo := 4, acc := .rw, reset := 0 },
      { name := "SEQ", hi := 5, lo := 5, acc := .rw, reset := 0 },
      { name := "SCALE", hi := 6, lo := 6, acc := .rw, reset := 0 }] },
  { name := "CMP_LSIZE", page := 8, pages := 32, off := 260, reps := 1, stride := 0, words := 1, staged := true, cross := .none, act := .none,
    fields := [{ name := "SW", hi := 15, lo := 0, acc := .rw, reset := 1920, chk := .range 1 8192, zero := true },
      { name := "SH", hi := 31, lo := 16, acc := .rw, reset := 1080, chk := .range 1 8192, zero := true }] },
  { name := "CMP_LDSIZE", page := 8, pages := 32, off := 264, reps := 1, stride := 0, words := 1, staged := true, cross := .none, act := .none,
    fields := [{ name := "DW", hi := 15, lo := 0, acc := .rw, reset := 1920, chk := .range 1 8192, zero := true },
      { name := "DH", hi := 31, lo := 16, acc := .rw, reset := 1080, chk := .range 1 8192, zero := true }] },
  { name := "CMP_LSTRIDE", page := 8, pages := 32, off := 268, reps := 1, stride := 0, words := 1, staged := true, cross := .none, act := .none,
    fields := [{ name := "STRIDE", hi := 16, lo := 0, acc := .rw, reset := 15360, chk := .mult 64 65536 64, zero := true }] },
  { name := "CMP_LNEXT_ADDR", page := 8, pages := 32, off := 272, reps := 1, stride := 0, words := 2, staged := false, cross := .below24GiB, act := .none,
    fields := [{ name := "ADDR", hi := 63, lo := 6, acc := .rw, reset := 0 }] },
  { name := "CMP_LNEXT_POS", page := 8, pages := 32, off := 280, reps := 1, stride := 0, words := 1, staged := false, cross := .none, act := .none,
    fields := [{ name := "X", hi := 15, lo := 0, acc := .rw, reset := 0, chk := .srange (-8192) 8191 },
      { name := "Y", hi := 31, lo := 16, acc := .rw, reset := 0, chk := .srange (-8192) 8191 }] },
  { name := "CMP_LNEXT_ALPHA", page := 8, pages := 32, off := 284, reps := 1, stride := 0, words := 1, staged := false, cross := .none, act := .none,
    fields := [{ name := "GALPHA", hi := 15, lo := 0, acc := .rw, reset := 65535 }] },
  { name := "CMP_LFLIP", page := 8, pages := 32, off := 288, reps := 1, stride := 0, words := 1, staged := false, cross := .none, act := .flip,
    fields := [{ name := "ARM", hi := 0, lo := 0, acc := .wo, reset := 0 }] },
  { name := "CMP_LSTAT", page := 8, pages := 32, off := 292, reps := 1, stride := 0, words := 1, staged := false, cross := .none, act := .none,
    fields := [{ name := "LOADED", hi := 0, lo := 0, acc := .ro, reset := 0 },
      { name := "PENDING", hi := 1, lo := 1, acc := .ro, reset := 0 },
      { name := "HELD", hi := 2, lo := 2, acc := .ro, reset := 0 },
      { name := "PREV_BUSY", hi := 3, lo := 3, acc := .ro, reset := 0 },
      { name := "FRAME", hi := 31, lo := 16, acc := .ro, reset := 0 }] },
  { name := "CMP_LCUR_ADDR", page := 8, pages := 32, off := 296, reps := 1, stride := 0, words := 2, staged := false, cross := .none, act := .none,
    fields := [{ name := "ADDR", hi := 63, lo := 0, acc := .ro, reset := 0 }] },
  { name := "CMP_REN_CFG", page := 40, pages := 8, off := 256, reps := 1, stride := 0, words := 1, staged := true, cross := .none, act := .none,
    fields := [{ name := "EN", hi := 0, lo := 0, acc := .rw, reset := 0 },
      { name := "CTX", hi := 2, lo := 1, acc := .rw, reset := 0 },
      { name := "SCALE", hi := 3, lo := 3, acc := .rw, reset := 0 },
      { name := "CHROMA", hi := 5, lo := 4, acc := .rw, reset := 1, chk := .range 0 2 },
      { name := "CFILT", hi := 6, lo := 6, acc := .rw, reset := 0 },
      { name := "DEPTH", hi := 12, lo := 8, acc := .rw, reset := 10, chk := .enum [8, 10, 12, 16] }] },
  { name := "CMP_REN_SIZE", page := 40, pages := 8, off := 260, reps := 1, stride := 0, words := 1, staged := true, cross := .none, act := .none,
    fields := [{ name := "W", hi := 15, lo := 0, acc := .rw, reset := 7680, chk := .mult 64 7680 8, zero := true },
      { name := "H", hi := 31, lo := 16, acc := .rw, reset := 4320, chk := .mult 64 4320 8, zero := true }] },
  { name := "CMP_REN_OUT", page := 40, pages := 8, off := 264, reps := 1, stride := 0, words := 2, staged := true, cross := .none, act := .none,
    fields := [{ name := "ADDR", hi := 63, lo := 12, acc := .rw, reset := 0 }] },
  { name := "CMP_SW_RES", page := 0, pages := 1, off := 320, reps := 16, stride := 4, words := 1, staged := false, cross := .none, act := .none,
    fields := [{ name := "RESULT", hi := 1, lo := 0, acc := .ro, reset := 0 },
      { name := "FRAME", hi := 31, lo := 16, acc := .ro, reset := 0 }] },
  { name := "CMP_SW_CRC", page := 0, pages := 1, off := 384, reps := 16, stride := 4, words := 1, staged := false, cross := .none, act := .none,
    fields := [{ name := "VALUE", hi := 31, lo := 0, acc := .ro, reset := 0 }] },
  { name := "CMP_SW_EXP", page := 0, pages := 1, off := 448, reps := 16, stride := 4, words := 1, staged := false, cross := .none, act := .none,
    fields := [{ name := "VALUE", hi := 31, lo := 0, acc := .ro, reset := 0 }] }]

/-- The tables of CMP (R88). -/
def tablesCMP : List TableDef := [
  { name := "CMP_MTX", page := 1, pages := 4, idxOff := 288, dataOff := 292, words := 5, entries := 3, staged := true, cross := .mtx,
    fields := [(0, { name := "M0", hi := 19, lo := 0, acc := .rw, reset := 0 }),
      (1, { name := "M1", hi := 19, lo := 0, acc := .rw, reset := 0 }),
      (2, { name := "M2", hi := 19, lo := 0, acc := .rw, reset := 0 }),
      (3, { name := "IN", hi := 17, lo := 0, acc := .rw, reset := 0 }),
      (4, { name := "OUT", hi := 17, lo := 0, acc := .rw, reset := 0 })] },
  { name := "CMP_CLUT", page := 8, pages := 32, idxOff := 320, dataOff := 324, words := 2, entries := 256, staged := true, cross := .none,
    fields := [(0, { name := "ALPHA", hi := 15, lo := 0, acc := .rw, reset := 0 }),
      (0, { name := "BLUE", hi := 31, lo := 16, acc := .rw, reset := 0 }),
      (1, { name := "GREEN", hi := 15, lo := 0, acc := .rw, reset := 0 }),
      (1, { name := "RED", hi := 31, lo := 16, acc := .rw, reset := 0 })] },
  { name := "CMP_COEF", page := 8, pages := 6, idxOff := 384, dataOff := 388, words := 4, entries := 128, staged := true, cross := .coef,
    fields := [(0, { name := "T0", hi := 12, lo := 0, acc := .rw, reset := 0, chk := .srange (-2048) 2048 }),
      (0, { name := "T1", hi := 28, lo := 16, acc := .rw, reset := 0, chk := .srange (-2048) 2048 }),
      (1, { name := "T2", hi := 12, lo := 0, acc := .rw, reset := 0, chk := .srange (-2048) 2048 }),
      (1, { name := "T3", hi := 28, lo := 16, acc := .rw, reset := 0, chk := .srange (-2048) 2048 }),
      (2, { name := "T4", hi := 12, lo := 0, acc := .rw, reset := 0, chk := .srange (-2048) 2048 }),
      (2, { name := "T5", hi := 28, lo := 16, acc := .rw, reset := 0, chk := .srange (-2048) 2048 }),
      (3, { name := "T6", hi := 12, lo := 0, acc := .rw, reset := 0, chk := .srange (-2048) 2048 }),
      (3, { name := "T7", hi := 28, lo := 16, acc := .rw, reset := 0, chk := .srange (-2048) 2048 })] },
  { name := "CMP_COEF", page := 16, pages := 6, idxOff := 384, dataOff := 388, words := 4, entries := 128, staged := true, cross := .coef,
    fields := [(0, { name := "T0", hi := 12, lo := 0, acc := .rw, reset := 0, chk := .srange (-2048) 2048 }),
      (0, { name := "T1", hi := 28, lo := 16, acc := .rw, reset := 0, chk := .srange (-2048) 2048 }),
      (1, { name := "T2", hi := 12, lo := 0, acc := .rw, reset := 0, chk := .srange (-2048) 2048 }),
      (1, { name := "T3", hi := 28, lo := 16, acc := .rw, reset := 0, chk := .srange (-2048) 2048 }),
      (2, { name := "T4", hi := 12, lo := 0, acc := .rw, reset := 0, chk := .srange (-2048) 2048 }),
      (2, { name := "T5", hi := 28, lo := 16, acc := .rw, reset := 0, chk := .srange (-2048) 2048 }),
      (3, { name := "T6", hi := 12, lo := 0, acc := .rw, reset := 0, chk := .srange (-2048) 2048 }),
      (3, { name := "T7", hi := 28, lo := 16, acc := .rw, reset := 0, chk := .srange (-2048) 2048 })] },
  { name := "CMP_COEF", page := 24, pages := 6, idxOff := 384, dataOff := 388, words := 4, entries := 128, staged := true, cross := .coef,
    fields := [(0, { name := "T0", hi := 12, lo := 0, acc := .rw, reset := 0, chk := .srange (-2048) 2048 }),
      (0, { name := "T1", hi := 28, lo := 16, acc := .rw, reset := 0, chk := .srange (-2048) 2048 }),
      (1, { name := "T2", hi := 12, lo := 0, acc := .rw, reset := 0, chk := .srange (-2048) 2048 }),
      (1, { name := "T3", hi := 28, lo := 16, acc := .rw, reset := 0, chk := .srange (-2048) 2048 }),
      (2, { name := "T4", hi := 12, lo := 0, acc := .rw, reset := 0, chk := .srange (-2048) 2048 }),
      (2, { name := "T5", hi := 28, lo := 16, acc := .rw, reset := 0, chk := .srange (-2048) 2048 }),
      (3, { name := "T6", hi := 12, lo := 0, acc := .rw, reset := 0, chk := .srange (-2048) 2048 }),
      (3, { name := "T7", hi := 28, lo := 16, acc := .rw, reset := 0, chk := .srange (-2048) 2048 })] },
  { name := "CMP_COEF", page := 32, pages := 6, idxOff := 384, dataOff := 388, words := 4, entries := 128, staged := true, cross := .coef,
    fields := [(0, { name := "T0", hi := 12, lo := 0, acc := .rw, reset := 0, chk := .srange (-2048) 2048 }),
      (0, { name := "T1", hi := 28, lo := 16, acc := .rw, reset := 0, chk := .srange (-2048) 2048 }),
      (1, { name := "T2", hi := 12, lo := 0, acc := .rw, reset := 0, chk := .srange (-2048) 2048 }),
      (1, { name := "T3", hi := 28, lo := 16, acc := .rw, reset := 0, chk := .srange (-2048) 2048 }),
      (2, { name := "T4", hi := 12, lo := 0, acc := .rw, reset := 0, chk := .srange (-2048) 2048 }),
      (2, { name := "T5", hi := 28, lo := 16, acc := .rw, reset := 0, chk := .srange (-2048) 2048 }),
      (3, { name := "T6", hi := 12, lo := 0, acc := .rw, reset := 0, chk := .srange (-2048) 2048 }),
      (3, { name := "T7", hi := 28, lo := 16, acc := .rw, reset := 0, chk := .srange (-2048) 2048 })] },
  { name := "CMP_COEF", page := 40, pages := 8, idxOff := 384, dataOff := 388, words := 4, entries := 128, staged := true, cross := .coef,
    fields := [(0, { name := "T0", hi := 12, lo := 0, acc := .rw, reset := 0, chk := .srange (-2048) 2048 }),
      (0, { name := "T1", hi := 28, lo := 16, acc := .rw, reset := 0, chk := .srange (-2048) 2048 }),
      (1, { name := "T2", hi := 12, lo := 0, acc := .rw, reset := 0, chk := .srange (-2048) 2048 }),
      (1, { name := "T3", hi := 28, lo := 16, acc := .rw, reset := 0, chk := .srange (-2048) 2048 }),
      (2, { name := "T4", hi := 12, lo := 0, acc := .rw, reset := 0, chk := .srange (-2048) 2048 }),
      (2, { name := "T5", hi := 28, lo := 16, acc := .rw, reset := 0, chk := .srange (-2048) 2048 }),
      (3, { name := "T6", hi := 12, lo := 0, acc := .rw, reset := 0, chk := .srange (-2048) 2048 }),
      (3, { name := "T7", hi := 28, lo := 16, acc := .rw, reset := 0, chk := .srange (-2048) 2048 })] },
  { name := "CMP_SW", page := 0, pages := 1, idxOff := 256, dataOff := 260, words := 4, entries := 16, staged := true, cross := .none,
    fields := [(0, { name := "EN", hi := 0, lo := 0, acc := .rw, reset := 0 }),
      (0, { name := "CTX", hi := 2, lo := 1, acc := .rw, reset := 0 }),
      (0, { name := "LAYER", hi := 5, lo := 3, acc := .rw, reset := 0, chk := .enum [0, 6, 7] }),
      (1, { name := "X", hi := 15, lo := 0, acc := .rw, reset := 0, chk := .range 0 7679 }),
      (1, { name := "Y", hi := 31, lo := 16, acc := .rw, reset := 0, chk := .range 0 4319 }),
      (2, { name := "W", hi := 15, lo := 0, acc := .rw, reset := 0, chk := .range 1 7680, zero := true }),
      (2, { name := "H", hi := 31, lo := 16, acc := .rw, reset := 0, chk := .range 1 4320, zero := true }),
      (3, { name := "EXPECT", hi := 31, lo := 0, acc := .rw, reset := 0 })] },
  { name := "CMP_SWQ", page := 0, pages := 1, idxOff := 288, dataOff := 292, words := 2, entries := 128, staged := false, cross := .none,
    fields := [(0, { name := "CRC", hi := 31, lo := 0, acc := .rw, reset := 0 }),
      (1, { name := "FRAME", hi := 15, lo := 0, acc := .rw, reset := 0 }),
      (1, { name := "VALID", hi := 16, lo := 16, acc := .rw, reset := 0 })] }]

/-- The registers of ENC, page by page. -/
def regsENC : List RegDef := [
  { name := "ENC_PCFG", page := 1, pages := 8, off := 256, reps := 1, stride := 0, words := 1, staged := true, cross := .encPcfg, act := .none,
    fields := [{ name := "EN", hi := 0, lo := 0, acc := .rw, reset := 0 },
      { name := "CODEC", hi := 1, lo := 1, acc := .rw, reset := 0 },
      { name := "REN", hi := 4, lo := 2, acc := .rw, reset := 0 },
      { name := "TILECOLS", hi := 7, lo := 5, acc := .rw, reset := 4, chk := .enum [1, 2, 4] },
      { name := "PROFILE", hi := 11, lo := 8, acc := .rw, reset := 3 },
      { name := "TIER", hi := 12, lo := 12, acc := .rw, reset := 1 },
      { name := "LEVEL", hi := 23, lo := 16, acc := .rw, reset := 186 },
      { name := "REFS", hi := 26, lo := 24, acc := .rw, reset := 4, chk := .range 1 4, zero := true }] },
  { name := "ENC_PBAND", page := 1, pages := 8, off := 260, reps := 1, stride := 0, words := 1, staged := true, cross := .none, act := .none,
    fields := [{ name := "CYCLE", hi := 11, lo := 0, acc := .rw, reset := 32, chk := .range 2 4095, zero := true },
      { name := "HASH", hi := 13, lo := 12, acc := .rw, reset := 0 },
      { name := "AUD", hi := 14, lo := 14, acc := .rw, reset := 0 }] },
  { name := "ENC_PVUI", page := 1, pages := 8, off := 264, reps := 1, stride := 0, words := 1, staged := true, cross := .none, act := .none,
    fields := [{ name := "PRIM", hi := 7, lo := 0, acc := .rw, reset := 1 },
      { name := "TRANS", hi := 15, lo := 8, acc := .rw, reset := 1 },
      { name := "MATRIX", hi := 23, lo := 16, acc := .rw, reset := 1 },
      { name := "FULL", hi := 24, lo := 24, acc := .rw, reset := 0 }] },
  { name := "ENC_PRECON", page := 1, pages := 8, off := 272, reps := 1, stride := 0, words := 2, staged := true, cross := .none, act := .none,
    fields := [{ name := "ADDR", hi := 63, lo := 12, acc := .rw, reset := 0 }] },
  { name := "ENC_PCTL", page := 1, pages := 8, off := 288, reps := 1, stride := 0, words := 1, staged := false, cross := .none, act := .encPctl,
    fields := [{ name := "CYCLE", hi := 0, lo := 0, acc := .wo, reset := 0 },
      { name := "FREEZE", hi := 1, lo := 1, acc := .wo, reset := 0 }] },
  { name := "ENC_PSTAT", page := 1, pages := 8, off := 292, reps := 1, stride := 0, words := 1, staged := false, cross := .none, act := .none,
    fields := [{ name := "POS", hi := 11, lo := 0, acc := .ro, reset := 0 },
      { name := "STARTING", hi := 12, lo := 12, acc := .ro, reset := 0 },
      { name := "FUGITIVE", hi := 31, lo := 16, acc := .ro, reset := 0 }] },
  { name := "ENC_PCOUNT", page := 1, pages := 8, off := 296, reps := 1, stride := 0, words := 1, staged := false, cross := .none, act := .none,
    fields := [{ name := "FILLROWS", hi := 15, lo := 0, acc := .rc, reset := 0 },
      { name := "FUGREF", hi := 31, lo := 16, acc := .rc, reset := 0 }] },
  { name := "ENC_PPOC", page := 1, pages := 8, off := 300, reps := 1, stride := 0, words := 1, staged := false, cross := .none, act := .none,
    fields := [{ name := "POC", hi := 31, lo := 0, acc := .ro, reset := 0 }] },
  { name := "ENC_PPICS", page := 1, pages := 8, off := 304, reps := 1, stride := 0, words := 2, staged := false, cross := .none, act := .none,
    fields := [{ name := "COUNT", hi := 63, lo := 0, acc := .ro, reset := 0 }] },
  { name := "ENC_CE_STAT", page := 16, pages := 16, off := 256, reps := 1, stride := 0, words := 1, staged := false, cross := .none, act := .none,
    fields := [{ name := "BUSY", hi := 0, lo := 0, acc := .ro, reset := 0 },
      { name := "PROG", hi := 7, lo := 4, acc := .ro, reset := 0 },
      { name := "RUNG", hi := 10, lo := 8, acc := .ro, reset := 0 },
      { name := "DECK", hi := 13, lo := 12, acc := .ro, reset := 0 },
      { name := "ROW", hi := 31, lo := 16, acc := .ro, reset := 0 }] },
  { name := "ENC_CE_CTUS", page := 16, pages := 16, off := 264, reps := 1, stride := 0, words := 2, staged := false, cross := .none, act := .none,
    fields := [{ name := "COUNT", hi := 63, lo := 0, acc := .ro, reset := 0 }] }]

/-- The tables of ENC (R88). -/
def tablesENC : List TableDef := []

/-- The registers of RCT, page by page. -/
def regsRCT : List RegDef := [
  { name := "RCT_PRATEMAX", page := 1, pages := 8, off := 256, reps := 1, stride := 0, words := 1, staged := true, cross := .none, act := .none,
    fields := [{ name := "RATE", hi := 31, lo := 0, acc := .rw, reset := 12500000, chk := .range 15625 375000000 }] },
  { name := "RCT_PRATE", page := 1, pages := 8, off := 260, reps := 1, stride := 0, words := 1, staged := true, cross := .none, act := .none,
    fields := [{ name := "RATE", hi := 31, lo := 0, acc := .rw, reset := 12500000, chk := .range 15625 375000000 }] },
  { name := "RCT_PCPB", page := 1, pages := 8, off := 264, reps := 1, stride := 0, words := 1, staged := true, cross := .none, act := .none,
    fields := [{ name := "SIZE", hi := 31, lo := 0, acc := .rw, reset := 750000, zero := true }] },
  { name := "RCT_PINIT", page := 1, pages := 8, off := 268, reps := 1, stride := 0, words := 1, staged := true, cross := .none, act := .none,
    fields := [{ name := "INIT", hi := 16, lo := 0, acc := .rw, reset := 1125, chk := .range 0 90000, zero := true }] },
  { name := "RCT_PCFG", page := 1, pages := 8, off := 272, reps := 1, stride := 0, words := 1, staged := true, cross := .none, act := .none,
    fields := [{ name := "CBR", hi := 0, lo := 0, acc := .rw, reset := 1 },
      { name := "STRETCH", hi := 12, lo := 8, acc := .rw, reset := 8, chk := .range 4 31, zero := true },
      { name := "EMIN", hi := 23, lo := 16, acc := .rw, reset := 64, zero := true }] },
  { name := "RCT_PQP", page := 1, pages := 8, off := 276, reps := 1, stride := 0, words := 1, staged := true, cross := .none, act := .none,
    fields := [{ name := "QPMIN", hi := 7, lo := 0, acc := .rw, reset := 0 },
      { name := "QPMAX", hi := 15, lo := 8, acc := .rw, reset := 51 }] },
  { name := "RCT_PLIMIT", page := 1, pages := 8, off := 288, reps := 1, stride := 0, words := 1, staged := false, cross := .none, act := .none,
    fields := [{ name := "VALUE", hi := 31, lo := 0, acc := .ro, reset := 0 }] },
  { name := "RCT_PTARGET", page := 1, pages := 8, off := 292, reps := 1, stride := 0, words := 1, staged := false, cross := .none, act := .none,
    fields := [{ name := "VALUE", hi := 31, lo := 0, acc := .ro, reset := 0 }] },
  { name := "RCT_PLMIN", page := 1, pages := 8, off := 296, reps := 1, stride := 0, words := 1, staged := false, cross := .none, act := .none,
    fields := [{ name := "VALUE", hi := 31, lo := 0, acc := .ro, reset := 0 }] },
  { name := "RCT_PFREE", page := 1, pages := 8, off := 300, reps := 1, stride := 0, words := 1, staged := false, cross := .none, act := .none,
    fields := [{ name := "VALUE", hi := 31, lo := 0, acc := .ro, reset := 0 }] },
  { name := "RCT_PLAST", page := 1, pages := 8, off := 304, reps := 1, stride := 0, words := 1, staged := false, cross := .none, act := .none,
    fields := [{ name := "VALUE", hi := 31, lo := 0, acc := .ro, reset := 0 }] },
  { name := "RCT_PFILLER", page := 1, pages := 8, off := 308, reps := 1, stride := 0, words := 1, staged := false, cross := .none, act := .none,
    fields := [{ name := "VALUE", hi := 31, lo := 0, acc := .ro, reset := 0 }] },
  { name := "RCT_PROW", page := 1, pages := 8, off := 312, reps := 1, stride := 0, words := 1, staged := false, cross := .none, act := .none,
    fields := [{ name := "QPBASE", hi := 7, lo := 0, acc := .ro, reset := 0 },
      { name := "ROW", hi := 31, lo := 16, acc := .ro, reset := 0 }] },
  { name := "RCT_PCOUNT", page := 1, pages := 8, off := 316, reps := 1, stride := 0, words := 1, staged := false, cross := .none, act := .none,
    fields := [{ name := "EMERG", hi := 15, lo := 0, acc := .rc, reset := 0 },
      { name := "CAPPED", hi := 31, lo := 16, acc := .rc, reset := 0 }] },
  { name := "RCT_PFLOOR", page := 1, pages := 8, off := 320, reps := 1, stride := 0, words := 1, staged := false, cross := .none, act := .none,
    fields := [{ name := "VALUE", hi := 31, lo := 0, acc := .ro, reset := 0 }] },
  { name := "RCT_PKAPPA", page := 1, pages := 8, off := 324, reps := 1, stride := 0, words := 1, staged := false, cross := .none, act := .none,
    fields := [{ name := "VALUE", hi := 31, lo := 0, acc := .ro, reset := 0 }] },
  { name := "RCT_PBITS", page := 1, pages := 8, off := 328, reps := 1, stride := 0, words := 2, staged := false, cross := .none, act := .none,
    fields := [{ name := "COUNT", hi := 63, lo := 0, acc := .ro, reset := 0 }] }]

/-- The tables of RCT (R88). -/
def tablesRCT : List TableDef := []

/-- The registers of PKT, page by page. -/
def regsPKT : List RegDef := [
  { name := "PKT_PATH", page := 0, pages := 1, off := 256, reps := 1, stride := 0, words := 1, staged := true, cross := .none, act := .none,
    fields := [{ name := "ENA", hi := 0, lo := 0, acc := .rw, reset := 0 },
      { name := "ENB", hi := 1, lo := 1, acc := .rw, reset := 0 }] },
  { name := "PKT_PATHSTAT", page := 0, pages := 1, off := 260, reps := 2, stride := 4, words := 1, staged := false, cross := .none, act := .none,
    fields := [{ name := "ACTIVE", hi := 0, lo := 0, acc := .ro, reset := 0 },
      { name := "UNDERRUN", hi := 31, lo := 16, acc := .rc, reset := 0 }] },
  { name := "PKT_PCFG", page := 1, pages := 8, off := 256, reps := 1, stride := 0, words := 1, staged := true, cross := .none, act := .none,
    fields := [{ name := "FORM", hi := 0, lo := 0, acc := .rw, reset := 1 },
      { name := "PATHA", hi := 1, lo := 1, acc := .rw, reset := 1 },
      { name := "PATHB", hi := 2, lo := 2, acc := .rw, reset := 1 },
      { name := "RING", hi := 3, lo := 3, acc := .rw, reset := 0 },
      { name := "MAXPAY", hi := 31, lo := 16, acc := .rw, reset := 8192, chk := .range 188 8192, zero := true }] },
  { name := "PKT_PSTREAM", page := 1, pages := 8, off := 260, reps := 1, stride := 0, words := 1, staged := true, cross := .none, act := .none,
    fields := [{ name := "SID", hi := 15, lo := 0, acc := .rw, reset := 0, byPage := [0, 1, 2, 3, 4, 5, 6, 7] },
      { name := "EPOCH0", hi := 23, lo := 16, acc := .rw, reset := 0 }] },
  { name := "PKT_PSEQ0", page := 1, pages := 8, off := 264, reps := 1, stride := 0, words := 1, staged := true, cross := .none, act := .none,
    fields := [{ name := "SEQ0", hi := 31, lo := 0, acc := .rw, reset := 0 }] },
  { name := "PKT_PPID", page := 1, pages := 8, off := 268, reps := 1, stride := 0, words := 1, staged := true, cross := .none, act := .none,
    fields := [{ name := "PMT", hi := 12, lo := 0, acc := .rw, reset := 256, chk := .range 16 8190 },
      { name := "VIDEO", hi := 28, lo := 16, acc := .rw, reset := 257, chk := .range 16 8190 }] },
  { name := "PKT_PAUD", page := 1, pages := 8, off := 272, reps := 4, stride := 4, words := 1, staged := true, cross := .audFirst, act := .none,
    fields := [{ name := "EN", hi := 0, lo := 0, acc := .rw, reset := 0 },
      { name := "PORT", hi := 2, lo := 1, acc := .rw, reset := 0 },
      { name := "COUNT", hi := 4, lo := 3, acc := .rw, reset := 0 },
      { name := "FIRST", hi := 11, lo := 8, acc := .rw, reset := 0 },
      { name := "PID", hi := 28, lo := 16, acc := .rw, reset := 0, chk := .range 16 8190, byRep := [258, 259, 260, 261] }] },
  { name := "PKT_PSTAT", page := 1, pages := 8, off := 288, reps := 1, stride := 0, words := 1, staged := false, cross := .none, act := .none,
    fields := [{ name := "ONAIR", hi := 0, lo := 0, acc := .ro, reset := 0 },
      { name := "EPOCH", hi := 15, lo := 8, acc := .ro, reset := 0 }] },
  { name := "PKT_PSEQ", page := 1, pages := 8, off := 292, reps := 1, stride := 0, words := 1, staged := false, cross := .none, act := .none,
    fields := [{ name := "NEXT", hi := 31, lo := 0, acc := .ro, reset := 0 }] },
  { name := "PKT_PPKTS", page := 1, pages := 8, off := 296, reps := 1, stride := 0, words := 2, staged := false, cross := .none, act := .none,
    fields := [{ name := "COUNT", hi := 63, lo := 0, acc := .ro, reset := 0 }] },
  { name := "PKT_PDROP", page := 1, pages := 8, off := 304, reps := 1, stride := 0, words := 1, staged := false, cross := .none, act := .none,
    fields := [{ name := "COUNT", hi := 31, lo := 0, acc := .rc, reset := 0 }] },
  { name := "PKT_PWAIT", page := 1, pages := 8, off := 308, reps := 1, stride := 0, words := 1, staged := false, cross := .none, act := .none,
    fields := [{ name := "MAXWAIT", hi := 31, lo := 0, acc := .rc, reset := 0 }] }]

/-- The tables of PKT (R88). -/
def tablesPKT : List TableDef := []

end Sys2Proof.Machine
end

