-- ==== Sys2Proof/Machine/RegMapUnit2.lean ====
section
/-! DEFINITION. The register tables of a channel unit, second half: DEC (12), SCH (06, 07), TIM (13), AUD (15), MEM (16), HKP (18), EVT (04). -/

namespace Sys2Proof.Machine

/-- The registers of DEC, page by page. -/
def regsDEC : List RegDef := [
  { name := "DEC_CFG", page := 0, pages := 1, off := 256, reps := 1, stride := 0, words := 1, staged := true, cross := .none, act := .none,
    fields := [{ name := "INFORM", hi := 1, lo := 0, acc := .rw, reset := 0, chk := .range 0 2 },
      { name := "INPATH", hi := 2, lo := 2, acc := .rw, reset := 0 },
      { name := "RECOV", hi := 3, lo := 3, acc := .rw, reset := 0 },
      { name := "HASHCHK", hi := 4, lo := 4, acc := .rw, reset := 0 },
      { name := "LEAD", hi := 10, lo := 8, acc := .rw, reset := 2, chk := .range 1 4, zero := true },
      { name := "VPID", hi := 28, lo := 16, acc := .rw, reset := 8191, chk := .range 16 8191 }] },
  { name := "DEC_CTL", page := 0, pages := 1, off := 260, reps := 1, stride := 0, words := 1, staged := false, cross := .none, act := .decCtl,
    fields := [{ name := "RESUME", hi := 0, lo := 0, acc := .wo, reset := 0 }] },
  { name := "DEC_STAT", page := 0, pages := 1, off := 264, reps := 1, stride := 0, words := 1, staged := false, cross := .none, act := .none,
    fields := [{ name := "STATE", hi := 2, lo := 0, acc := .ro, reset := 0 },
      { name := "QUEUE", hi := 6, lo := 4, acc := .ro, reset := 0 },
      { name := "PARTIAL", hi := 15, lo := 8, acc := .rc, reset := 0 },
      { name := "FOREIGN", hi := 31, lo := 16, acc := .rc, reset := 0 }] },
  { name := "DEC_STOP", page := 0, pages := 1, off := 272, reps := 5, stride := 4, words := 1, staged := false, cross := .none, act := .none,
    fields := [{ name := "VALUE", hi := 31, lo := 0, acc := .ro, reset := 0 }] },
  { name := "DEC_PICCRC", page := 0, pages := 1, off := 292, reps := 1, stride := 0, words := 1, staged := false, cross := .none, act := .none,
    fields := [{ name := "VALUE", hi := 31, lo := 0, acc := .ro, reset := 0 }] },
  { name := "DEC_PICS", page := 0, pages := 1, off := 296, reps := 1, stride := 0, words := 2, staged := false, cross := .none, act := .none,
    fields := [{ name := "VALUE", hi := 63, lo := 0, acc := .ro, reset := 0 }] },
  { name := "DEC_SCFG", page := 0, pages := 1, off := 304, reps := 1, stride := 0, words := 1, staged := true, cross := .none, act := .none,
    fields := [{ name := "STATS", hi := 7, lo := 0, acc := .rw, reset := 0 },
      { name := "MVF", hi := 15, lo := 8, acc := .rw, reset := 0 }] },
  { name := "DEC_SDROP", page := 0, pages := 1, off := 320, reps := 8, stride := 4, words := 1, staged := false, cross := .none, act := .none,
    fields := [{ name := "STATS", hi := 15, lo := 0, acc := .rc, reset := 0 },
      { name := "MVF", hi := 31, lo := 16, acc := .rc, reset := 0 }] },
  { name := "DEC_LANES", page := 1, pages := 1, off := 256, reps := 1, stride := 0, words := 1, staged := true, cross := .none, act := .none,
    fields := [{ name := "GROUPA", hi := 2, lo := 0, acc := .rw, reset := 7, chk := .enum [0, 1, 2, 3, 7] },
      { name := "GROUPB", hi := 6, lo := 4, acc := .rw, reset := 7, chk := .enum [0, 1, 2, 3, 7] },
      { name := "SID", hi := 31, lo := 16, acc := .rw, reset := 0 }] },
  { name := "DEC_HOLD", page := 1, pages := 1, off := 260, reps := 1, stride := 0, words := 1, staged := true, cross := .none, act := .none,
    fields := [{ name := "HOLD", hi := 13, lo := 0, acc := .rw, reset := 50, chk := .range 1 10000, zero := true }] },
  { name := "DEC_INBUF", page := 1, pages := 1, off := 264, reps := 1, stride := 0, words := 2, staged := true, cross := .none, act := .none,
    fields := [{ name := "ADDR", hi := 63, lo := 12, acc := .rw, reset := 0 }] },
  { name := "DEC_DPB", page := 1, pages := 1, off := 280, reps := 1, stride := 0, words := 2, staged := true, cross := .none, act := .none,
    fields := [{ name := "ADDR", hi := 63, lo := 12, acc := .rw, reset := 0 }] },
  { name := "DEC_DPBCFG", page := 1, pages := 1, off := 288, reps := 1, stride := 0, words := 1, staged := true, cross := .none, act := .none,
    fields := [{ name := "DPBN", hi := 4, lo := 0, acc := .rw, reset := 6, chk := .range 1 16, zero := true },
      { name := "INSIZE", hi := 15, lo := 8, acc := .rw, reset := 64, zero := true }] },
  { name := "DEC_MAXSIZE", page := 1, pages := 1, off := 292, reps := 1, stride := 0, words := 1, staged := true, cross := .none, act := .none,
    fields := [{ name := "MAXW", hi := 15, lo := 0, acc := .rw, reset := 7680, chk := .mult 64 8192 8, zero := true },
      { name := "MAXH", hi := 31, lo := 16, acc := .rw, reset := 4320, chk := .mult 64 4320 8, zero := true }] },
  { name := "DEC_VBUF", page := 2, pages := 1, off := 256, reps := 8, stride := 16, words := 2, staged := true, cross := .none, act := .none,
    fields := [{ name := "ADDR", hi := 63, lo := 12, acc := .rw, reset := 0 }] },
  { name := "DEC_VCMP", page := 2, pages := 1, off := 264, reps := 8, stride := 16, words := 1, staged := false, cross := .none, act := .none,
    fields := [{ name := "COUNT", hi := 31, lo := 0, acc := .rc, reset := 0 }] },
  { name := "DEC_VMIS", page := 2, pages := 1, off := 268, reps := 8, stride := 16, words := 1, staged := false, cross := .none, act := .none,
    fields := [{ name := "COUNT", hi := 31, lo := 0, acc := .rc, reset := 0 }] }]

/-- The tables of DEC (R88). -/
def tablesDEC : List TableDef := []

/-- The registers of SCH, page by page. -/
def regsSCH : List RegDef := [
  { name := "SCH_MODE", page := 0, pages := 1, off := 256, reps := 1, stride := 0, words := 1, staged := true, cross := .none, act := .none,
    fields := [{ name := "MODE", hi := 2, lo := 0, acc := .rw, reset := 7, chk := .range 1 7 },
      { name := "VERIFY", hi := 15, lo := 8, acc := .rw, reset := 0 }] },
  { name := "SCH_COMMIT", page := 0, pages := 1, off := 260, reps := 1, stride := 0, words := 1, staged := false, cross := .commit, act := .commit,
    fields := [{ name := "GO", hi := 0, lo := 0, acc := .wo, reset := 0 },
      { name := "AT_EN", hi := 1, lo := 1, acc := .wo, reset := 0 }] },
  { name := "SCH_COMMIT_AT", page := 0, pages := 1, off := 264, reps := 1, stride := 0, words := 1, staged := false, cross := .none, act := .none,
    fields := [{ name := "FRAME", hi := 15, lo := 0, acc := .rw, reset := 0 }] },
  { name := "SCH_COMMIT_STAT", page := 0, pages := 1, off := 268, reps := 1, stride := 0, words := 1, staged := false, cross := .none, act := .none,
    fields := [{ name := "STATE", hi := 2, lo := 0, acc := .ro, reset := 0 },
      { name := "LAST_CODE", hi := 31, lo := 16, acc := .ro, reset := 0 }] },
  { name := "SCH_COMMIT_NUM", page := 0, pages := 1, off := 272, reps := 1, stride := 0, words := 1, staged := false, cross := .none, act := .none,
    fields := [{ name := "NUM", hi := 31, lo := 0, acc := .ro, reset := 0 }] },
  { name := "SCH_ACTIVE_NUM", page := 0, pages := 1, off := 276, reps := 1, stride := 0, words := 1, staged := false, cross := .none, act := .none,
    fields := [{ name := "NUM", hi := 31, lo := 0, acc := .ro, reset := 0 }] },
  { name := "SCH_EFFECT_FRAME", page := 0, pages := 1, off := 280, reps := 1, stride := 0, words := 1, staged := false, cross := .none, act := .none,
    fields := [{ name := "FRAME", hi := 15, lo := 0, acc := .ro, reset := 0 }] },
  { name := "SCH_REFUSE_DETAIL", page := 0, pages := 1, off := 284, reps := 1, stride := 0, words := 1, staged := false, cross := .none, act := .none,
    fields := [{ name := "CODE", hi := 15, lo := 0, acc := .ro, reset := 0 },
      { name := "KIND", hi := 19, lo := 16, acc := .ro, reset := 0 },
      { name := "INDEX", hi := 31, lo := 24, acc := .ro, reset := 0 }] },
  { name := "SCH_ADMIT_MODEL", page := 0, pages := 1, off := 288, reps := 1, stride := 0, words := 1, staged := false, cross := .none, act := .none,
    fields := [{ name := "MODEL", hi := 15, lo := 0, acc := .ro, reset := 0 }] },
  { name := "SCH_ADMIT_RATE0", page := 0, pages := 1, off := 292, reps := 1, stride := 0, words := 1, staged := false, cross := .none, act := .none,
    fields := [{ name := "COMPOSITED", hi := 15, lo := 0, acc := .ro, reset := 0 },
      { name := "CODED", hi := 31, lo := 16, acc := .ro, reset := 0 }] },
  { name := "SCH_ADMIT_RATE1", page := 0, pages := 1, off := 296, reps := 1, stride := 0, words := 1, staged := false, cross := .none, act := .none,
    fields := [{ name := "DECODED", hi := 15, lo := 0, acc := .ro, reset := 0 },
      { name := "OUTPUT", hi := 31, lo := 16, acc := .ro, reset := 0 }] },
  { name := "SCH_ADMIT_SLIP", page := 0, pages := 1, off := 320, reps := 8, stride := 4, words := 1, staged := false, cross := .none, act := .none,
    fields := [{ name := "SLIP", hi := 15, lo := 0, acc := .ro, reset := 0 },
      { name := "BOUND", hi := 31, lo := 16, acc := .ro, reset := 0 }] },
  { name := "SCH_DISPATCH", page := 0, pages := 1, off := 352, reps := 1, stride := 0, words := 1, staged := true, cross := .none, act := .none,
    fields := [{ name := "MODE", hi := 0, lo := 0, acc := .rw, reset := 0 },
      { name := "STEAL", hi := 1, lo := 1, acc := .rw, reset := 1 }] },
  { name := "SCH_NOW", page := 0, pages := 1, off := 356, reps := 1, stride := 0, words := 1, staged := false, cross := .none, act := .none,
    fields := [{ name := "TICK", hi := 31, lo := 0, acc := .ro, reset := 0 }] },
  { name := "SCH_TICKS", page := 0, pages := 1, off := 360, reps := 1, stride := 0, words := 2, staged := false, cross := .none, act := .none,
    fields := [{ name := "COUNT", hi := 63, lo := 0, acc := .ro, reset := 0 }] },
  { name := "SCH_CTX_STAT", page := 0, pages := 1, off := 368, reps := 1, stride := 0, words := 1, staged := false, cross := .none, act := .none,
    fields := [{ name := "USED", hi := 13, lo := 0, acc := .ro, reset := 0 },
      { name := "PEAK", hi := 27, lo := 14, acc := .ro, reset := 0 },
      { name := "PSTALL", hi := 31, lo := 28, acc := .ro, reset := 0 }] },
  { name := "SCH_PTIME", page := 1, pages := 1, off := 256, reps := 8, stride := 16, words := 1, staged := true, cross := .none, act := .none,
    fields := [{ name := "CORE", hi := 3, lo := 0, acc := .rw, reset := 4, zero := true },
      { name := "EXTRA", hi := 6, lo := 4, acc := .rw, reset := 1, chk := .range 1 4, zero := true },
      { name := "PLAN", hi := 10, lo := 8, acc := .rw, reset := 1 },
      { name := "PRIO", hi := 14, lo := 12, acc := .rw, reset := 0 }] },
  { name := "SCH_PSLIP", page := 1, pages := 1, off := 260, reps := 8, stride := 16, words := 1, staged := false, cross := .none, act := .none,
    fields := [{ name := "SLIP", hi := 15, lo := 0, acc := .ro, reset := 0 },
      { name := "RUNG", hi := 18, lo := 16, acc := .ro, reset := 0 },
      { name := "OFFSET", hi := 22, lo := 20, acc := .ro, reset := 0 },
      { name := "CEIL", hi := 26, lo := 24, acc := .ro, reset := 0 }] },
  { name := "SCH_PMAX", page := 1, pages := 1, off := 264, reps := 8, stride := 16, words := 1, staged := false, cross := .none, act := .none,
    fields := [{ name := "MAXSLIP", hi := 15, lo := 0, acc := .rc, reset := 0 }] },
  { name := "SCH_PLATE", page := 1, pages := 1, off := 268, reps := 8, stride := 16, words := 1, staged := false, cross := .none, act := .none,
    fields := [{ name := "LATE", hi := 15, lo := 0, acc := .rc, reset := 0 },
      { name := "OVERRUN", hi := 31, lo := 16, acc := .rc, reset := 0 }] }]

/-- The tables of SCH (R88). -/
def tablesSCH : List TableDef := [
  { name := "SCH_CTX", page := 2, pages := 1, idxOff := 256, dataOff := 272, words := 8, entries := 12288, staged := false, cross := .none,
    fields := [(0, { name := "W0", hi := 31, lo := 0, acc := .ro, reset := 0 }),
      (1, { name := "W1", hi := 31, lo := 0, acc := .ro, reset := 0 }),
      (2, { name := "W2", hi := 31, lo := 0, acc := .ro, reset := 0 }),
      (3, { name := "W3", hi := 31, lo := 0, acc := .ro, reset := 0 }),
      (4, { name := "W4", hi := 31, lo := 0, acc := .ro, reset := 0 }),
      (5, { name := "W5", hi := 31, lo := 0, acc := .ro, reset := 0 }),
      (6, { name := "W6", hi := 31, lo := 0, acc := .ro, reset := 0 }),
      (7, { name := "W7", hi := 31, lo := 0, acc := .ro, reset := 0 })] }]

/-- The registers of TIM, page by page. -/
def regsTIM : List RegDef := [
  { name := "TIM_NOW0", page := 0, pages := 1, off := 256, reps := 1, stride := 0, words := 1, staged := false, cross := .none, act := .none,
    fields := [{ name := "NS", hi := 29, lo := 0, acc := .ro, reset := 0 }] },
  { name := "TIM_NOW1", page := 0, pages := 1, off := 260, reps := 1, stride := 0, words := 1, staged := false, cross := .none, act := .none,
    fields := [{ name := "SEC_LO", hi := 31, lo := 0, acc := .ro, reset := 0 }] },
  { name := "TIM_NOW2", page := 0, pages := 1, off := 264, reps := 1, stride := 0, words := 1, staged := false, cross := .none, act := .none,
    fields := [{ name := "SEC_HI", hi := 15, lo := 0, acc := .ro, reset := 0 },
      { name := "FRAC", hi := 31, lo := 16, acc := .ro, reset := 0 }] },
  { name := "TIM_STAT", page := 0, pages := 1, off := 272, reps := 1, stride := 0, words := 1, staged := false, cross := .none, act := .none,
    fields := [{ name := "STATE", hi := 2, lo := 0, acc := .ro, reset := 0 },
      { name := "OPEN", hi := 3, lo := 3, acc := .ro, reset := 0 },
      { name := "SEL", hi := 6, lo := 4, acc := .ro, reset := 7 },
      { name := "STANDBY", hi := 10, lo := 8, acc := .ro, reset := 7 },
      { name := "OSCSRC", hi := 11, lo := 11, acc := .ro, reset := 0 },
      { name := "OSCFAIL", hi := 12, lo := 12, acc := .ro, reset := 0 },
      { name := "SEEDED", hi := 13, lo := 13, acc := .ro, reset := 0 },
      { name := "ALARM", hi := 14, lo := 14, acc := .ro, reset := 0 }] },
  { name := "TIM_OSC", page := 0, pages := 1, off := 276, reps := 1, stride := 0, words := 1, staged := true, cross := .none, act := .none,
    fields := [{ name := "OSC", hi := 0, lo := 0, acc := .rw, reset := 0 },
      { name := "LOSCKHZ", hi := 20, lo := 4, acc := .rw, reset := 10000, chk := .range 10000 100000 }] },
  { name := "TIM_LIMITS", page := 0, pages := 1, off := 280, reps := 1, stride := 0, words := 1, staged := true, cross := .none, act := .none,
    fields := [{ name := "WINDOW", hi := 7, lo := 0, acc := .rw, reset := 10, zero := true },
      { name := "QUAL", hi := 15, lo := 8, acc := .rw, reset := 10, zero := true },
      { name := "FSLEW", hi := 25, lo := 16, acc := .rw, reset := 2, chk := .range 1 1000 },
      { name := "REVERT", hi := 26, lo := 26, acc := .rw, reset := 1 }] },
  { name := "TIM_HOLD", page := 0, pages := 1, off := 284, reps := 1, stride := 0, words := 1, staged := true, cross := .none, act := .none,
    fields := [{ name := "HOLDMAX", hi := 23, lo := 0, acc := .rw, reset := 86400, zero := true }] },
  { name := "TIM_AGREE", page := 0, pages := 1, off := 288, reps := 1, stride := 0, words := 1, staged := true, cross := .none, act := .none,
    fields := [{ name := "AGREEF", hi := 15, lo := 0, acc := .rw, reset := 500, zero := true },
      { name := "LOCKNS", hi := 31, lo := 16, acc := .rw, reset := 100, zero := true }] },
  { name := "TIM_LOOP", page := 0, pages := 1, off := 292, reps := 1, stride := 0, words := 1, staged := true, cross := .none, act := .timLoop,
    fields := [{ name := "OPEN", hi := 0, lo := 0, acc := .rw, reset := 0, live := true },
      { name := "ALIGN", hi := 1, lo := 1, acc := .rw, reset := 1 },
      { name := "CAPTURE", hi := 15, lo := 8, acc := .rw, reset := 64 },
      { name := "PRATE", hi := 31, lo := 16, acc := .rw, reset := 100, zero := true }] },
  { name := "TIM_OFFSET", page := 0, pages := 1, off := 296, reps := 1, stride := 0, words := 2, staged := false, cross := .none, act := .none,
    fields := [{ name := "FRAC", hi := 15, lo := 0, acc := .ro, reset := 0 },
      { name := "NS", hi := 63, lo := 16, acc := .ro, reset := 0 }] },
  { name := "TIM_FREQ", page := 0, pages := 1, off := 304, reps := 1, stride := 0, words := 1, staged := false, cross := .none, act := .none,
    fields := [{ name := "PPB", hi := 31, lo := 0, acc := .ro, reset := 0 }] },
  { name := "TIM_FSET", page := 0, pages := 1, off := 308, reps := 1, stride := 0, words := 1, staged := false, cross := .none, act := .timFset,
    fields := [{ name := "PPB", hi := 31, lo := 0, acc := .rw, reset := 0, chk := .srange (-1310720000) 1310720000 }] },
  { name := "TIM_LEAD", page := 0, pages := 1, off := 312, reps := 1, stride := 0, words := 1, staged := false, cross := .none, act := .none,
    fields := [{ name := "LEAD", hi := 15, lo := 0, acc := .ro, reset := 0 },
      { name := "TARGET", hi := 31, lo := 16, acc := .ro, reset := 32 }] },
  { name := "TIM_PADJ", page := 0, pages := 1, off := 320, reps := 1, stride := 0, words := 2, staged := false, cross := .none, act := .timPadj,
    fields := [{ name := "ADJ", hi := 63, lo := 0, acc := .wo, reset := 0, chk := .srange (-65536000000000) 65536000000000 }] },
  { name := "TIM_HOSTTIME0", page := 0, pages := 1, off := 336, reps := 1, stride := 0, words := 1, staged := false, cross := .none, act := .hostTime,
    fields := [{ name := "TIME", hi := 31, lo := 0, acc := .wo, reset := 0 }] },
  { name := "TIM_HOSTTIME1", page := 0, pages := 1, off := 340, reps := 1, stride := 0, words := 1, staged := false, cross := .none, act := .hostTime,
    fields := [{ name := "TIME", hi := 31, lo := 0, acc := .wo, reset := 0 }] },
  { name := "TIM_HOSTTIME2", page := 0, pages := 1, off := 344, reps := 1, stride := 0, words := 1, staged := false, cross := .none, act := .hostTime,
    fields := [{ name := "TIME", hi := 31, lo := 0, acc := .wo, reset := 0 }] },
  { name := "TIM_REFCFG", page := 0, pages := 1, off := 352, reps := 5, stride := 8, words := 1, staged := true, cross := .refCfg, act := .none,
    fields := [{ name := "EN", hi := 0, lo := 0, acc := .rw, reset := 0 },
      { name := "RANK", hi := 3, lo := 1, acc := .rw, reset := 0, byRep := [0, 1, 2, 3, 4] },
      { name := "SOFT", hi := 11, lo := 4, acc := .rw, reset := 50 },
      { name := "HARD", hi := 19, lo := 12, acc := .rw, reset := 100 },
      { name := "PARAM", hi := 27, lo := 20, acc := .rw, reset := 0 }] },
  { name := "TIM_REFSTAT", page := 0, pages := 1, off := 356, reps := 5, stride := 8, words := 1, staged := false, cross := .none, act := .none,
    fields := [{ name := "PRESENT", hi := 0, lo := 0, acc := .ro, reset := 0 },
      { name := "QUALIFIED", hi := 1, lo := 1, acc := .ro, reset := 0 },
      { name := "CONTESTED", hi := 2, lo := 2, acc := .ro, reset := 0 },
      { name := "LOSER", hi := 3, lo := 3, acc := .ro, reset := 0 },
      { name := "REJECT", hi := 7, lo := 4, acc := .rc, reset := 0 },
      { name := "FOFF", hi := 31, lo := 8, acc := .ro, reset := 0 }] },
  { name := "TIM_PTP_CFG", page := 1, pages := 1, off := 256, reps := 1, stride := 0, words := 1, staged := true, cross := .ptpVid, act := .none,
    fields := [{ name := "EN", hi := 0, lo := 0, acc := .rw, reset := 0 },
      { name := "SLAVEONLY", hi := 1, lo := 1, acc := .rw, reset := 1 },
      { name := "ONESTEP", hi := 2, lo := 2, acc := .rw, reset := 1 },
      { name := "UNICAST_DR", hi := 3, lo := 3, acc := .rw, reset := 0 },
      { name := "VLAN", hi := 4, lo := 4, acc := .rw, reset := 0 },
      { name := "DOMAIN", hi := 15, lo := 8, acc := .rw, reset := 127, chk := .range 0 127 },
      { name := "VID", hi := 27, lo := 16, acc := .rw, reset := 0 }] },
  { name := "TIM_PTP_INTV", page := 1, pages := 1, off := 260, reps := 1, stride := 0, words := 1, staged := true, cross := .ptpIntv, act := .none,
    fields := [{ name := "SYNC", hi := 3, lo := 0, acc := .rw, reset := 13, chk := .srange (-7) (-1) },
      { name := "ANN", hi := 7, lo := 4, acc := .rw, reset := 14, chk := .srange (-3) 1 },
      { name := "DREQ", hi := 11, lo := 8, acc := .rw, reset := 13 },
      { name := "ARTO", hi := 15, lo := 12, acc := .rw, reset := 3, chk := .range 2 10, zero := true },
      { name := "PRIO1", hi := 23, lo := 16, acc := .rw, reset := 128 },
      { name := "PRIO2", hi := 31, lo := 24, acc := .rw, reset := 128 }] },
  { name := "TIM_PTP_MAC", page := 1, pages := 1, off := 264, reps := 1, stride := 0, words := 2, staged := true, cross := .ptpMac, act := .none,
    fields := [{ name := "MAC", hi := 47, lo := 0, acc := .rw, reset := 0 }] },
  { name := "TIM_PTP_IP", page := 1, pages := 1, off := 272, reps := 1, stride := 0, words := 1, staged := true, cross := .none, act := .none,
    fields := [{ name := "IP", hi := 31, lo := 0, acc := .rw, reset := 0 }] },
  { name := "TIM_PTP_INGRESS", page := 1, pages := 1, off := 276, reps := 1, stride := 0, words := 1, staged := false, cross := .none, act := .none,
    fields := [{ name := "LATENCY", hi := 19, lo := 0, acc := .rw, reset := 0 }] },
  { name := "TIM_PTP_EGRESS", page := 1, pages := 1, off := 280, reps := 1, stride := 0, words := 1, staged := false, cross := .none, act := .none,
    fields := [{ name := "LATENCY", hi := 19, lo := 0, acc := .rw, reset := 0 }] },
  { name := "TIM_PTP_ASYM", page := 1, pages := 1, off := 284, reps := 1, stride := 0, words := 1, staged := false, cross := .none, act := .none,
    fields := [{ name := "ASYM", hi := 31, lo := 0, acc := .rw, reset := 0 }] },
  { name := "TIM_PTP_STAT", page := 1, pages := 1, off := 288, reps := 1, stride := 0, words := 1, staged := false, cross := .none, act := .none,
    fields := [{ name := "PORT", hi := 3, lo := 0, acc := .ro, reset := 3 },
      { name := "LINK", hi := 4, lo := 4, acc := .ro, reset := 0 },
      { name := "DROPS", hi := 31, lo := 16, acc := .rc, reset := 0 }] },
  { name := "TIM_PTP_OFM", page := 1, pages := 1, off := 296, reps := 1, stride := 0, words := 2, staged := false, cross := .none, act := .none,
    fields := [{ name := "OFM", hi := 63, lo := 0, acc := .ro, reset := 0 }] },
  { name := "TIM_PTP_MPD", page := 1, pages := 1, off := 304, reps := 1, stride := 0, words := 1, staged := false, cross := .none, act := .none,
    fields := [{ name := "MPD", hi := 31, lo := 0, acc := .ro, reset := 0 }] }]

/-- The tables of TIM (R88). -/
def tablesTIM : List TableDef := []

/-- The registers of AUD, page by page. -/
def regsAUD : List RegDef := [
  { name := "AUD_RCFG", page := 1, pages := 4, off := 256, reps := 1, stride := 0, words := 1, staged := true, cross := .none, act := .none,
    fields := [{ name := "EN", hi := 0, lo := 0, acc := .rw, reset := 0 },
      { name := "MASTER", hi := 1, lo := 1, acc := .rw, reset := 0 },
      { name := "RATE", hi := 2, lo := 2, acc := .rw, reset := 0 },
      { name := "FSDLY", hi := 3, lo := 3, acc := .rw, reset := 1 },
      { name := "FSPOL", hi := 4, lo := 4, acc := .rw, reset := 0 },
      { name := "FSWIDE", hi := 5, lo := 5, acc := .rw, reset := 0 },
      { name := "BCPOL", hi := 6, lo := 6, acc := .rw, reset := 0 },
      { name := "AUTO", hi := 7, lo := 7, acc := .rw, reset := 0 },
      { name := "FLOW", hi := 8, lo := 8, acc := .rw, reset := 0 }] },
  { name := "AUD_TCFG", page := 1, pages := 4, off := 320, reps := 1, stride := 0, words := 1, staged := true, cross := .none, act := .none,
    fields := [{ name := "EN", hi := 0, lo := 0, acc := .rw, reset := 0 },
      { name := "MASTER", hi := 1, lo := 1, acc := .rw, reset := 0 },
      { name := "RATE", hi := 2, lo := 2, acc := .rw, reset := 0 },
      { name := "FSDLY", hi := 3, lo := 3, acc := .rw, reset := 1 },
      { name := "FSPOL", hi := 4, lo := 4, acc := .rw, reset := 0 },
      { name := "FSWIDE", hi := 5, lo := 5, acc := .rw, reset := 0 },
      { name := "BCPOL", hi := 6, lo := 6, acc := .rw, reset := 0 },
      { name := "AUTO", hi := 7, lo := 7, acc := .rw, reset := 0 },
      { name := "FLOW", hi := 8, lo := 8, acc := .ro, reset := 0 }] },
  { name := "AUD_RING", page := 1, pages := 4, off := 260, reps := 2, stride := 64, words := 2, staged := true, cross := .none, act := .none,
    fields := [{ name := "ADDR", hi := 63, lo := 6, acc := .rw, reset := 0 }] },
  { name := "AUD_SIZE", page := 1, pages := 4, off := 268, reps := 2, stride := 64, words := 1, staged := true, cross := .none, act := .none,
    fields := [{ name := "LOG2", hi := 4, lo := 0, acc := .rw, reset := 16, chk := .range 10 20 },
      { name := "SLOG2", hi := 12, lo := 8, acc := .rw, reset := 10, chk := .range 6 16 }] },
  { name := "AUD_STAMP", page := 1, pages := 4, off := 272, reps := 2, stride := 64, words := 2, staged := true, cross := .none, act := .none,
    fields := [{ name := "ADDR", hi := 63, lo := 6, acc := .rw, reset := 0 }] },
  { name := "AUD_MASK", page := 1, pages := 4, off := 280, reps := 2, stride := 64, words := 1, staged := false, cross := .none, act := .audMask,
    fields := [{ name := "NEXT", hi := 15, lo := 0, acc := .rw, reset := 255 },
      { name := "CUR", hi := 31, lo := 16, acc := .ro, reset := 255 }] },
  { name := "AUD_CTL", page := 1, pages := 4, off := 284, reps := 2, stride := 64, words := 1, staged := false, cross := .none, act := .audCtl,
    fields := [{ name := "ARM", hi := 0, lo := 0, acc := .wo, reset := 0 },
      { name := "RESTART", hi := 1, lo := 1, acc := .wo, reset := 0 }] },
  { name := "AUD_HOST", page := 1, pages := 4, off := 288, reps := 2, stride := 64, words := 1, staged := false, cross := .none, act := .none,
    fields := [{ name := "HOSTPTR", hi := 31, lo := 0, acc := .rw, reset := 0 }] },
  { name := "AUD_STAT", page := 1, pages := 4, off := 292, reps := 2, stride := 64, words := 1, staged := false, cross := .none, act := .none,
    fields := [{ name := "STATE", hi := 1, lo := 0, acc := .ro, reset := 0 },
      { name := "PENDING", hi := 2, lo := 2, acc := .ro, reset := 0 },
      { name := "LAG", hi := 23, lo := 8, acc := .ro, reset := 0 }] },
  { name := "AUD_WCOUNT", page := 1, pages := 4, off := 296, reps := 2, stride := 64, words := 1, staged := false, cross := .none, act := .none,
    fields := [{ name := "VALUE", hi := 31, lo := 0, acc := .ro, reset := 0 }] },
  { name := "AUD_FCOUNT", page := 1, pages := 4, off := 300, reps := 2, stride := 64, words := 1, staged := false, cross := .none, act := .none,
    fields := [{ name := "VALUE", hi := 31, lo := 0, acc := .ro, reset := 0 }] },
  { name := "AUD_MASKFRAME", page := 1, pages := 4, off := 304, reps := 2, stride := 64, words := 1, staged := false, cross := .none, act := .none,
    fields := [{ name := "VALUE", hi := 31, lo := 0, acc := .ro, reset := 0 }] },
  { name := "AUD_COUNT", page := 1, pages := 4, off := 308, reps := 2, stride := 64, words := 1, staged := false, cross := .none, act := .none,
    fields := [{ name := "ROTATIONS", hi := 15, lo := 0, acc := .rc, reset := 0 },
      { name := "FSERR", hi := 23, lo := 16, acc := .rc, reset := 0 },
      { name := "RESTARTS", hi := 31, lo := 24, acc := .rc, reset := 0 }] }]

/-- The tables of AUD (R88). -/
def tablesAUD : List TableDef := []

/-- The registers of MEM, page by page. -/
def regsMEM : List RegDef := [
  { name := "MEM_STAT", page := 0, pages := 1, off := 272, reps := 1, stride := 0, words := 1, staged := false, cross := .none, act := .none,
    fields := [{ name := "INITDONE", hi := 0, lo := 0, acc := .ro, reset := 0 },
      { name := "STORM", hi := 1, lo := 1, acc := .ro, reset := 0 },
      { name := "WBACK", hi := 2, lo := 2, acc := .rw, reset := 1 },
      { name := "TEMP", hi := 15, lo := 8, acc := .ro, reset := 0 },
      { name := "REFX", hi := 17, lo := 16, acc := .ro, reset := 0 }] },
  { name := "MEM_ECC", page := 0, pages := 1, off := 276, reps := 1, stride := 0, words := 1, staged := false, cross := .none, act := .none,
    fields := [{ name := "CORR", hi := 15, lo := 0, acc := .rc, reset := 0 },
      { name := "STACKCORR", hi := 31, lo := 16, acc := .rc, reset := 0 }] },
  { name := "MEM_UNCOR", page := 0, pages := 1, off := 280, reps := 1, stride := 0, words := 1, staged := false, cross := .none, act := .none,
    fields := [{ name := "COUNT", hi := 31, lo := 0, acc := .rc, reset := 0 }] },
  { name := "MEM_STORMCFG", page := 0, pages := 1, off := 284, reps := 1, stride := 0, words := 1, staged := false, cross := .none, act := .none,
    fields := [{ name := "STORMN", hi := 7, lo := 0, acc := .rw, reset := 32, zero := true },
      { name := "STORMWIN", hi := 23, lo := 8, acc := .rw, reset := 100, zero := true }] },
  { name := "MEM_REG", page := 1, pages := 1, off := 256, reps := 8, stride := 16, words := 1, staged := true, cross := .none, act := .none,
    fields := [{ name := "RATE", hi := 13, lo := 0, acc := .rw, reset := 0, chk := .range 0 16320, zero := true, byRep := [750, 6000, 5000, 750, 500, 2000, 500, 64] },
      { name := "BURST", hi := 27, lo := 16, acc := .rw, reset := 256, zero := true },
      { name := "BORROW", hi := 31, lo := 31, acc := .rw, reset := 0, byRep := [1, 1, 1, 1, 1, 1, 1, 0] }] },
  { name := "MEM_NEED", page := 1, pages := 1, off := 260, reps := 8, stride := 16, words := 1, staged := false, cross := .none, act := .none,
    fields := [{ name := "NEED", hi := 15, lo := 0, acc := .ro, reset := 0 }] },
  { name := "MEM_BYTES", page := 1, pages := 1, off := 264, reps := 8, stride := 16, words := 2, staged := false, cross := .none, act := .none,
    fields := [{ name := "COUNT", hi := 63, lo := 0, acc := .ro, reset := 0 }] },
  { name := "MEM_LOG_SEQ", page := 2, pages := 1, off := 304, reps := 1, stride := 0, words := 1, staged := false, cross := .none, act := .none,
    fields := [{ name := "NEXT", hi := 31, lo := 0, acc := .ro, reset := 0 }] },
  { name := "MEM_SCRUB", page := 3, pages := 1, off := 256, reps := 1, stride := 0, words := 1, staged := false, cross := .none, act := .none,
    fields := [{ name := "PERIOD", hi := 4, lo := 0, acc := .rw, reset := 24, chk := .range 1 24, zero := true }] },
  { name := "MEM_SCRUB_POS", page := 3, pages := 1, off := 260, reps := 1, stride := 0, words := 2, staged := false, cross := .none, act := .none,
    fields := [{ name := "ADDR", hi := 34, lo := 0, acc := .ro, reset := 0 }] },
  { name := "MEM_SCRUB_PASSES", page := 3, pages := 1, off := 268, reps := 1, stride := 0, words := 1, staged := false, cross := .none, act := .none,
    fields := [{ name := "COUNT", hi := 31, lo := 0, acc := .ro, reset := 0 }] },
  { name := "MEM_RECAL", page := 3, pages := 1, off := 272, reps := 1, stride := 0, words := 1, staged := false, cross := .none, act := .none,
    fields := [{ name := "RECAL", hi := 15, lo := 0, acc := .rw, reset := 50, chk := .range 10 1000, zero := true },
      { name := "RESTORED", hi := 16, lo := 16, acc := .ro, reset := 0 }] }]

/-- The tables of MEM (R88). -/
def tablesMEM : List TableDef := [
  { name := "MEM_MAP", page := 0, pages := 1, idxOff := 256, dataOff := 260, words := 2, entries := 10, staged := true, cross := .map,
    fields := [(0, { name := "MASK_LO", hi := 31, lo := 0, acc := .rw, reset := 0 }),
      (1, { name := "MASK_HI", hi := 2, lo := 0, acc := .rw, reset := 0 })] },
  { name := "MEM_LOG", page := 2, pages := 1, idxOff := 256, dataOff := 272, words := 8, entries := 64, staged := false, cross := .none,
    fields := [(0, { name := "W0", hi := 31, lo := 0, acc := .ro, reset := 0 }),
      (1, { name := "W1", hi := 31, lo := 0, acc := .ro, reset := 0 }),
      (2, { name := "W2", hi := 31, lo := 0, acc := .ro, reset := 0 }),
      (3, { name := "W3", hi := 31, lo := 0, acc := .ro, reset := 0 }),
      (4, { name := "W4", hi := 31, lo := 0, acc := .ro, reset := 0 }),
      (5, { name := "W5", hi := 31, lo := 0, acc := .ro, reset := 0 }),
      (6, { name := "W6", hi := 31, lo := 0, acc := .ro, reset := 0 }),
      (7, { name := "W7", hi := 31, lo := 0, acc := .ro, reset := 0 })] }]

/-- The registers of HKP, page by page. -/
def regsHKP : List RegDef := [
  { name := "HKP_THERM", page := 0, pages := 1, off := 256, reps := 1, stride := 0, words := 1, staged := false, cross := .none, act := .none,
    fields := [{ name := "TEMP", hi := 15, lo := 0, acc := .ro, reset := 0 },
      { name := "CEIL", hi := 18, lo := 16, acc := .ro, reset := 0 },
      { name := "SUSPECT", hi := 19, lo := 19, acc := .ro, reset := 0 },
      { name := "WARN", hi := 20, lo := 20, acc := .ro, reset := 0 }] },
  { name := "HKP_VMON", page := 1, pages := 1, off := 256, reps := 4, stride := 4, words := 1, staged := false, cross := .none, act := .none,
    fields := [{ name := "MV", hi := 11, lo := 0, acc := .ro, reset := 0 },
      { name := "RANGE", hi := 12, lo := 12, acc := .ro, reset := 0 }] },
  { name := "HKP_AGE", page := 1, pages := 1, off := 272, reps := 1, stride := 0, words := 1, staged := false, cross := .none, act := .none,
    fields := [{ name := "MARGIN", hi := 9, lo := 0, acc := .ro, reset := 0 },
      { name := "NEED", hi := 19, lo := 10, acc := .ro, reset := 750 },
      { name := "AGED", hi := 20, lo := 20, acc := .ro, reset := 0 },
      { name := "MTARGET", hi := 31, lo := 22, acc := .ro, reset := 0 }] },
  { name := "HKP_AVSCFG", page := 1, pages := 1, off := 276, reps := 1, stride := 0, words := 1, staged := false, cross := .none, act := .none,
    fields := [{ name := "GUARD", hi := 5, lo := 0, acc := .rw, reset := 25, chk := .range 10 50 }] },
  { name := "HKP_ENERGY", page := 2, pages := 1, off := 256, reps := 1, stride := 0, words := 2, staged := false, cross := .none, act := .none,
    fields := [{ name := "UJ", hi := 63, lo := 0, acc := .ro, reset := 0 }] },
  { name := "HKP_ENERGY_ENC", page := 2, pages := 1, off := 264, reps := 1, stride := 0, words := 2, staged := false, cross := .none, act := .none,
    fields := [{ name := "UJ", hi := 63, lo := 0, acc := .ro, reset := 0 }] },
  { name := "HKP_EPP", page := 2, pages := 1, off := 272, reps := 1, stride := 0, words := 1, staged := false, cross := .none, act := .none,
    fields := [{ name := "ENC", hi := 15, lo := 0, acc := .ro, reset := 65535 },
      { name := "UNIT", hi := 31, lo := 16, acc := .ro, reset := 65535 }] },
  { name := "HKP_LUMA", page := 2, pages := 1, off := 280, reps := 1, stride := 0, words := 2, staged := false, cross := .none, act := .none,
    fields := [{ name := "COUNT", hi := 63, lo := 0, acc := .ro, reset := 0 }] }]

/-- The tables of HKP (R88). -/
def tablesHKP : List TableDef := []

/-- The registers of EVT, page by page. -/
def regsEVT : List RegDef := [
  { name := "EVT_FILTER", page := 0, pages := 1, off := 256, reps := 1, stride := 0, words := 1, staged := false, cross := .none, act := .none,
    fields := [{ name := "CLASS", hi := 6, lo := 0, acc := .rw, reset := 127 },
      { name := "MEMCLASS", hi := 7, lo := 7, acc := .ro, reset := 1 },
      { name := "CLASS_HI", hi := 10, lo := 8, acc := .rw, reset := 7 },
      { name := "THERMCLASS", hi := 11, lo := 11, acc := .ro, reset := 1 },
      { name := "CLASS_TOP", hi := 13, lo := 12, acc := .rw, reset := 3 }] },
  { name := "EVT_QSTAT", page := 0, pages := 1, off := 260, reps := 1, stride := 0, words := 1, staged := false, cross := .none, act := .none,
    fields := [{ name := "DEPTH", hi := 8, lo := 0, acc := .ro, reset := 0 }] },
  { name := "EVT_SEQ", page := 0, pages := 1, off := 264, reps := 1, stride := 0, words := 1, staged := false, cross := .none, act := .none,
    fields := [{ name := "NEXT", hi := 31, lo := 0, acc := .ro, reset := 0 }] },
  { name := "EVT_DROPPED", page := 0, pages := 1, off := 268, reps := 1, stride := 0, words := 1, staged := false, cross := .none, act := .none,
    fields := [{ name := "COUNT", hi := 31, lo := 0, acc := .rc, reset := 0 }] },
  { name := "EVT_FILTERED", page := 0, pages := 1, off := 272, reps := 1, stride := 0, words := 1, staged := false, cross := .none, act := .none,
    fields := [{ name := "COUNT", hi := 31, lo := 0, acc := .rc, reset := 0 }] },
  { name := "EVT_INJECT", page := 0, pages := 1, off := 276, reps := 1, stride := 0, words := 1, staged := false, cross := .none, act := .inject,
    fields := [{ name := "VALUE", hi := 31, lo := 0, acc := .wo, reset := 0 }] }]

/-- The tables of EVT (R88). -/
def tablesEVT : List TableDef := []

end Sys2Proof.Machine
end

