-- ==== Sys2Proof/Machine/Bank.lean ====
section
/-! DEFINITION. Reset values of every register word (R53), and the reading and checked writing of
register and table fields (R87, R88, R90, R93, R94, R504). -/

namespace Sys2Proof.Machine

/-- A register file: the words that differ from their reset values, by key. -/
abbrev RegFile := List (Nat × Word)

/-- PATH codes of xxx_ERR_INFO (R84); 7 is internal. -/
def pathCode : Path → Nat
  | .pf => 0
  | .vf n => n.val + 1
  | .mgt => 6

/-- Which pages of a block hold registers (R83, R202, R462; a block page that no chapter gives a register
holds none). -/
def regPage (b : Block) (p : Nat) : Bool :=
  match b with
  | .hst => decide (p ≤ 7)
  | .cmp => decide (p ≤ 4) || (decide (8 ≤ p) && decide (p ≤ 47))
  | .enc => decide (p ≤ 8) || decide (16 ≤ p)
  | .dec => decide (p ≤ 2)
  | .sch => decide (p ≤ 2)
  | .tim => decide (p ≤ 1)
  | .mem => decide (p ≤ 3)
  | .hkp => decide (p ≤ 2)
  | _ => true

/-- The registers of a block. -/
def regsOf : Block → List RegDef
  | .hst => regsHST | .dma => regsDMA | .sup => regsSUP | .mgt => regsMGT
  | .lnk => regsLNK | .cap => regsCAP | .cmp => regsCMP | .enc => regsENC | .rct => regsRCT
  | .pkt => regsPKT | .dec => regsDEC | .sch => regsSCH | .tim => regsTIM | .aud => regsAUD
  | .mem => regsMEM | .hkp => regsHKP | .evt => regsEVT

/-- The tables of a block. -/
def tablesOf : Block → List TableDef
  | .hst => tablesHST | .dma => tablesDMA | .sup => tablesSUP | .mgt => tablesMGT
  | .lnk => tablesLNK | .cap => tablesCAP | .cmp => tablesCMP | .enc => tablesENC | .rct => tablesRCT
  | .pkt => tablesPKT | .dec => tablesDEC | .sch => tablesSCH | .tim => tablesTIM | .aud => tablesAUD
  | .mem => tablesMEM | .hkp => tablesHKP | .evt => tablesEVT

/-- What an offset in the hub's 16 MiB holds (R77): with no block there, HST answers (R79). -/
def hubHit (off : Nat) : Hit :=
  match blockAt hubBlocks off with
  | some b => hitIn b (regPage b) (regsOf b) (tablesOf b) off
  | none => .hole .hst

/-- What an offset in a unit window holds (R78): with no block there, HST answers (R79). -/
def unitHit (off : Nat) : Hit :=
  match blockAt unitBlocks off with
  | some b => hitIn b (regPage b) (regsOf b) (tablesOf b) off
  | none => .hole .hst

/-- Reset values of the common registers that a register file stores (R84). -/
def commonReset (off : Nat) : Word :=
  if off = 0x024 then 0x80000000#32
  else if off = 0x03C then 1000#32
  else 0#32

/-- Reset values of the entries of the tables whose entries differ: the colour matrix is the identity
(R217), the coefficient tables give nearest-sample scaling (R215), the map is that of R404. -/
def entryReset (t : TableDef) (e i : Nat) : Word :=
  match t.cross with
  | .mtx => if i = e then 0x10000#32 else 0#32
  | .coef =>
    if e < 64 then (if i = 1 then BitVec.ofNat 32 (2048 * 2 ^ 16) else 0#32)
    else (if i = 1 then 2048#32 else 0#32)
  | .map =>
    let m := if e < 5 then 2 ^ (10 + e) + 2 ^ (20 + e) + 2 ^ (25 + e) else 2 ^ (10 + e) + 2 ^ (25 + e)
    BitVec.ofNat 32 (m / 2 ^ (32 * i))
  | _ => BitVec.ofNat 32 (t.resetWord i)

/-- Reset value of the word that a hit names; `e` and `i` count for a table entry. -/
def hitReset (h : Hit) : Word :=
  match h with
  | .common _ off => commonReset off
  | .reg _ page rep word d => BitVec.ofNat 32 (d.resetWord page rep word)
  | _ => 0#32

/-- Reset value of a table entry's word, the table found by its IDX key. -/
def tableReset (h : Hit) (e i : Nat) : Word :=
  match h with
  | .idx _ _ t => entryReset t e i
  | _ => 0#32

/-- Reset value of a key, hits found by `hit`. -/
def keyReset (hit : Nat → Hit) (k : Nat) : Word :=
  if k < 2 ^ 32 then hitReset (hit k)
  else tableReset (hit (k / 2 ^ 32 - 1)) (k % 2 ^ 32 / 16) (k % 16)

/-- Reset values of the hub's words (link, device or AUX reset, R53). -/
def hubReset (k : Nat) : Word := keyReset hubHit k

/-- Reset values of a unit's words (unit reset, R53). -/
def unitReset (k : Nat) : Word := keyReset unitHit k

/-! ### Reading and setting fields -/

/-- Value of a field in a register file with reset values `rst`. -/
def rfGet (rst : Nat → Word) (l : RegFile) (f : Fld) : Nat :=
  if f.lo + f.w ≤ 32 then bitsOf (storeGet rst l f.key).toNat f.lo f.w
  else bitsOf ((storeGet rst l f.key).toNat + 2 ^ 32 * (storeGet rst l (f.key + 4)).toNat) f.lo f.w

/-- A register file with a field set to `v` (taken modulo the field's width). -/
def rfSet (rst : Nat → Word) (l : RegFile) (f : Fld) (v : Nat) : RegFile :=
  if f.lo + f.w ≤ 32 then
    storeSet rst l f.key (BitVec.ofNat 32 (setBitsOf (storeGet rst l f.key).toNat f.lo f.w v))
  else
    let old := (storeGet rst l f.key).toNat + 2 ^ 32 * (storeGet rst l (f.key + 4)).toNat
    let new := setBitsOf old f.lo f.w v
    storeSet rst (storeSet rst l f.key (BitVec.ofNat 32 new)) (f.key + 4) (BitVec.ofNat 32 (new / 2 ^ 32))

/-! ### Sticky codes (R95) -/

def codeNONE : Nat := 0x0000
def codeRANGE : Nat := 0x0001
def codeZERO_FIELD : Nat := 0x0002
def codeACCESS : Nat := 0x0003
def codeNO_REG : Nat := 0x0004
def codeCOMMIT_PENDING : Nat := 0x0005
def codeBUSY : Nat := 0x0006
def codeTIMEOUT : Nat := 0x0007
def codeBENCH_UNIT : Nat := 0x0008
def codeSERVICE_LIMIT : Nat := 0x0009
def codeAVS_FAULT : Nat := 0x000A
def codeIMG_CORRUPT : Nat := 0x000B
def codeUNAVAILABLE : Nat := 0x000C
def codeINPUT : Nat := 0x000D
def codeNO_IMAGE : Nat := 0x000E

/-! ### The checks of a write (R93, R94) -/

/-- Levels that the HEVC standard defines, as general_level_idc (R226; PRESUMED, log entry 12). -/
def hevcLevels : List Nat := [30, 60, 63, 90, 93, 120, 123, 150, 153, 156, 180, 183, 186, 189, 210, 213, 216, 255]

/-- Levels that the VVC standard defines, as general_level_idc (R226; PRESUMED, log entry 12). -/
def vvcLevels : List Nat := [16, 32, 35, 48, 51, 64, 67, 80, 83, 86, 96, 99, 102, 105, 255]

/-- The checks that tie the fields of one register together. -/
def crossOk (c : Cross) (page rep v : Nat) : Bool :=
  match c with
  | .none => true
  | .quench => !(bitAt v 0 && bitAt v 1)
  | .imgLen => decide (v % 256 = 0) && decide (v ≤ 524288)
  | .substCtl => !(bitAt v 8 && bitAt v 9)
  | .commit => !(bitAt v 1 && !bitAt v 0)
  | .lakeScale => !(decide ((page - 8) % 8 ≥ 6) && bitAt v 6)
  | .below24GiB => decide (v < 0x600000000)
  | .encPcfg =>
    if bitAt v 1 then decide (bitsOf v 8 4 ≤ 1) && vvcLevels.contains (bitsOf v 16 8)
    else decide (bitsOf v 8 4 ≤ 8) && hevcLevels.contains (bitsOf v 16 8)
  | .audFirst => decide (bitsOf v 8 4 + 2 * (bitsOf v 3 2 + 1) ≤ 16)
  | .refCfg =>
    decide (bitsOf v 4 8 < bitsOf v 12 8) &&
      (if rep = 1 then decide (bitsOf v 20 8 ≤ 1) else if rep = 3 then true else decide (bitsOf v 20 8 = 0))
  | .ptpVid => !bitAt v 4 || (decide (1 ≤ bitsOf v 16 12) && decide (bitsOf v 16 12 ≤ 4094))
  | .ptpIntv =>
    decide (signedOf 4 (bitsOf v 0 4) ≤ signedOf 4 (bitsOf v 8 4)) &&
      decide (signedOf 4 (bitsOf v 8 4) ≤ signedOf 4 (bitsOf v 0 4) + 5)
  | .ptpMac => !bitAt v 40
  | .ring => true
  | .coef => true
  | .map => true
  | .mtx => true

/-- The code of a write of `v` to fields `fs`: RANGE for a nonzero reserved bit or a field outside its range,
else ZERO_FIELD for a zero in a count, size, period or time field of a live register, else NONE (R93, R94;
the lower code wins, R86). -/
def fieldsCode (fs : List FieldDef) (staged : Bool) (v : Nat) : Nat :=
  let rest := fs.foldl (fun x f => setBitsOf x f.lo f.width 0) v
  let writable := fs.filter (fun f => f.acc = .rw ∨ f.acc = .wo)
  let bad := writable.any (fun f =>
    let x := bitsOf v f.lo f.width
    !(f.zero && decide (x = 0)) && !f.chk.ok f.width x)
  let zero := writable.any (fun f =>
    f.zero && decide (bitsOf v f.lo f.width = 0) && !(staged && !f.live))
  if rest ≠ 0 ∨ bad then codeRANGE
  else if zero then codeZERO_FIELD
  else codeNONE

/-- The value a register holds after an accepted write of `v` over `old` (R8): RW fields take the value, W1C
fields clear the bits written as 1, all others keep theirs. `which` picks the fields written. -/
def storeFields (fs : List FieldDef) (which : FieldDef → Bool) (old v : Nat) : Nat :=
  fs.foldl (fun x f =>
    if !which f then x
    else match f.acc with
      | .rw => setBitsOf x f.lo f.width (bitsOf v f.lo f.width)
      | .w1c =>
        setBitsOf x f.lo f.width ((BitVec.ofNat 32 (bitsOf x f.lo f.width)) &&&
          ~~~(BitVec.ofNat 32 (bitsOf v f.lo f.width))).toNat
      | _ => x) old

/-- What a read returns of a stored value (R8): WO fields read zero. -/
def readFields (fs : List FieldDef) (v : Nat) : Nat :=
  fs.foldl (fun x f => if f.acc = .wo then setBitsOf x f.lo f.width 0 else x) v

/-- The stored value after a read (R8): RC fields go to their reset values. -/
def afterRead (fs : List FieldDef) (page rep : Nat) (v : Nat) : Nat :=
  fs.foldl (fun x f => if f.acc = .rc then setBitsOf x f.lo f.width (f.resetAt page rep) else x) v

end Sys2Proof.Machine
end

