-- ==== Sys2Proof/Machine/StateUnit.lean ====
section
/-! DEFINITION. The pieces of a channel unit's state that are not registers: event queue, scheduler
(07), capture and composition (08), programmes with their pictures and rows (09, 10, 11), receiver and
decoder (11, 12). Registers stand in the unit's register bank, by offset. -/

namespace Sys2Proof.Machine

/-! ### Register bank -/

/-- The buffers of one table (R88): what a read finds of the staged copy and of the active copy (R84: VIEW chooses at the
read), and the write buffer. -/
structure TableBuf where
  r : List Word := []
  active : List Word := []
  w : List Word := []
  deriving DecidableEq, Repr

/-- A register bank: live registers and active copies, staged copies (R89), held low words and high-word
latches (R87), table buffers (R88). -/
structure RegBank where
  regs : RegFile := []
  staged : RegFile := []
  /-- low words of 64-bit registers written and held for the high word, by key -/
  held : List (Nat × Word) := []
  /-- high words latched by a low-word read, by access path and key -/
  latches : List ((Path × Nat) × Word) := []
  bufs : List (Nat × TableBuf) := []
  deriving DecidableEq, Repr

/-! ### Events (R96, R97) -/

/-- One event record (R96); `time` is the 96-bit TIME value. -/
structure EventRec where
  typ : Nat
  src : Nat
  timebase : Bool
  overflow : Bool
  block : Nat
  seq : Nat
  time : Nat
  due : Nat
  arg0 : Nat
  arg1 : Nat
  deriving DecidableEq, Repr

/-- A queue of at most 256 records (R97); `overflow`: the next record queued carries OVERFLOW. -/
structure EventQueue where
  recs : List EventRec := []
  overflow : Bool := false
  deriving DecidableEq, Repr

/-! ### The scheduler (07) -/

/-- What names one task: programme, picture serial, row, KIND, tile column, segment. -/
structure TaskKey where
  prog : Nat
  pic : Nat
  row : Nat
  kind : Nat
  tile : Nat := 0
  seg : Nat := 0
  deriving DecidableEq, Repr

/-- One task context (R174) with the fields of its eight words; `deps` are the dependencies still open,
`engine` the engine whose list holds a SEGMENT (its native one, or the thief of R180), `readyAt` the tick
count at which it became READY (R181). -/
structure Ctx where
  key : TaskKey
  state : Nat := 1
  late : Bool := false
  rung : Nat := 0
  due : Nat := 0
  release : Nat := 0
  affinity : Nat := 0
  deps : List TaskKey := []
  cost : Nat := 0
  first : Nat := 0
  count : Nat := 0
  started : Nat := 0
  engine : Nat := 0
  exec : Nat := 0
  readyAt : Nat := 0
  /-- the raster the task's times are on (R505) -/
  rid : Nat := 0
  /-- the segment was running when a budget emergency was declared for its picture (R278) -/
  preEmerg : Bool := false
  deriving DecidableEq, Repr

/-- What a CTU engine holds: the running context and its two on-deck slots (R182). -/
structure Engine where
  run : Option Nat := none
  slot1 : Option Nat := none
  slot2 : Option Nat := none
  deriving DecidableEq, Repr

/-- A raster: NUM, DEN, TOTAL, ACTIVE, the present tick (R159, R160), and how it lies on device time (R162, R353):
tick (frame, 0) falls at `base` + `index` × DEN / NUM s, in 2⁻¹⁶ ns. `pre`: the tick is a boundary at which a commit
has taken effect and whose own work is still to be done. -/
structure Raster where
  id : Nat
  pre : Bool
  num : Nat
  den : Nat
  total : Nat
  active : Nat
  tick : Nat
  base : Int
  index : Nat
  deriving DecidableEq, Repr

/-- The scheduler: contexts by index, engines, the other executors' running contexts by executor number,
rows whose release waits for contexts (R174; programme, picture, row), the raster, and the old rasters that still
carry released rows after commits that changed it (R505), newest first. -/
structure Sched where
  ctxs : List (Nat × Ctx) := []
  engines : List Engine := List.replicate 16 {}
  others : List (Nat × Nat) := []
  waiting : List (Nat × Nat × Nat) := []
  /-- rows whose VERIFY task is released and has no context yet, oldest first (R317) -/
  verifies : List (Nat × Nat × Nat) := []
  /-- PACK tasks complete and not yet dated (R177): raster, programme, picture, row -/
  packs : List (Nat × Nat × Nat × Nat) := []
  raster : Option Raster := none
  old : List Raster := []
  nextRid : Nat := 0
  /-- the AT target of a commit in progress (R146) -/
  at_ : Option Nat := none
  /-- device time of the verdict that accepted the commit in progress, in 2⁻¹⁶ ns (R140, R145) -/
  verdictAt : Nat := 0
  /-- a commit of the umpire's own is due or in progress, for a substitution (R436): its raster is laid on the seeded
  origin (R435) -/
  serving : Bool := false
  deriving DecidableEq, Repr

/-! ### Capture and composition (08) -/

/-- The previous line packet of a source (R197). -/
structure PrevPacket where
  line : Nat
  frame : Nat
  deriving DecidableEq, Repr

/-- A source beside its registers (which hold READY, CAUSE, CLEAN, LINE). -/
structure Source where
  /-- lines retired while ready in the present frame, and in the frame before: those lines are fresh (R200) -/
  good : Nat := 0
  pgood : Nat := 0
  /-- every line of the present frame so far was, or would have been, retired (R199) -/
  frameOk : Bool := true
  /-- ticks whose line has arrived and passed every check, and ticks whose line failed one (R196, R197) -/
  arrived : List Nat := []
  failed : List Nat := []
  prev : Option PrevPacket := none
  /-- a CAPTURE_CHECK has been posted for the present frame -/
  posted : Bool := false
  /-- boundaries still to come until a kind-1 source that a commit has just enabled is ready (R199): 2 before the boundary
  frame's own tick, 1 in that frame -/
  fresh : Nat := 0
  /-- the frame-input descriptors in use, newest first: the frame each was taken for, and the lines of it in HBM
  (R118, R196) -/
  host : List (Nat × Nat) := []
  /-- the decoded picture delivered for a frame: frame, width, height (R324) -/
  decFrame : Option (Nat × Nat × Nat) := none
  deriving DecidableEq, Repr

/-- A surface: address, position and layer alpha (R208). -/
structure Surface where
  addr : Nat
  x : Int
  y : Int
  alpha : Nat
  deriving DecidableEq, Repr

/-- A layer beside its registers: the current flip, what it was before, the pending flip with the BAR2 writes it waits
for (R208, R209), and readiness (R210). -/
structure Layer where
  cur : Option Surface := none
  /-- what pictures before a frame still use, newest first: the frame from which it was replaced, and the content before
  (R209); an entry goes when the last picture before its frame is composed -/
  past : List (Nat × Option Surface) := []
  /-- FORMAT, SW and SH under which the layer was last acted on (R143, R211) -/
  shape : Nat × Nat × Nat := (0, 1920, 1080)
  pending : Option Surface := none
  /-- BAR2 writes received before the ARM -/
  mark : Nat := 0
  /-- line ticks counted when the ARM was serialised -/
  armed : Nat := 0
  /-- the present frame's flip has been applied (FLIP_APPLY may come before the boundary's own tick) -/
  applied : Bool := false
  /-- ready for the present frame -/
  ready : Bool := true
  deriving DecidableEq, Repr

/-- A composition context's progress: the frame being composed, its lines done, which of them are held, whether an
earlier composed picture exists since the commit (R200), and lake layers not ready for the frame (R223). -/
structure Compose where
  started : Bool := false
  frame : Nat := 0
  lines : Nat := 0
  heldLines : List Nat := []
  prevPic : Bool := false
  lake6 : Bool := false
  lake7 : Bool := false
  /-- a commit has taken effect since the picture was begun -/
  commit : Bool := false
  deriving DecidableEq, Repr

/-- A rendition's progress: the picture being written, its lines done, and those of them that are held (R219). -/
structure Rendition where
  started : Bool := false
  frame : Nat := 0
  lines : Nat := 0
  held : List Nat := []
  deriving DecidableEq, Repr

/-- A swatch region (R221, R222): the value its queue last chose, the value in force for the frame being composed,
and that frame's running CRC, pixels and staleness. -/
structure Region where
  /-- EN and EXPECT under which the region was last acted on (R143) -/
  on : Bool := false
  expect : Nat := 0
  chosen : Option Nat := none
  want : Nat := 0
  crc : Nat := 0xFFFFFFFF
  pixels : Nat := 0
  stale : Bool := false
  deriving DecidableEq, Repr

/-! ### Programmes: pictures, rows, ledger, stream (09, 10, 11) -/

/-- An audio stream of a programme (R293): index k, port, channels, first slot, PID. -/
structure AudioCfg where
  k : Nat
  port : Nat
  channels : Nat
  first : Nat
  pid : Nat
  deriving DecidableEq, Repr

/-- The configuration of a programme that its pictures and rows keep (a row released before a commit
completes under the old one, R505). -/
structure ProgCfg where
  mode : Nat := 7
  vvc : Bool := false
  w : Nat := 0
  hgt : Nat := 0
  depth : Nat := 10
  chroma : Nat := 1
  ren : Nat := 0
  ctx : Nat := 0
  src : Nat := 0
  scale : Bool := false
  /-- row height in lines -/
  h : Nat := 64
  /-- CTU columns and rows -/
  wc : Nat := 0
  rows : Nat := 0
  tiles : Nat := 1
  refs : Nat := 1
  /-- PROFILE, TIER and LEVEL of ENC_PCFG (R227) -/
  profile : Nat := 3
  tier : Bool := true
  level : Nat := 186
  /-- the values of ENC_PVUI that the stream's SPS carries (R234, R256) -/
  prim : Nat := 1
  trans : Nat := 1
  matrix : Nat := 1
  full : Bool := false
  cycle : Nat := 32
  hash : Nat := 0
  aud : Bool := false
  core : Nat := 4
  extra : Nat := 1
  plan : Nat := 1
  prio : Nat := 0
  /-- tctu of R189 -/
  tctu : Nat := 0
  tcmp : Nat := 4
  rate : Nat := 0
  rateMax : Nat := 0
  size : Nat := 0
  init : Nat := 0
  cbr : Bool := true
  stretch : Nat := 8
  emin : Nat := 64
  qpMin : Int := 0
  qpMax : Int := 51
  kappa : Nat := 0
  form : Nat := 1
  pathA : Bool := false
  pathB : Bool := false
  ring : Bool := false
  maxPay : Nat := 8192
  sid : Nat := 0
  pmt : Nat := 0x100
  video : Nat := 0x101
  /-- enabled audio streams: k, port, channels, first slot, PID -/
  audio : List AudioCfg := []
  num : Nat := 120
  den : Nat := 1
  total : Nat := 4500
  active : Nat := 4320
  verify : Bool := false
  deriving DecidableEq, Repr

/-- What kind of picture it is (R254). -/
inductive PicKind where
  | ordinary | start | bench | freeze
  deriving DecidableEq, Repr

/-- One coded CTU as its engine leaves it (R240, R275, R280, R332). -/
structure CtuRec where
  addr : Nat
  fug : Bool := false
  band : Bool := false
  refreshed : Bool := false
  capped : Bool := false
  held : Bool := false
  emerg : Bool := false
  memErr : Bool := false
  rung : Nat := 0
  /-- 0 searched, 1 fill, 2 fixed intra, 3 start -/
  form : Nat := 0
  /-- the bits of R275, and the bytes that the CTU completes, without emulation prevention -/
  tally : Nat := 0
  data : List Byte := []
  zeroWords : Nat := 0
  /-- its coding units -/
  cus : List CodingUnit := []
  qp : Int := 0
  engine : Nat := 0
  tile : Nat := 0
  start : Nat := 0
  row : Nat := 0
  /-- sums over its samples (R332): SAD, ACT, SSE_Y, SSE_C -/
  meas : List Nat := []
  deriving DecidableEq, Repr

/-- A picture of a programme (R237, R261, R264). -/
structure PicSt where
  serial : Nat
  cfg : ProgCfg
  /-- the stream it belongs to -/
  stream : Nat := 0
  rid : Nat := 0
  frame : Nat
  kind : PicKind := .ordinary
  pos : Nat := 0
  cycleStart : Bool := false
  /-- serial number of the cycle the picture lies in -/
  cycleId : Nat := 0
  poc : Nat := 0
  count : Nat := 0
  /-- number in its ledger; 0 starts a ledger -/
  n : Nat := 0
  lim : Int := 0
  target : Int := 0
  lmin : Int := 0
  /-- O(n): items 1 to 4 and 6 of R236 (R270) -/
  overBits : Nat := 0
  /-- the bytes of items 1 to 4 of R236, which go out with row 0, and of item 6, which go out with the last row -/
  head : List Byte := []
  tail : List Byte := []
  /-- the parameter sets of which item 2 carries some, for the scorecard (R428) -/
  sets : List Byte := []
  /-- its reconstruction buffer (R257) -/
  buffer : Nat := 0
  /-- its POC less that of each picture of its reference list, in order (R233, R254) -/
  deltas : List Nat := []
  /-- what the next picture's limit takes for b(n): U(n) until the picture closes (R264) -/
  used : Int := 0
  /-- C: bits of closed rows -/
  closedBits : Nat := 0
  /-- V: allowances of rows released and not closed -/
  openBits : Nat := 0
  emergency : Bool := false
  fug : List Nat := []
  coded : Nat := 0
  rowsReleased : Nat := 0
  rowsClosed : Nat := 0
  closed : Bool := false
  bits : Nat := 0
  filler : Nat := 0
  /-- coded at rung 7 throughout (R255) -/
  floorOnly : Bool := false
  /-- device times of ticks (frame, 0) and (frame − 1, 0), in 2⁻¹⁶ ns -/
  t0 : Int := 0
  tprev : Int := 0
  /-- a verification stop has been met (R330) -/
  noVerify : Bool := false
  /-- a VERIFY_MISMATCH has been posted for the picture (R318) -/
  mismatched : Bool := false
  fugEvents : Nat := 0
  deriving DecidableEq, Repr

/-- A row in flight: its ticks (R167, R168), allowance (R272), coded CTUs, and how far it has come. -/
structure RowSt where
  serial : Nat
  row : Nat
  release : Nat
  core : Nat
  due : Nat
  allow : Nat := 0
  x : Nat := 0
  e : Nat := 0
  qpBase : Int := 0
  /-- released when an emergency was in force (R278) -/
  emerg : Bool := false
  held : Bool := false
  rendered : Bool := false
  ctus : List CtuRec := []
  /-- its slice NAL units, once packed (R236, item 5) -/
  body : List Byte := []
  packed : Bool := false
  retired : Bool := false
  overrun : Bool := false
  departed : Bool := false
  statsDone : Bool := false
  slip : Nat := 0
  rid : Nat := 0
  deriving DecidableEq, Repr

/-- What later pictures know of a coded picture (R242): the CTUs coded fugitive, those whose reconstruction a failing
read has marked since (R252, R253), cycle, refreshed columns, reconstruction buffer. -/
structure RefPic where
  serial : Nat
  buffer : Nat
  poc : Nat
  fug : List Nat := []
  marked : List Nat := []
  cycleId : Nat
  refreshed : Nat
  deriving DecidableEq, Repr

/-- The picture of a programme that last departed in full, as its scorecard record holds it (R428). -/
structure Departed where
  poc : Nat
  frame : Nat
  pos : Nat
  count : Nat
  bits : Nat
  last : Nat
  seq : Nat
  time : Nat
  deriving DecidableEq, Repr

/-- What a row of the latest picture coded below rung 7 leaves for later pictures (R279). -/
structure RowQp where
  row : Nat
  qp : Int
  rung : Nat
  tally : Nat
  deriving DecidableEq, Repr

/-- Values that a substitution gives a programme (R437), from its scorecard record. -/
structure Seed where
  departed : Bool
  epoch : Nat
  seq : Nat
  poc : Nat
  frame : Nat
  psi : Nat
  pics : Nat
  bits : Nat
  params : List Byte
  deriving DecidableEq, Repr

/-- One stream of a programme (R301): its numbering and what its transport stream carries on. A stream that a commit
has ended or restarted stays until its last row has departed (R303, R312). -/
structure Stream where
  id : Nat
  sid : Nat
  epoch : Nat
  /-- SEQ of the next packet -/
  seq : Nat
  first : Nat
  disc : Bool := true
  /-- END goes out after the last row (R303) -/
  end_ : Bool := false
  /-- POC of the last picture whose packets were released -/
  lastPic : Nat := 0
  /-- device time at which the last PAT was sent -/
  lastPat : Option Nat := none
  psiVer : Nat := 0
  /-- continuity counters by PID -/
  cc : List (Nat × Nat) := []
  /-- PIDs whose next transport packet carries discontinuity_indicator 1 (R294) -/
  discPids : List Nat := []
  /-- device time at which a video packet was last released (R292) -/
  lastVideo : Nat := 0
  /-- a packet has been released; the raster of the last row that departed -/
  sent : Bool := false
  rid : Nat := 0
  /-- the configuration under which packets without a row go out -/
  cfg : ProgCfg := {}
  deriving DecidableEq, Repr

/-- A programme. -/
structure Prog where
  on : Bool := false
  cfg : ProgCfg := {}
  /-- serial number of the next picture -/
  serial : Nat := 0
  pics : List PicSt := []
  rows : List RowSt := []
  /-- newest first -/
  refs : List RefPic := []
  /-- how the next picture to enter composition begins, if not ordinary -/
  next : Option PicKind := none
  cycleReq : Bool := false
  freezeReq : Bool := false
  nextPos : Nat := 0
  cycleId : Nat := 0
  /-- POC and picture count of the next picture -/
  nextPoc : Nat := 0
  nextCount : Nat := 1
  /-- streams, newest first; the newest is the programme's own while it is on -/
  streams : List Stream := []
  nextStream : Nat := 0
  slip : Nat := 0
  offset : Nat := 0
  /-- some row since the last on-time one was late -/
  lateRun : Bool := false
  overrunRun : Bool := false
  /-- per row: mean QP, first rung and tally of the latest picture that coded it below rung 7 (R279) -/
  qpRows : List RowQp := []
  /-- the last picture departed in full in the current epoch -/
  departed : Option Departed := none
  /-- host-ring packets dropped in the present run (R311) and device time of the last RING_DROP -/
  dropRun : Nat := 0
  dropTime : Option Nat := none
  statRun : Nat := 0
  statTime : Option Nat := none
  mvRun : Nat := 0
  mvTime : Option Nat := none
  /-- verification waits for the next cycle start (R330) -/
  verifyWait : Bool := false
  seed : Option Seed := none
  /-- the parameter sets of the stream: VPS and SPS, which never change (R234), and PPS -/
  sets : List Byte := []
  pps : List Byte := []
  /-- a commit has changed the PPS, and no picture has carried it yet (R236) -/
  ppsDue : Bool := false
  /-- the parameter sets last emitted, as the scorecard holds them (R428) -/
  params : List Byte := []
  /-- number in its ledger of the last picture with a buffering period SEI message (R267) -/
  lastBp : Nat := 0
  /-- POC of the first bench picture less that of picture P (R254) -/
  benchDelta : Nat := 0
  deriving DecidableEq, Repr

/-! ### Receiving and decoding (11, 12) -/

/-- An Ubnen-S packet as received or sent (R295). -/
structure Packet where
  typ : Nat
  flags : Nat
  sid : Nat
  seq : Nat
  time : Nat
  epoch : Nat
  picture : Nat
  due : Nat
  payload : List Byte
  deriving DecidableEq, Repr

/-- A packet released to a path (R297): the device times at which its first column and its last leave, in 2⁻¹⁶ ns. -/
structure Sending where
  first : Nat
  last : Nat
  pkt : Packet
  /-- rate code of the path's lanes, and where the packet begins in the period of markers (R363) -/
  rate : Nat := 5
  phase : Nat := 0
  deriving DecidableEq, Repr

/-- A path: its released packets that have not left whole, in order, and the device time at which all have left. -/
structure PathSt where
  queue : List Sending := []
  busyUntil : Nat := 0
  deriving DecidableEq, Repr

/-- A receiver's state for its stream (R306), with the packets accepted and not yet delivered (R307). -/
structure RxStream where
  known : Bool := false
  epoch : Nat := 0
  high : Nat := 0
  /-- numbers H − 4,095 to H that have been accepted -/
  seen : List Nat := []
  heard : Nat := 0
  /-- accepted packets waiting for a missing number, each with what a stop names for it -/
  waiting : List (Packet × Nat) := []
  /-- next number to deliver -/
  nextSeq : Nat := 0
  /-- runs of missing numbers: first, how many, device time at which they began to wait -/
  missing : List (Nat × Nat × Nat) := []
  lost : Nat := 0
  deriving DecidableEq, Repr

/-- An access unit as its bytes come in: where each piece begins with what a stop's LOCATOR names for it (R327), where bytes of
it were lost, and where it lies in the input buffer. -/
structure AccessUnit where
  bytes : List Byte := []
  pieces : List (Nat × Nat) := []
  gap : Option Nat := none
  start : Nat := 0
  deriving DecidableEq, Repr

/-- The size of coded pictures in luma samples, and the conformance window's offsets (left, right, top, bottom) in chroma
units. -/
structure CodedSize where
  w : Nat
  h : Nat
  left : Nat := 0
  right : Nat := 0
  top : Nat := 0
  bottom : Nat := 0
  deriving DecidableEq, Repr

/-- A sequence parameter set: number, chroma_format_idc, size (in VVC the largest). -/
structure SeqSet where
  id : Nat
  chroma : Nat
  size : CodedSize
  deriving DecidableEq, Repr

/-- A picture parameter set: number, the sequence parameter set that it refers to, and in VVC the size. -/
structure PicSet where
  id : Nat
  seq : Nat
  size : Option CodedSize := none
  deriving DecidableEq, Repr

/-- A picture in the decoded picture buffer (R319): buffer, POC, size, chroma format; whether it waits for output and how many
pictures have come since, whether it is a reference, whether it is unrecovered (R329). -/
structure DpbPic where
  buffer : Nat
  poc : Int
  size : CodedSize
  chroma : Nat
  waiting : Bool
  waited : Nat := 0
  ref : Bool := true
  unrec : Bool := false
  deriving DecidableEq, Repr

/-- A picture passed for delivery (R324): its cropped size, and its lines as pixel words with chroma at every position. -/
structure ShownPic where
  w : Nat
  h : Nat
  lines : List (List Byte)
  deriving DecidableEq, Repr

/-- The decoder beside its registers: access units in hand, parameter sets, decoded picture buffer, delivery queue (R319 to
R329). -/
structure Decoder where
  /-- the access unit being gathered -/
  open_ : Option AccessUnit := none
  /-- whole access units waiting, oldest first -/
  units : List AccessUnit := []
  /-- bytes taken into the input buffer since the stream began, modulo its size -/
  fill : Nat := 0
  /-- bytes were lost before the access unit that begins next -/
  lost : Bool := false
  seqs : List SeqSet := []
  pics : List PicSet := []
  dpb : List DpbPic := []
  /-- pictures in the delivery queue, head first, and output pictures that wait for room in it -/
  queue : List ShownPic := []
  outs : List ShownPic := []
  /-- LEAD pictures have gathered since the last commit, stop or discontinuity -/
  leadMet : Bool := false
  /-- POC of the picture at which recovery completes (R329) -/
  recoverAt : Option Int := none
  /-- leading pictures of the IRAP picture at which decoding began are skipped -/
  skipLeading : Bool := false
  /-- pictures decoded since the stream began, for PICTURE of the stop record -/
  pictures : Nat := 0
  /-- transport-stream input: continuity counter of the video PID, the PIDs of PMT and video, sections of the PAT and the PMT
  being gathered -/
  lastCc : Option Nat := none
  pmtPid : Option Nat := none
  videoPid : Option Nat := none
  patPart : Option (List Byte) := none
  pmtPart : Option (List Byte) := none
  /-- the stream has ended (END packet): STATE goes idle once what is in hand is decoded, and back to this at new input -/
  ended : Option Nat := none
  deriving DecidableEq, Repr

end Sys2Proof.Machine
end

