-- ==== Sys2Proof/Machine/Nal.lean ====
section
/-! DEFINITION. What the decoder reads of an incoming stream outside slice data (12_decoder_and_statistics.md, R319, R327 to
R329): NAL units of an access unit and their headers, sequence and picture parameter sets as far as picture size and
conformance window, the parameter set that a picture refers to, resume points, recovery point and picture hash SEI messages.
The layout of the syntax is that of H.265 and H.266 (PRESUMED, log entry 91). -/

namespace Sys2Proof.Machine

/-! ### NAL units -/

/-- A NAL unit: offset of its first header byte in the access unit, and its bytes from there. -/
structure Nal where
  pos : Nat
  bytes : List Byte
  deriving DecidableEq, Repr

/-- Offsets of the start codes in a run of bytes; `i` is the offset of the first byte given. -/
def startsOf : Nat → List Byte → List Nat
  | _, [] => []
  | i, b :: l => if (b :: l).take 3 = [0#8, 0#8, 1#8] then i :: startsOf (i + 1) l else startsOf (i + 1) l

/-- A run of bytes without the zero bytes that end it. -/
def trimZeros (bs : List Byte) : List Byte := (bs.reverse.dropWhile (· == 0#8)).reverse

/-- The NAL units of a byte stream, in order. -/
def nalsOf (bs : List Byte) : List Nal :=
  let s := startsOf 0 bs
  (List.range s.length).map (fun i =>
    let a := s.getD i 0 + 3
    ⟨a, trimZeros ((bs.take (s.getD (i + 1) bs.length)).drop a)⟩)

/-- Header byte `i` of a NAL unit. -/
def Nal.byte (n : Nal) (i : Nat) : Nat := (n.bytes.getD i 0#8).toNat

/-- forbidden_zero_bit. -/
def Nal.forbidden (n : Nal) : Bool := bitAt (n.byte 0) 7

/-- nuh_layer_id, nal_unit_type and nuh_temporal_id_plus1 of a standard. -/
def Nal.layer (n : Nal) (vvc : Bool) : Nat := if vvc then n.byte 0 % 64 else n.byte 0 % 2 * 32 + n.byte 1 / 8
def Nal.type (n : Nal) (vvc : Bool) : Nat := if vvc then n.byte 1 / 8 else n.byte 0 / 2 % 64
def Nal.tid (n : Nal) : Nat := n.byte 1 % 8

/-- The bytes after the header, emulation prevention removed, and their bits. -/
def Nal.rbsp (n : Nal) : List Byte := unescapeFrom 0 (n.bytes.drop 2)
def Nal.bits (n : Nal) : List Bool := bitsOfBytes n.rbsp

/-- Index among bytes with emulation prevention of byte `k` without it; `z` zero bytes stand just before. -/
def rawIndex : Nat → List Byte → Nat → Nat
  | _, [], k => k
  | z, b :: l, k =>
    if 2 ≤ z ∧ b = 3#8 then 1 + rawIndex 0 l k
    else match k with
      | 0 => 0
      | k + 1 => 1 + rawIndex (if b = 0#8 then z + 1 else 0) l k

/-- Offset in the access unit of the byte that holds the first of the last `rest` bits of a NAL unit (OFFSET of R327). -/
def Nal.offset (n : Nal) (rest : Nat) : Nat := n.pos + 2 + rawIndex 0 (n.bytes.drop 2) ((n.bits.length - rest) / 8)

/-! ### Parameter sets -/

/-- What a parser hands on: what it read, where width and height began, counted in bits left. -/
structure Read (α : Type) where
  val : α
  wide : Nat := 0
  high : Nat := 0

/-- The conformance window after its flag. -/
def readWindow (w h : Nat) (r : List Bool) : Option (CodedSize × List Bool) := do
  let (f, r) ← readU 1 r
  if f = 0 then some (⟨w, h, 0, 0, 0, 0⟩, r)
  else
    let (a, r) ← readUe r
    let (b, r) ← readUe r
    let (c, r) ← readUe r
    let (d, r) ← readUe r
    some (⟨w, h, a, b, c, d⟩, r)

/-- Past profile_tier_level of HEVC for `sub` + 1 sub-layers. -/
def skipHevcPtl (sub : Nat) (r : List Bool) : Option (List Bool) := do
  let r ← skipBits 96 r
  if sub = 0 then some r
  else
    let n := (List.range sub).foldl (fun s i => s + b2n (r.getD (2 * i) false) * 88 + b2n (r.getD (2 * i + 1) false) * 8) 0
    skipBits (16 + n) r

/-- An HEVC sequence parameter set. -/
def readHevcSps (bits : List Bool) : Option (Read SeqSet) := do
  let r ← skipBits 4 bits
  let (sub, r) ← readU 3 r
  let r ← skipBits 1 r
  let r ← skipHevcPtl sub r
  let (id, r) ← readUe r
  let (ch, r) ← readUe r
  let r ← skipBits (if ch = 3 then 1 else 0) r
  let a := r.length
  let (w, r) ← readUe r
  let b := r.length
  let (h, r) ← readUe r
  let (s, _) ← readWindow w h r
  some ⟨⟨id, ch, s⟩, a, b⟩

/-- Past profile_tier_level of VVC, which begins at a whole byte; `total` bits follow its first. -/
def skipVvcPtl (sub : Nat) (r : List Bool) : Option (List Bool) := do
  let total := r.length
  let pad (r : List Bool) : Nat := padOf (total - r.length)
  let r ← skipBits 18 r
  let (gci, r) ← readU 1 r
  let r ← skipBits (71 * gci) r
  let (more, r) ← if gci = 1 then readU 8 r else some (0, r)
  let r ← skipBits more r
  let r ← skipBits (pad r) r
  let n := (List.range sub).foldl (fun s i => s + b2n (r.getD i false)) 0
  let r ← skipBits sub r
  let r ← skipBits (pad r) r
  let r ← skipBits (8 * n) r
  let (profiles, r) ← readU 8 r
  skipBits (32 * profiles) r

/-- A VVC sequence parameter set. -/
def readVvcSps (bits : List Bool) : Option (Read SeqSet) := do
  let (id, r) ← readU 4 bits
  let r ← skipBits 4 r
  let (sub, r) ← readU 3 r
  let (ch, r) ← readU 2 r
  let r ← skipBits 2 r
  let (ptl, r) ← readU 1 r
  let r ← if ptl = 1 then skipVvcPtl sub r else some r
  let r ← skipBits 1 r
  let (rpr, r) ← readU 1 r
  let r ← skipBits rpr r
  let a := r.length
  let (w, r) ← readUe r
  let b := r.length
  let (h, r) ← readUe r
  let (s, _) ← readWindow w h r
  some ⟨⟨id, ch, s⟩, a, b⟩

/-- A picture parameter set. -/
def readPps (vvc : Bool) (bits : List Bool) : Option (Read PicSet) := do
  if vvc then
    let (id, r) ← readU 6 bits
    let (seq, r) ← readU 4 r
    let r ← skipBits 1 r
    let a := r.length
    let (w, r) ← readUe r
    let b := r.length
    let (h, r) ← readUe r
    let (s, _) ← readWindow w h r
    some ⟨⟨id, seq, some s⟩, a, b⟩
  else
    let (id, r) ← readUe bits
    let (seq, _) ← readUe r
    some ⟨⟨id, seq, none⟩, 0, 0⟩

/-! ### Pictures -/

/-- A NAL unit of slice data. -/
def isSlice (vvc : Bool) (t : Nat) : Bool := if vvc then decide (t < 12) else decide (t < 32)

/-- IRAP, IDR, leading picture that may be skipped, and GDR, by NAL unit type. -/
def isIrap (vvc : Bool) (t : Nat) : Bool := if vvc then decide (7 ≤ t ∧ t ≤ 9) else decide (16 ≤ t ∧ t ≤ 23)
def isIdr (vvc : Bool) (t : Nat) : Bool := if vvc then t == 7 || t == 8 else t == 19 || t == 20
def isRasl (vvc : Bool) (t : Nat) : Bool := if vvc then t == 3 else t == 8 || t == 9
def isGdr (vvc : Bool) (t : Nat) : Bool := vvc && t == 10

/-- The bits that begin with the number of the picture parameter set, of a VVC picture header and of an HEVC slice header. -/
def phPps (r : List Bool) : Option (List Bool) := do
  let (rap, r) ← readU 1 r
  let r ← skipBits (1 + rap) r
  let (inter, r) ← readU 1 r
  skipBits inter r
def slicePps (irap : Bool) (r : List Bool) : Option (List Bool) := skipBits (1 + b2n irap) r

/-- The bits that begin with the number of the picture parameter set in a NAL unit that holds one: none where the unit holds
none, `some none` where parsing passes its end. -/
def ppsRef (vvc : Bool) (t : Nat) (bits : List Bool) : Option (Option (List Bool)) :=
  if vvc then
    if t = 19 then some (phPps bits)
    else if isSlice true t ∧ bits.headD false then some (phPps (bits.drop 1))
    else none
  else if isSlice false t then some (slicePps (isIrap false t) bits)
  else none

/-! ### SEI messages -/

/-- A number of an SEI message header: bytes 0xFF count 255 each. -/
def seiNumber : List Byte → Option (Nat × List Byte)
  | [] => none
  | b :: l => if b = 0xFF#8 then (seiNumber l).map (fun e => (255 + e.1, e.2)) else some (b.toNat, l)

/-- The SEI messages of an RBSP: type, payload, and bytes left at its start; `n` bounds them. -/
def seiOf : Nat → List Byte → List (Nat × List Byte × Nat)
  | 0, _ => []
  | n + 1, bs =>
    if bs.length < 2 then []
    else match seiNumber bs with
      | none => []
      | some (t, r) =>
        match seiNumber r with
        | none => []
        | some (len, r) => (t, r.take len, r.length) :: seiOf n (r.drop len)

/-- se(v) of an Exp-Golomb number. -/
def seValue (v : Nat) : Int := if v % 2 = 1 then ((v : Int) + 1) / 2 else -((v : Int) / 2)

/-- recovery_poc_cnt of a recovery point SEI payload of HEVC. -/
def recoveryOf (p : List Byte) : Int := ((readUe (bitsOfBytes p)).map (fun e => seValue e.1)).getD 0

end Sys2Proof.Machine
end

