-- ==== Sys2Proof/Machine/PictureHash.lean ====
section
/-! DEFINITION. The three methods of a decoded picture hash (R236, R257): MD5 (RFC 1321), CRC and checksum of the decoded
picture hash SEI message (H.265 D.3.19, H.274; PRESUMED, log entry 91). -/

namespace Sys2Proof.Machine

/-! ### MD5 -/

/-- The additive constants of MD5, first and second half. -/
def md5K0 : List Nat := [
   0xD76AA478, 0xE8C7B756, 0x242070DB, 0xC1BDCEEE, 0xF57C0FAF, 0x4787C62A, 0xA8304613, 0xFD469501,
   0x698098D8, 0x8B44F7AF, 0xFFFF5BB1, 0x895CD7BE, 0x6B901122, 0xFD987193, 0xA679438E, 0x49B40821,
   0xF61E2562, 0xC040B340, 0x265E5A51, 0xE9B6C7AA, 0xD62F105D, 0x02441453, 0xD8A1E681, 0xE7D3FBC8,
   0x21E1CDE6, 0xC33707D6, 0xF4D50D87, 0x455A14ED, 0xA9E3E905, 0xFCEFA3F8, 0x676F02D9, 0x8D2A4C8A]

def md5K1 : List Nat := [
   0xFFFA3942, 0x8771F681, 0x6D9D6122, 0xFDE5380C, 0xA4BEEA44, 0x4BDECFA9, 0xF6BB4B60, 0xBEBFBC70,
   0x289B7EC6, 0xEAA127FA, 0xD4EF3085, 0x04881D05, 0xD9D4D039, 0xE6DB99E5, 0x1FA27CF8, 0xC4AC5665,
   0xF4292244, 0x432AFF97, 0xAB9423A7, 0xFC93A039, 0x655B59C3, 0x8F0CCC92, 0xFFEFF47D, 0x85845DD1,
   0x6FA87E4F, 0xFE2CE6E0, 0xA3014314, 0x4E0811A1, 0xF7537E82, 0xBD3AF235, 0x2AD7D2BB, 0xEB86D391]

/-- The constants of MD5. -/
def md5K : List Nat := md5K0 ++ md5K1

/-- Shift of round `i` of MD5. -/
def md5Shift (i : Nat) : Nat :=
  ([[7, 12, 17, 22], [5, 9, 14, 20], [4, 11, 16, 23], [6, 10, 15, 21]].getD (i / 16) []).getD (i % 4) 7

/-- The four words of MD5. -/
abbrev Md5 : Type := Word × Word × Word × Word

/-- Round `i` on message words `m`. -/
def md5Round (m : List Word) (s : Md5) (i : Nat) : Md5 :=
  let (a, b, c, d) := s
  let fg : Word × Nat :=
    if i < 16 then ((b &&& c) ||| (~~~b &&& d), i)
    else if i < 32 then ((d &&& b) ||| (~~~d &&& c), (5 * i + 1) % 16)
    else if i < 48 then (b ^^^ c ^^^ d, (3 * i + 5) % 16)
    else (c ^^^ (b ||| ~~~d), (7 * i) % 16)
  let f := fg.1 + a + BitVec.ofNat 32 (md5K.getD i 0) + m.getD fg.2 0#32
  (d, b + f.rotateLeft (md5Shift i), b, c)

/-- One block of 64 bytes. -/
def md5Block (s : Md5) (bs : List Byte) : Md5 :=
  let m := (List.range 16).map (fun i => BitVec.ofNat 32 (wordAt bs (4 * i)))
  let (a, b, c, d) := (List.range 64).foldl (md5Round m) s
  (s.1 + a, s.2.1 + b, s.2.2.1 + c, s.2.2.2 + d)

/-- `n` blocks. -/
def md5Blocks : Nat → Md5 → List Byte → Md5
  | 0, s, _ => s
  | n + 1, s, bs => md5Blocks n (md5Block s (bs.take 64)) (bs.drop 64)

/-- MD5 of a message: sixteen bytes. -/
def md5 (bs : List Byte) : List Byte :=
  let p := bs ++ 0x80#8 :: (List.replicate ((119 - bs.length % 64) % 64) 0#8 ++ bytesLE 8 (8 * bs.length))
  let (a, b, c, d) := md5Blocks (p.length / 64) (0x67452301#32, 0xEFCDAB89#32, 0x98BADCFE#32, 0x10325476#32) p
  bytesLE 4 a.toNat ++ bytesLE 4 b.toNat ++ bytesLE 4 c.toNat ++ bytesLE 4 d.toNat

/-! ### Hash of one component -/

/-- One component of a decoded picture: width and its samples in raster order. -/
structure Plane where
  width : Nat
  samples : List Nat
  deriving DecidableEq, Repr

/-- The bytes of a component: one a sample at 8 bits, else two, low byte first. -/
def Plane.bytes (p : Plane) (depth : Nat) : List Byte := p.samples.flatMap (fun v => bytesLE (if depth = 8 then 1 else 2) v)

/-- The CRC of a component: sixteen zero bits follow its bytes. -/
def planeCrc (bs : List Byte) : Nat :=
  (bs ++ [0#8, 0#8]).foldl (fun x b => (List.range 8).foldl (fun x i =>
    ((2 * x + bitsOf b.toNat (7 - i) 1) % 2 ^ 16) ^^^ (if bitAt x 15 then 0x1021 else 0)) x) 0xFFFF

/-- The checksum of a component. -/
def planeSum (p : Plane) (depth : Nat) : Nat :=
  ((List.range p.samples.length).foldl (fun s i =>
    let v := p.samples.getD i 0
    let x := i % max 1 p.width
    let y := i / max 1 p.width
    let m := (x % 256) ^^^ (y % 256) ^^^ (x / 256) ^^^ (y / 256)
    s + ((v % 256) ^^^ m) + (if depth = 8 then 0 else (v / 256) ^^^ m)) 0) % 2 ^ 32

/-- Bytes of the hash of one component by a method of ENC_PBAND HASH: 1 MD5, 2 CRC, 3 checksum. -/
def hashLen (method : Nat) : Nat := if method = 1 then 16 else if method = 2 then 2 else 4

/-- The hash of one component by a method. -/
def planeHash (method depth : Nat) (p : Plane) : List Byte :=
  if method = 1 then md5 (p.bytes depth)
  else if method = 2 then bytesBE 2 (planeCrc (p.bytes depth))
  else bytesBE 4 (planeSum p depth)

end Sys2Proof.Machine
end

