-- ==== Sys2Proof/Machine/CodeGroup.lean ====
section
/-! DEFINITION. The 8b/10b code of the lanes (R361), the columns and markers of a lane group (R362, R363), and the PRBS
sequences (R382). The code-group tables are those of IEEE 802.3 Clause 36, which the specification names without repeating
them: PRESUMED (log entry 97). A code group is a number of ten bits, the first on the line most significant; a running
disparity is true when positive. -/

namespace Sys2Proof.Machine

/-- What one code group stands for: a byte of data, or a special code group by its byte. -/
inductive Sym where
  | data (b : Byte)
  | special (b : Byte)
  deriving DecidableEq, Repr

/-- The special code groups in use (R361): K28.5, K28.1, K27.7, K29.7, K30.7. -/
def symIdle : Sym := .special 0xBC#8
def symMark : Sym := .special 0x3C#8
def symStart : Sym := .special 0xFB#8
def symEnd : Sym := .special 0xFD#8
def symAbort : Sym := .special 0xFE#8
def specials : List Byte := [0xBC#8, 0x3C#8, 0xFB#8, 0xFD#8, 0xFE#8]

/-- The ones among the low `w` bits of a number. -/
def onesIn (w x : Nat) : Nat := ((List.range w).filter (bitAt x)).length

/-- Running disparity after a sub-block of `w` bits (Clause 36). -/
def rdAfter (w : Nat) (rd : Bool) (x : Nat) : Bool :=
  if w < 2 * onesIn w x then true
  else if 2 * onesIn w x < w then false
  else if w = 6 ∧ x = 0b000111 ∨ w = 4 ∧ x = 0b0011 then true
  else if w = 6 ∧ x = 0b111000 ∨ w = 4 ∧ x = 0b1100 then false
  else rd

/-- The 5b/6b sub-blocks at negative disparity, by value. -/
def sixTable : List Nat :=
  [0b100111, 0b011101, 0b101101, 0b110001, 0b110101, 0b101001, 0b011001, 0b111000,
   0b111001, 0b100101, 0b010101, 0b110100, 0b001101, 0b101100, 0b011100, 0b010111,
   0b011011, 0b100011, 0b010011, 0b110010, 0b001011, 0b101010, 0b011010, 0b111010,
   0b110011, 0b100110, 0b010110, 0b110110, 0b001110, 0b101110, 0b011110, 0b101011]

/-- The 3b/4b sub-blocks at negative disparity, of data and of special code groups. -/
def fourTable : List Nat := [0b1011, 0b1001, 0b0101, 0b1100, 0b1101, 0b1010, 0b0110, 0b1110]
def fourTableK : List Nat := [0b1011, 0b0110, 0b1010, 0b1100, 0b1101, 0b0101, 0b1001, 0b0111]

/-- A sub-block of `w` bits given for negative disparity, as it is at disparity `rd`: complemented at positive disparity where it
is unbalanced, or has its two halves apart. -/
def atDisparity (w : Nat) (rd : Bool) (x : Nat) : Nat :=
  if rd ∧ (2 * onesIn w x ≠ w ∨ w = 6 ∧ x = 0b111000 ∨ w = 4 ∧ x = 0b1100) then 2 ^ w - 1 - x else x

/-- The 6-bit sub-block of a value 0 to 31. -/
def sixOf (rd : Bool) (x : Nat) : Nat := atDisparity 6 rd (sixTable.getD x 0)

/-- The 4-bit sub-block of a data value `y` after the value `x`, with the alternate form of y = 7. -/
def fourOf (rd : Bool) (x y : Nat) : Nat :=
  if y = 7 ∧ rd = false ∧ (x = 17 ∨ x = 18 ∨ x = 20) then 0b0111
  else if y = 7 ∧ rd = true ∧ (x = 11 ∨ x = 13 ∨ x = 14) then 0b1000
  else atDisparity 4 rd (fourTable.getD y 0)

/-- The two sub-blocks as one code group. -/
def joinBlocks (six four : Nat) : Nat := six * 16 + four

/-- The code group of a symbol at a running disparity. -/
def codeGroup (rd : Bool) : Sym → Nat
  | .data b =>
    let x := b.toNat % 32
    let six := sixOf rd x
    joinBlocks six (fourOf (rdAfter 6 rd six) x (b.toNat / 32))
  | .special b =>
    let x := b.toNat % 32
    let six := if x = 28 then atDisparity 6 rd 0b001111 else sixOf rd x
    let four := fourTableK.getD (b.toNat / 32) 0
    joinBlocks six (if rdAfter 6 rd six then 15 - four else four)

/-- Running disparity after a code group. -/
def rdNext (rd : Bool) (w : Nat) : Bool := rdAfter 4 (rdAfter 6 rd (w / 16)) (w % 16)

/-- The symbol of a code group, `none` for a code violation (R361): a group that is not in the tables or has the wrong
disparity, or a special code group that is not in use. -/
def readGroup (rd : Bool) (w : Nat) : Option Sym :=
  let rd4 := rdAfter 6 rd (w / 16)
  let special := (specials.find? (fun b => codeGroup rd (.special b) == w)).map Sym.special
  match (List.range 32).find? (fun x => sixOf rd x == w / 16) with
  | some x =>
    match (List.range 8).find? (fun y => fourOf rd4 x y == w % 16) with
    | some y => some (.data (BitVec.ofNat 8 (32 * y + x)))
    | none => special
  | none => special

/-- The columns of a packet on a group of `n` lanes (R362): START, the body with zero pad bytes, END. -/
def bodyColumns (n : Nat) : Nat → List Byte → List (List Sym)
  | 0, _ => []
  | _ + 1, [] => []
  | k + 1, bs => ((bs.take n ++ List.replicate (n - bs.length) 0#8).map Sym.data) :: bodyColumns n k (bs.drop n)

def packetSyms (n : Nat) (bs : List Byte) : List (List Sym) :=
  List.replicate n symStart :: bodyColumns n bs.length bs ++ [List.replicate n symEnd]

/-- The alignment marker of a lane (R363): MARK, LANE, COUNT, CHECK. -/
def markerSyms (laneNo count : Nat) : List Sym :=
  let l : Byte := BitVec.ofNat 8 laneNo
  let n : Byte := BitVec.ofNat 8 count
  [symMark, .data l, .data n, .data (~~~(l ^^^ n))]

/-- The code groups of columns of symbols, from the running disparity of each lane. -/
def codeColumns : List Bool → List (List Sym) → List (List Nat)
  | _, [] => []
  | rds, col :: cols =>
    let ws := (rds.zip col).map (fun p => codeGroup p.1 p.2)
    ws :: codeColumns ((rds.zip ws).map (fun p => rdNext p.1 p.2)) cols

/-- The symbols of columns of code groups, from the running disparity of each lane. -/
def readColumns : List Bool → List (List Nat) → List (List (Option Sym))
  | _, [] => []
  | rds, col :: cols =>
    let ps := rds.zip col
    ps.map (fun p => readGroup p.1 p.2) :: readColumns (ps.map (fun p => rdNext p.1 p.2)) cols

/-- Columns without the alignment markers that stand between them (R363): a marker begins with MARK on the lanes. -/
def dropMarkers : Nat → List (List (Option Sym)) → List (List (Option Sym))
  | 0, cols => cols
  | _ + 1, [] => []
  | k + 1, col :: cols =>
    if col.contains (some symMark) then dropMarkers k (cols.drop 3) else col :: dropMarkers k cols

/-- A packet as a receiver rebuilds it: the body with its pad bytes, its columns, code violations in the columns of the first
16 bytes and elsewhere, and whether an ABORT or a START column cuts it off. A byte that is no data reads as zero. -/
structure RxBody where
  bytes : List Byte := []
  columns : Nat := 0
  head : Bool := false
  rest : Bool := false
  cut : Bool := false
  deriving DecidableEq, Repr

/-- The byte of a symbol in a packet's body. -/
def symByte : Option Sym → Byte
  | some (.data b) => b
  | _ => 0#8

def isData : Option Sym → Bool
  | some (.data _) => true
  | _ => false

/-- Every lane of a column holds a symbol. -/
def allAre (y : Sym) (col : List (Option Sym)) : Bool := !col.isEmpty && col.all (· == some y)

/-- The packet of columns that begin with a START column (R362, R366), `none` where they do not. The last column ends it. -/
def rxBody (n : Nat) (cols : List (List (Option Sym))) : Option RxBody :=
  match cols with
  | [] => none
  | first :: l =>
    if !allAre symStart first then none
    else
      let last := l.getLastD []
      let body := l.dropLast
      let heads := (16 + n - 1) / n
      let bad (cs : List (List (Option Sym))) : Bool := cs.any (fun c => !c.all isData)
      some { bytes := (body.map (·.map symByte)).flatten
             columns := body.length
             head := bad (body.take heads)
             rest := bad (body.drop heads) || !(allAre symEnd last || allAre symAbort last || allAre symStart last)
             cut := !allAre symEnd last }

/-! ### PRBS (R382) -/

/-- The two taps of a pattern. -/
def prbsTaps (pattern : Nat) : Nat × Nat :=
  match pattern with
  | 0 => (7, 6)
  | 1 => (15, 14)
  | 2 => (23, 18)
  | _ => (31, 28)

/-- ITU-T O.150 inverts PRBS15, PRBS23 and PRBS31; PRBS7 is not inverted (PRESUMED, log entry 97). -/
def prbsInverted (pattern : Nat) : Bool := pattern != 0

/-- The bit that follows the bits `h`, newest first, of a pattern; `none` where `h` is no part of the sequence: too short, or
the one run of equal bits that the sequence does not hold. -/
def prbsNext (pattern : Nat) (h : List Bool) : Option Bool :=
  let (a, b) := prbsTaps pattern
  let inv := prbsInverted pattern
  if h.length < a ∨ (h.take a).all (· == inv) then none
  else some ((h.getD (a - 1) false != h.getD (b - 1) false) != inv)

/-- What a PRBS checker holds beside PLOCK: the last bits, newest first (of the line while it is unlocked, of the sequence while
it is locked), the correct bits in a row, the errors among the last 64 bits, newest first. -/
structure Prbs where
  hist : List Bool := []
  run : Nat := 0
  errs : List Bool := []
  deriving DecidableEq, Repr

/-- The checker takes one line bit: its state, whether it is locked, bits compared and in error counted. -/
def prbsBit (pattern : Nat) (x : Prbs × Bool × Nat × Nat) (bit : Bool) : Prbs × Bool × Nat × Nat :=
  let (p, locked, n, e) := x
  let want := prbsNext pattern p.hist
  if locked then
    let wrong := want != some bit
    let errs := (wrong :: p.errs).take 64
    if 8 ≤ (errs.filter id).length then ({}, false, n + 1, e + b2n wrong)
    else ({ p with hist := (want.getD bit :: p.hist).take 31, errs := errs }, true, n + 1, e + b2n wrong)
  else
    let run := if want = some bit then p.run + 1 else 0
    let hist := (bit :: p.hist).take 31
    if 64 ≤ run then ({ hist := hist }, true, n, e) else ({ hist := hist, run := run }, false, n, e)

end Sys2Proof.Machine
end

