-- ==== Sys2Proof/Machine/StateUnit2.lean ====
section
/-! DEFINITION. The rest of a channel unit's state: timing unit and PTP port (13), serial lanes (14), audio
ports (15), memory controller (16), the host window's sink (R110), and what a unit sends to the hub, to the
umpire and to its pins. -/

namespace Sys2Proof.Machine

/-! ### Timing (13) -/

/-- The announced data set of a master (IEEE 1588-2019), with the port that sent it. -/
structure PtpMaster where
  prio1 : Nat
  clockClass : Nat
  accuracy : Nat
  variance : Nat
  prio2 : Nat
  identity : Nat
  steps : Nat
  port : Nat
  deriving DecidableEq, Repr

/-- A contest of two references (R348): the witness (255 for none) and whether it was left unresolved. -/
structure Contest where
  a : Nat
  b : Nat
  witness : Nat
  alarm : Bool := false
  deriving DecidableEq, Repr

/-- The timing unit beside its registers. -/
structure Timing where
  /-- device time in units of 2⁻⁴⁸ ns (R338, R340) -/
  fine : Nat := 0
  /-- frequency of device time in units of 2⁻¹⁶ ppb / 25,000,000, phase adjustments apart -/
  freq : Int := 0
  /-- frequency added by a phase adjustment (R352), in the same units -/
  extra : Int := 0
  /-- phase adjustment still to be spread, in 2⁻⁴⁸ ns -/
  padj : Int := 0
  /-- frequency held in HOLDOVER (R351), in the units of `freq` -/
  hold : Int := 0
  /-- absorbed offset A (R349), in 2⁻¹⁶ ns -/
  offset : Int := 0
  contests : List Contest := []
  /-- losers of contests that last: (loser, winner) -/
  losers : List (Nat × Nat) := []
  /-- references disqualified and not yet a whole window within SOFT again (R345) are simply not QUALIFIED;
  these have crossed SOFT since they were last within it -/
  drifted : List Nat := []
  /-- the last host sample: time written and device time captured, in 2⁻¹⁶ ns -/
  hostPrev : Option (Nat × Nat) := none
  /-- device times of the last PPS edges, newest first -/
  pps : List Nat := []
  /-- CUn_REFIN_10M is within 20 ppm of 10 MHz (R343) -/
  tenMeg : Bool := false
  losc : Bool := false
  lref : Bool := true
  /-- what device time has advanced by, steps apart, in 2⁻⁴⁸ ns since the unit reset, and its value at the ends of the last crystal
  second and of the one before (R428, RATIO) -/
  adv : Int := 0
  mark : Int × Int := (0, 0)
  /-- tick origin T0 of M1 and M4 (R353), in 2⁻¹⁶ ns, with the frame count f0 it counts from -/
  origin : Int := 0
  originFrame : Nat := 0
  /-- written low words of a host sample (HOSTTIME0, HOSTTIME1) -/
  host0 : Nat := 0
  host1 : Nat := 0
  /-- the mean loop frequency of the last whole window (R351), and the window being taken: sum and periods -/
  wmean : Option Int := none
  wsum : Int := 0
  wcnt : Nat := 0
  /-- crystal periods of 40 ns since the unit reset, and their count when the present state of R351 was entered -/
  age : Nat := 0
  entered : Nat := 0
  /-- by reference, that count when it last became selectable, while it is (R346) -/
  since : List (Option Nat) := List.replicate 5 none
  deriving DecidableEq, Repr

/-- The PTP port beside its registers (R355). -/
structure Ptp where
  /-- masters heard: data set, Announce messages within the window, crystal periods of the unit at the last -/
  foreign : List (PtpMaster × Nat × Nat) := []
  parent : Option PtpMaster := none
  /-- a Sync waiting for its Follow_Up: sequence, received time t2, correction -/
  sync : Option (Nat × Int × Int) := none
  /-- t1 with corrections, and t2, of the last whole Sync, in 2⁻¹⁶ ns -/
  t12 : Option (Int × Int) := none
  /-- a Delay_Req waiting for its Delay_Resp: sequence, transmitted time t3 -/
  dreq : Option (Nat × Int) := none
  /-- by master, the MAC and IP addresses that its last Announce came from -/
  stations : List (Nat × Nat × Nat) := []
  /-- crystal periods of the unit when the port began to listen for a master, and at the last accepted Sync and Delay_Resp
  (R342) -/
  listen : Nat := 0
  lastSync : Option Nat := none
  lastResp : Option Nat := none
  seqSync : Nat := 0
  seqDreq : Nat := 0
  seqAnn : Nat := 0
  deriving DecidableEq, Repr

/-! ### Serial lanes (14) -/

/-- A receiving lane beside its registers. -/
structure Lane where
  signal : Bool := false
  /-- COUNT of the last marker, once one was valid (R363) -/
  count : Option Nat := none
  /-- logical number that the lane's markers carry -/
  laneNo : Option Nat := none
  /-- lost under R376 since the group was aligned -/
  lost : Bool := false
  /-- equaliser settings (R381), and the age at their last update -/
  eq : List Nat := []
  adapted : Option Nat := none
  /-- age at which the bring-up step in progress began, and its timeout as LNK_TMO gave it then (R373), in crystal periods -/
  start : Nat := 0
  limit : Nat := 0
  /-- DWELL of the eye scan that runs (R383) -/
  dwell : Nat := 0
  prbs : Prbs := {}
  deriving DecidableEq, Repr

/-- The lanes of a unit: P-lanes 0 to 15 and the T-lane at index 16; ALIGN_LOST events since the unit reset
(R384); S-lanes whose transmitters have locked. -/
structure Lanes where
  lanes : List Lane := List.replicate 17 {}
  /-- by lane group, the line number of the last line packet whose header checked, and the device time at which it
  completed: the origin of M1 and M4 is laid on it (R353) -/
  heard : List (Nat × Nat × Nat) := []
  alignLost : Nat := 0
  txOn : List Nat := []
  deriving DecidableEq, Repr

/-! ### Audio (15) -/

/-- The frame-sync edge of a TDM frame: device time in 2⁻¹⁶ ns, and the line tick (R394). -/
structure AudEdge where
  time : Nat
  due : Nat
  deriving DecidableEq, Repr

/-- The pins of a transmit side during one TDM frame (R386, R387): data bits from slot 0, the bit clocks by which slot 0 follows
the frame-sync edge, the bit-clock edge on which they change, a master's frame sync: bit clocks at its active level, and that
level. -/
structure TdmWave where
  data : List Bool
  delay : Nat
  onRising : Bool
  sync : Option (Nat × Bool)
  deriving DecidableEq, Repr

/-- One side of an audio port beside its registers. -/
structure AudSide where
  fifo : List Word := []
  /-- the edge of the TDM frame in progress -/
  open_ : Option AudEdge := none
  /-- frame syncs of a master up to the last (R388) -/
  syncs : Nat := 0
  /-- position E of the frame being played or assembled (R394) -/
  e : Nat := 0
  pendingMask : Option Nat := none
  restart : Bool := false
  /-- a frame-sync error since the last stamp record -/
  fserr : Bool := false
  /-- the next stamp record carries ROTATED (R398), RESTART (R399), MASKCHG (R392) -/
  rotated : Bool := false
  restarted : Bool := false
  maskchg : Bool := false
  /-- frame syncs in a row 512 bit clocks apart while SEEKING -/
  good : Nat := 0
  /-- frame syncs in a row at one wrong count, with that count -/
  wrong : Nat := 0
  wrongAt : Nat := 0
  /-- device time of the last AUD_ROTATION event -/
  rotTime : Option Nat := none
  /-- a frame is stamped and counted: FCOUNT is the count of the last stamp record -/
  frames : Nat := 0
  /-- words lost beyond those LAG shows (LAG saturates) -/
  lag : Nat := 0
  deriving DecidableEq, Repr

/-! ### Memory controller (16) -/

/-- The memory controller beside its registers. `bad` lists the beats whose reads cannot be corrected with
their syndrome class, `soft` those that hold one bad symbol, with its number (R411, R412); `tokens` are the regulators' buckets in
hundredths of a byte, `owed` the beats that wait at a regulator (R408). -/
structure MemCtl where
  bad : List (Nat × Nat) := []
  soft : List (Nat × Nat) := []
  initialising : Bool := false
  /-- eighths that initialisation leaves as they are (R406) -/
  keep : Nat := 0
  /-- device times of the uncorrectable reads within the storm window -/
  errTimes : List Nat := []
  /-- corrections in the present scrub pass -/
  passCorr : Nat := 0
  lastLog : Option (Nat × Nat) := none
  /-- age in crystal periods at which the present scrub pass began, and its PERIOD in hours (R417) -/
  passStart : Nat := 0
  passHours : Nat := 24
  /-- next pseudo-channel to recalibrate, and the age at the last recalibration (R420) -/
  nextPc : Nat := 0
  recalAt : Nat := 0
  /-- stack temperature and age at the last copy of results to the umpire -/
  copyTemp : Int := 0
  copyTime : Nat := 0
  tokens : List Nat := List.replicate 8 26214400
  owed : List Nat := List.replicate 8 0
  deriving DecidableEq, Repr

/-- The host window's sink (R110): writes waiting (address, bytes), bytes held, writes received and drained. -/
structure Sink where
  writes : List (Nat × List Byte) := []
  held : Nat := 0
  received : Nat := 0
  drained : Nat := 0
  deriving DecidableEq, Repr

/-! ### What a unit sends outward -/

/-- A configuration record (R429): the active staged words that differ from their reset values. -/
structure ConfigRec where
  commit : Nat := 0
  active : RegFile := []
  deriving DecidableEq, Repr

/-- An AVSBus command (R48). -/
inductive AvsCmd where
  | voltageWrite (mv : Nat)
  | voltageRead
  | statusRead
  deriving DecidableEq, Repr

/-- Ordering attributes of a DMA request (R101). -/
structure DmaAttr where
  relaxed : Bool := false
  noSnoop : Bool := false
  deriving DecidableEq, Repr

/-- What appears outside the device: on the PCIe link, the lanes, the audio pins and the management bus. -/
inductive Output where
  /-- data of a register read -/
  | readData (w : Word)
  | configData (w : Nat)
  | bar2Data (bytes : List Byte) (poisoned : Bool)
  /-- Unsupported Request for a non-posted request on VC1 (R125) -/
  | unsupported
  /-- a DMA write of data to the buffer of a descriptor: engine, function of its Routing ID (R106), attributes (R101) -/
  | dmaWrite (engine fn : Nat) (attr : DmaAttr) (addr : Nat) (bytes : List Byte)
  /-- the 16 completion bytes of a descriptor, written in one write at its byte 0x30 (R114, R115), by a function -/
  | completion (ring fn addr : Nat) (bytes : List Byte)
  /-- a DMA read request: engine, function, attributes, address, length -/
  | dmaRead (engine fn : Nat) (attr : DmaAttr) (addr len : Nat)
  /-- an MSI-X write: function, vector, address, data (R121 to R123) -/
  | msix (fn vector addr data : Nat)
  /-- a packet that has left a path whole, with its columns (R362, R369) -/
  | packet (unit path : Nat) (p : Packet) (columns : List (List Sym))
  /-- a packet that ends in the abort form (R300), and one that electrical idle cuts off (R304), with the columns that left -/
  | abort (unit path : Nat) (seq : Nat) (columns : List (List Sym))
  | cut (unit path : Nat) (seq : Nat) (columns : List (List Sym))
  /-- what a transmitting lane (numbered as in R374) sends from now on (R371, R375): 0 electrical idle, 1 packets or 1000BASE-X,
  2 PRBS; with its rate code, its preset and its pattern -/
  | drive (unit lane sends rate preset pattern : Nat)
  /-- a frame of the T-lane, from its destination address to its FCS (R355) -/
  | frame (unit : Nat) (bytes : List Byte)
  /-- what a transmit side plays out in one TDM frame -/
  | tdm (unit port : Nat) (w : TdmWave)
  | mgt (bytes : List Byte)
  | mgtValue (v : Nat)
  | i3cInterrupt (mdb : Nat)
  | avs (rail : Nat) (c : AvsCmd)
  deriving DecidableEq, Repr

/-- A programme record of a scorecard with its parameter slot (R428). -/
structure ScoreProg where
  enabled : Bool := false
  departed : Bool := false
  epoch : Nat := 0
  sid : Nat := 0
  seq : Nat := 0
  depart : Nat := 0
  poc : Nat := 0
  frame : Nat := 0
  pos : Nat := 0
  psi : Nat := 0
  pics : Nat := 0
  bits : Nat := 0
  last : Nat := 0
  params : List Byte := []
  deriving DecidableEq, Repr

/-- A layer record of a scorecard (R428). -/
structure ScoreLayer where
  addr : Nat := 0
  pos : Nat := 0
  alpha : Nat := 0
  frame : Nat := 0
  deriving DecidableEq, Repr

/-- An audio record of a scorecard (R428). -/
structure ScoreAudio where
  mask : Nat := 0
  state : Nat := 0
  frames : Nat := 0
  words : Nat := 0
  deriving DecidableEq, Repr

/-- A scorecard (R426, R428). The umpire adds XCOUNT when it is taken. -/
structure Scorecard where
  unit : Nat := 0
  mode : Nat := 7
  number : Nat := 0
  commit : Nat := 0
  frame : Nat := 0
  tick : Nat := 0
  time : Nat := 0
  xcount : Nat := 0
  ratio : Nat := 0
  freq : Nat := 0
  offset : Int := 0
  t0 : Int := 0
  timState : Nat := 0
  progs : List ScoreProg := []
  layers : List ScoreLayer := []
  audio : List ScoreAudio := []
  deriving DecidableEq, Repr

/-- What an operation of a unit hands on, in order. -/
inductive Signal where
  | event (typ block arg0 arg1 : Nat)
  /-- a record for ring `ring` of the unit's ring page, the drop event that a full ring gives -/
  | record (ring : Nat) (bytes : List Byte)
  /-- a packet for a programme's host stream ring (R310) -/
  | hostPacket (prog ring : Nat) (bytes : List Byte)
  /-- the frame-input descriptor for a frame is taken: source, frame (R118) -/
  | take (source frame : Nat)
  | storm
  | scorecard (sc : Scorecard)
  | config (c : ConfigRec)
  /-- the admission verdict of the commit, for a substitution (R433): accepted, or the refusal code -/
  | verdict (code : Nat)
  | commitDone
  | initDone
  /-- the umpire is told of a retired row (R431): programme, picture, row -/
  | rowRetired (prog span : Nat)
  | training (temp : Int)
  | out (o : Output)
  deriving DecidableEq, Repr

end Sys2Proof.Machine
end

