-- ==== Sys2Proof/Machine/Chan.lean ====
section
/-! DEFINITION. A channel unit: its state, the reading and writing of its registers by the hardware, sticky
errors (R86, R93), events (R96, R97), device time (R338, R339) and the HBM (R402, R403, R406). -/

namespace Sys2Proof.Machine

/-- A channel unit (R13): what it holds while it is in RUN. A unit reset gives `Chan.init`, but for the HBM
eighths kept in PARKED (R52, R421). -/
structure Chan where
  /-- the unit's number, 0 to 4 -/
  num : Nat
  bank : RegBank := {}
  hbm : List (Nat × Byte) := []
  mem : MemCtl := {}
  sink : Sink := {}
  tim : Timing := {}
  ptp : Ptp := {}
  lanes : Lanes := {}
  /-- port j: receive side at 2j, transmit side at 2j + 1 -/
  aud : List AudSide := List.replicate 8 {}
  sched : Sched := {}
  sources : List Source := List.replicate 4 {}
  /-- layer l of context c at 8c + l -/
  layers : List Layer := List.replicate 32 {}
  comps : List Compose := List.replicate 4 {}
  rens : List Rendition := List.replicate 8 {}
  regions : List Region := List.replicate 16 {}
  progs : List Prog := List.replicate 8 {}
  paths : List PathSt := List.replicate 2 {}
  rx : RxStream := {}
  dec : Decoder := {}
  /-- the thermal ceiling's heldness and sensor records live with the umpire; luma coded since the last energy
  second (R459) -/
  luma : Nat := 0
  /-- line ticks since the unit reset (SCH_TICKS counts the same) -/
  ticks : Nat := 0
  /-- scorecards written since the unit reset (R428) -/
  scored : Nat := 0
  /-- the frame whose scorecard is still to be taken (R426) -/
  scoreDue : Option Nat := none
  /-- counter of free values -/
  free : Nat := 0
  outbox : List Signal := []
  deriving DecidableEq, Repr

/-- Unit n after a unit reset, HBM empty. -/
def Chan.init (n : Nat) : Chan := { num := n }

/-! ### Registers, as the hardware reads and writes them -/

/-- Value of a field of a live register or of an active copy. -/
def Chan.get (c : Chan) (f : Fld) : Nat := rfGet unitReset c.bank.regs f

/-- A one-bit field. -/
def Chan.flag (c : Chan) (f : Fld) : Bool := c.get f == 1

/-- A signed field. -/
def Chan.geti (c : Chan) (f : Fld) : Int := signedOf f.w (c.get f)

/-- Value of a field of a staged copy. -/
def Chan.getS (c : Chan) (f : Fld) : Nat := rfGet unitReset c.bank.staged f

/-- Set a field of a live register. -/
def Chan.set (c : Chan) (f : Fld) (v : Nat) : Chan :=
  { c with bank := { c.bank with regs := rfSet unitReset c.bank.regs f v } }

/-- Set a field to a two's complement value. -/
def Chan.seti (c : Chan) (f : Fld) (v : Int) : Chan := c.set f (patternOf f.w v)

/-- Add to a counter field, saturating. -/
def Chan.bump (c : Chan) (f : Fld) (n : Nat := 1) : Chan := c.set f (satAdd f.w (c.get f) n)

/-- Add to a counter field, modulo its width. -/
def Chan.inc (c : Chan) (f : Fld) (n : Nat := 1) : Chan := c.set f (c.get f + n)

/-- The word of entry `e`, index `i`, of a table (active copy), by the key of its IDX register. -/
def Chan.entry (c : Chan) (idxKey e i : Nat) : Nat :=
  (storeGet unitReset c.bank.regs (entryKey idxKey e i)).toNat

/-- Store a word of a table entry. -/
def Chan.setEntry (c : Chan) (idxKey e i v : Nat) : Chan :=
  { c with bank := { c.bank with
      regs := storeSet unitReset c.bank.regs (entryKey idxKey e i) (BitVec.ofNat 32 v) } }

/-! ### Signals, sticky errors, events -/

/-- Hand a signal on. -/
def Chan.emit (c : Chan) (x : Signal) : Chan := { c with outbox := c.outbox ++ [x] }

/-- Post an event of the unit (R97). -/
def Chan.post (c : Chan) (typ : Nat) (b : Block) (arg0 arg1 : Nat) : Chan :=
  c.emit (.event typ b.code (arg0 % 2 ^ 32) (arg1 % 2 ^ 32))

/-- BAR0 offset of an offset in unit `n`'s window (R76). -/
def bar0Unit (n off : Nat) : Nat := 0x01000000 + n * 0x00800000 + off

/-- xxx_ERR CODE, xxx_ERR_COUNT, xxx_ERR_INFO, xxx_INT_RAW and xxx_TIMEOUT LIMIT of a block (R84). -/
def errCode (b : Block) : Fld := ⟨b.common 0x030, 0, 16⟩
def errCount (b : Block) : Fld := ⟨b.common 0x034, 0, 32⟩
def errInfo (b : Block) : Fld := ⟨b.common 0x038, 0, 32⟩
def intRaw (b : Block) : Fld := ⟨b.common 0x020, 0, 32⟩
def intEn (b : Block) : Fld := ⟨b.common 0x024, 0, 32⟩
def blkLimit (b : Block) : Fld := ⟨b.common 0x03C, 0, 24⟩
def ctlView (b : Block) : Fld := ⟨b.common 0x010, 0, 1⟩

/-- Record an error in the common area of a block (R84, R86): the first error since CODE was last NONE is
kept, with the offset and the path of the access that set it, and every error is counted. -/
def Chan.err (c : Chan) (b : Block) (code off path : Nat) : Chan :=
  let c := c.bump (errCount b)
  if c.get (errCode b) = 0 then
    ((c.set (errCode b) code).set (errInfo b) (off + path * 2 ^ 26)).set (intRaw b)
      (setBitsOf (c.get (intRaw b)) 31 1 1)
  else c

/-- Sticky INPUT of a block: an external input failed its filter (R95), caused by no access (R84). -/
def Chan.input (c : Chan) (b : Block) : Chan := c.err b codeINPUT 0 7

/-! ### Device time (R338, R339) -/

/-- Units of 2⁻¹⁶ ns in one second. -/
def secUnits : Nat := 1000000000 * 65536

/-- The 96-bit value of a device time given in 2⁻¹⁶ ns (R339). -/
def time96 (t : Nat) : Nat :=
  (t / secUnits) % 2 ^ 48 * 2 ^ 48 + (t % secUnits) / 65536 * 2 ^ 16 + t % 65536

/-- The device time in 2⁻¹⁶ ns of a 96-bit value. -/
def timeOf96 (x : Nat) : Nat := bitsOf x 48 48 * secUnits + bitsOf x 16 30 * 65536 + bitsOf x 0 16

/-- A 96-bit value is a valid device time (R338, R339). -/
def time96Ok (x : Nat) : Bool := decide (bitsOf x 16 30 ≤ 999999999) && decide (bitsOf x 46 2 = 0)

/-- Device time in 2⁻¹⁶ ns. -/
def Timing.now (t : Timing) : Nat := t.fine / 2 ^ 32

/-- Device time of a unit in 2⁻¹⁶ ns. -/
def Chan.now (c : Chan) : Nat := c.tim.now

/-- The present line-tick position (R11), zero when the unit has no line tick. -/
def Chan.tick (c : Chan) : Nat :=
  match c.sched.raster with
  | some r => r.tick
  | none => 0

/-- The active mode of the unit. -/
def Chan.mode (c : Chan) : Nat := c.get Reg.SCH_MODE

/-! ### Free values -/

/-- Advance the counter of free values. -/
def Chan.draw (c : Chan) : Chan := { c with free := c.free + 1 }

/-- The next free number, before `draw`. -/
def Chan.freeNat (c : Chan) : Nat := Config.freeNat c.num c.free

/-- `n` free bytes, before `draw`. -/
def Chan.freeBytes (c : Chan) (n : Nat) : List Byte := (List.range n).map (Config.freeByte c.num c.free)

/-! ### HBM (R403, R406) -/

/-- What a byte of HBM reads as when nothing has written it since initialisation (R406). -/
def hbmReset (_ : Nat) : Byte := 0#8

/-- Bytes in a stack (R402). -/
def hbmSize : Nat := 0x600000000

/-- `n` bytes of HBM from address `a`. -/
def Chan.load (c : Chan) (a n : Nat) : List Byte := storeRange hbmReset c.hbm a n

/-- Write bytes from address `a`. -/
def Chan.store (c : Chan) (a : Nat) (bs : List Byte) : Chan := { c with hbm := storePut hbmReset c.hbm a bs }

def Chan.source (c : Chan) (i : Nat) : Source := c.sources.getD i {}
def Chan.layer (c : Chan) (x l : Nat) : Layer := c.layers.getD (8 * x + l) {}
def Chan.comp (c : Chan) (i : Nat) : Compose := c.comps.getD i {}
def Chan.prog (c : Chan) (p : Nat) : Prog := c.progs.getD p {}
def Chan.side (c : Chan) (j x : Nat) : AudSide := c.aud.getD (2 * j + x) {}
def Chan.lane (c : Chan) (k : Nat) : Lane := c.lanes.lanes.getD k {}

def Chan.modSource (c : Chan) (i : Nat) (f : Source → Source) : Chan := { c with sources := c.sources.modify i f }
def Chan.modLayer (c : Chan) (x l : Nat) (f : Layer → Layer) : Chan := { c with layers := c.layers.modify (8 * x + l) f }
def Chan.modComp (c : Chan) (i : Nat) (f : Compose → Compose) : Chan := { c with comps := c.comps.modify i f }
def Chan.modProg (c : Chan) (p : Nat) (f : Prog → Prog) : Chan := { c with progs := c.progs.modify p f }
def Chan.modSide (c : Chan) (j x : Nat) (f : AudSide → AudSide) : Chan := { c with aud := c.aud.modify (2 * j + x) f }
def Chan.modLane (c : Chan) (k : Nat) (f : Lane → Lane) : Chan :=
  { c with lanes := { c.lanes with lanes := c.lanes.lanes.modify k f } }
def Chan.modTim (c : Chan) (f : Timing → Timing) : Chan := { c with tim := f c.tim }
def Chan.modPtp (c : Chan) (f : Ptp → Ptp) : Chan := { c with ptp := f c.ptp }

/-- Is the unit's commit pending or accepted and not yet in effect (R92)? -/
def Chan.committing (c : Chan) : Bool :=
  let s := c.get Reg.SCH_COMMIT_STAT_STATE
  decide (s = 1) || decide (s = 2)

/-- Fold an operation over 0 to n - 1. -/
def forN {α : Type} (n : Nat) (f : Nat → α → α) (x : α) : α := (List.range n).foldl (fun y i => f i y) x

/-! ### Pictures and rows in the lists of a programme -/

def Prog.pic? (g : Prog) (s : Nat) : Option PicSt := g.pics.find? (fun q => q.serial == s)

def Prog.modPic (g : Prog) (s : Nat) (f : PicSt → PicSt) : Prog :=
  { g with pics := g.pics.map (fun q => if q.serial = s then f q else q) }

def Prog.row? (g : Prog) (s k : Nat) : Option RowSt := g.rows.find? (fun r => r.serial == s && r.row == k)

def Prog.modRow (g : Prog) (s k : Nat) (f : RowSt → RowSt) : Prog :=
  { g with rows := g.rows.map (fun r => if r.serial = s ∧ r.row = k then f r else r) }

def Prog.modRef (g : Prog) (s : Nat) (f : RefPic → RefPic) : Prog :=
  { g with refs := g.refs.map (fun r => if r.serial = s then f r else r) }

end Sys2Proof.Machine
end

