-- ==== Sys2Proof/Machine/Memory.lean ====
section
/-! DEFINITION. The memory controller (16_memory.md): the address map, reads and writes with their error
handling, the error log and the storm, initialisation, scrubbing, recalibration. -/

namespace Sys2Proof.Machine

/-- Key of MEM_MAP_IDX and of MEM_LOG_IDX. -/
def memMapIdx : Nat := 0x160100
def memLogIdx : Nat := 0x162100

/-- Parity of a number's set bits, among the lowest `n`. -/
def parityOf (n x : Nat) : Nat := (List.range n).foldl (fun p i => (p + bitsOf x i 1) % 2) 0

/-- Mapped bit `i` of an address (R404): the XOR of the address bits that mask `i` of the active map selects. -/
def memMapBit (c : Chan) (a i : Nat) : Nat :=
  let mask := c.entry memMapIdx i 0 + 2 ^ 32 * c.entry memMapIdx i 1
  parityOf 35 ((BitVec.ofNat 35 mask) &&& (BitVec.ofNat 35 a)).toNat

/-- Pseudo-channel of an address after mapping (R404). -/
def memPc (c : Chan) (a : Nat) : Nat :=
  (List.range 5).foldl (fun x i => x + memMapBit c a i * 2 ^ i) 0

/-- Bank of an address after mapping (R404). -/
def memBank (c : Chan) (a : Nat) : Nat :=
  (List.range 5).foldl (fun x i => x + memMapBit c a (5 + i) * 2 ^ i) 0

/-- The map rules of R404 for entry `e`: at most four bits, the home bit of the entry, none in 4:0, no home bit of
another entry. -/
def memMaskOk (e mask : Nat) : Bool :=
  let bits := (List.range 35).foldl (fun n i => n + bitsOf mask i 1) 0
  decide (bits ≤ 4) && bitAt mask (10 + e) && decide (mask % 32 = 0) &&
    (List.range 10).all (fun j => j == e || !bitAt mask (10 + j))

/-- Beat address of a byte address. -/
def beatOf (a : Nat) : Nat := a - a % 32

/-- Beats that `n` bytes from `a` touch. -/
def beatsOf (a n : Nat) : List Nat :=
  if n = 0 then []
  else (List.range ((a + n - 1) / 32 - a / 32 + 1)).map (fun i => beatOf a + 32 * i)

/-- Tokens, in hundredths of a byte, of the beats that `n` bytes from `a` touch: 32 bytes for each (R408). -/
def beatTokens (a n : Nat) : Nat := if n = 0 then 0 else 3200 * ((a + n - 1) / 32 - a / 32 + 1)

/-- `n` bytes from `a` move through a port (MEM_BYTESp); each beat takes 32 bytes of tokens of its regulator. A beat that finds none
is borrowed and takes none, or waits at the regulator (R408). -/
def memMoved (c : Chan) (p a n : Nat) : Chan :=
  let beats := beatTokens a n / 3200
  let paid := min beats (c.mem.tokens.getD p 0 / 3200)
  let waits := if c.flag (Reg.MEM_REG_BORROW p) then 0 else beats - paid
  { c.inc (Reg.MEM_BYTES_COUNT p) n with
    mem := { c.mem with
      tokens := c.mem.tokens.modify p (fun t => t - 3200 * paid), owed := c.mem.owed.modify p (fun w => w + waits) } }

/-- The regulator of a port lets `n` bytes from `a` pass (R408): no beat waits there, and it holds their tokens, or all that its
bucket can hold; or it may borrow the slots. -/
def memGrants (c : Chan) (p a n : Nat) : Bool :=
  c.flag (Reg.MEM_REG_BORROW p) || c.mem.owed.getD p 0 == 0 &&
    decide (min (beatTokens a n) (102400 * c.get (Reg.MEM_REG_BURST p)) ≤ c.mem.tokens.getD p 0)

/-- Units of 2⁻¹⁶ ns in one millisecond. -/
def msUnits : Nat := 1000000 * 65536

def ceilDiv (a b : Nat) : Nat := (a + b - 1) / b

/-! ### Reconstruction buffers (R252, R253, R257) -/

/-- Height of the coded picture: the rendition's, rounded up to a multiple of 8 (R228). -/
def ProgCfg.hc (g : ProgCfg) : Nat := ceilDiv g.hgt 8 * 8

/-- Bytes of one reconstruction buffer (R257): the pixel words of the coded picture, then a side field of 128 bytes for each
16×16 block of it. -/
def ProgCfg.reconBytes (g : ProgCfg) : Nat := g.w * g.hc * 6 + 128 * (ceilDiv g.w 16 * ceilDiv g.hc 16)

/-- The CTU of a programme's buffer that holds the byte at offset `o` of it. -/
def ProgCfg.ctuAt (g : ProgCfg) (o : Nat) : Nat :=
  let px := g.w * g.hc * 6
  if o < px then (o / 6 / g.w / g.h) * g.wc + o / 6 % g.w / g.h
  else
    let b := (o - px) / 128
    let bw := ceilDiv g.w 16
    (b / bw * 16 / g.h) * g.wc + b % bw * 16 / g.h

/-- CTU `x` of the reference picture `r` holds an uncorrectable error. While the picture is still being coded the CTU is
fugitive, if its own reconstruction is there (R240, case 3); once it is coded whole its map records the CTU, which what
is coded later treats as fugitive under R242 (R252, step 2). -/
def markCtu (g : Prog) (r : RefPic) (x : Nat) : Prog :=
  let open_ := (g.pic? r.serial).any (fun q => decide (q.coded < q.cfg.wc * q.cfg.rows))
  let add (l : List Nat) : List Nat := if l.contains x then l else l ++ [x]
  if open_ then
    if g.rows.any (fun w => w.serial == r.serial && w.ctus.any (fun k => k.addr == x)) then
      let g := (g.modPic r.serial (fun q => { q with fug := add q.fug })).modRef r.serial (fun r => { r with fug := add r.fug })
      { g with rows := g.rows.map (fun w => if w.serial = r.serial then { w with ctus := w.ctus.map (fun k =>
          if k.addr = x then { k with fug := true } else k) } else w) }
    else g
  else g.modRef r.serial (fun r => { r with marked := add r.marked })

/-- An uncorrectable error at address `a`, whoever reports it, marks the CTU that holds it in a picture still in a
reference list (R252, R253). -/
def markRefs (c : Chan) (a : Nat) : Chan :=
  forN 8 (fun p c =>
    let g := c.prog p
    let base := c.get (Reg.ENC_PRECON_ADDR p) * 4096
    let n := g.cfg.reconBytes
    if g.on ∧ g.cfg.mode ≠ 4 ∧ base ≤ a ∧ 0 < n then
      let x := g.cfg.ctuAt ((a - base) % n)
      match g.refs.find? (fun r => r.buffer == (a - base) / n) with
      | some r => c.modProg p (fun g => markCtu g r x)
      | none => c
    else c) c

/-- Errors within the sliding window that ends at time `t` (R416). -/
def stormCount (win t : Nat) (times : List Nat) : Nat := (times.filter (fun e => decide (e ≤ t) && decide (t < e + win))).length

/-- One uncorrectable read counts toward the storm (R416), repeats included. -/
def memStormCount (c : Chan) : Chan :=
  let now := c.now
  let win := c.get Reg.MEM_STORMCFG_STORMWIN * msUnits
  -- those of the window before are kept too, for the clearing of STORM
  let times := now :: c.mem.errTimes.filter (fun t => decide (now < t + 2 * win))
  let c : Chan := { c.bump Reg.MEM_UNCOR_COUNT with mem := { c.mem with errTimes := times } }
  if c.get Reg.MEM_STORMCFG_STORMN ≤ stormCount win now times ∧ ¬ c.flag Reg.MEM_STAT_STORM then
    (c.set Reg.MEM_STAT_STORM 1).emit .storm
  else c

/-- An uncorrectable error on the beat at `a` (R413 to R416): logged, or REPEAT of the newest entry raised when it
falls on the same beat within 1 ms of it. A CTU of a reference picture that it lies in is marked (R252, R253). -/
def memFail (c : Chan) (a port cls : Nat) : Chan :=
  let c := memStormCount (markRefs c a)
  let now := c.now
  let seq := c.get Reg.MEM_LOG_SEQ_NEXT
  let repeated : Bool := match c.mem.lastLog with
    | some (b, t) => decide (b = a) && decide (now < t + msUnits)
    | none => false
  if repeated then
    let e := (seq + 0xFFFFFFFF) % 64
    c.setEntry memLogIdx e 3 (satAdd 16 (c.entry memLogIdx e 3) 1)
  else
    let e := seq % 64
    let t := time96 now
    let c := c.setEntry memLogIdx e 0 a
    let c := c.setEntry memLogIdx e 1 (a / 2 ^ 32 + port * 2 ^ 8 + cls * 2 ^ 12 + memPc c a * 2 ^ 16 + memBank c a * 2 ^ 21)
    let c := c.setEntry memLogIdx e 2 (bitsOf a 20 15 + bitsOf a 5 5 * 2 ^ 16)
    let c := c.setEntry memLogIdx e 3 0
    let c := c.setEntry memLogIdx e 4 t
    let c := c.setEntry memLogIdx e 5 (t / 2 ^ 32)
    let c := c.setEntry memLogIdx e 6 (t / 2 ^ 64)
    let c := c.setEntry memLogIdx e 7 c.tick
    let c : Chan := { c.inc Reg.MEM_LOG_SEQ_NEXT with mem := { c.mem with lastLog := some (a, now) } }
    c.post 0x0701 .mem seq port

/-- The beat `b` cannot be corrected, with its syndrome class; it stays so until a whole-beat write (R413). -/
def memBreak (c : Chan) (b cls : Nat) : Chan :=
  { c with mem := { c.mem with
    soft := c.mem.soft.filter (fun e => e.1 != b)
    bad := if c.mem.bad.any (fun e => e.1 == b) then c.mem.bad else c.mem.bad ++ [(b, cls)] } }

/-- The bad symbols of a beat: those it held, and those of `k` (R411). -/
def memSymbols (c : Chan) (b : Nat) (k : BeatCheck) : List Nat :=
  ((c.mem.soft.filter (fun e => e.1 == b)).map (·.2) ++
    (k.errors.filter (fun e => decide (e.1 < 36) && e.2 != 0#8)).map (·.1)).eraseDups

/-- The syndrome class of a beat with those bad symbols, 0 where it can be corrected (R411, R413): one bad symbol is corrected, two
or more are detected, the address is folded into the check. DESIGN CHOICE (log entry 101): LINK comes before STACK, STACK before
DOUBLE, and a misplaced beat with a bad symbol is DOUBLE. -/
def beatClass (k : BeatCheck) (symbols : Nat) : Nat :=
  if k.parity then 4
  else if k.stackFailed then 3
  else if 2 ≤ symbols then 1
  else if k.misplaced then (if symbols = 0 then 2 else 1)
  else 0

/-- What has happened to one beat becomes state: it fails, or it holds one bad symbol. -/
def memBeat (c : Chan) (a : Nat) (k : BeatCheck) : Chan :=
  let b := beatOf a
  let syms := memSymbols c b k
  let c := if k.stackCorrected then c.bump Reg.MEM_ECC_STACKCORR else c
  let cls := beatClass k syms.length
  if cls ≠ 0 then memBreak c b cls
  else { c with mem := { c.mem with soft := c.mem.soft.filter (fun e => e.1 != b) ++ syms.map (fun i => (b, i)) } }

/-- What has happened to the beats that the controller reads. -/
def memFind (c : Chan) (checks : List (Nat × BeatCheck)) : Chan := checks.foldl (fun c e => memBeat c e.1 e.2) c

/-- The beats within `n` bytes from `a` that hold one bad symbol. -/
def memSoft (c : Chan) (a n : Nat) : List Nat := (beatsOf a n).filter (fun b => c.mem.soft.any (fun e => e.1 == b))

/-- Beats are corrected as they are read (R412): each is counted, and written back if `back`. -/
def memCorrect (c : Chan) (back : Bool) (beats : List Nat) : Chan :=
  if beats.isEmpty then c
  else
    let c := c.bump Reg.MEM_ECC_CORR beats.length
    if back then { c with mem := { c.mem with soft := c.mem.soft.filter (fun e => !beats.contains e.1) } } else c

/-- The failing beats within `n` bytes from `a`. -/
def memBad (c : Chan) (a n : Nat) : List (Nat × Nat) :=
  (beatsOf a n).filterMap (fun b => c.mem.bad.find? (fun e => e.1 == b))

/-- Handle a read of `n` bytes from `a` through `port` (R412, R413): beats with one bad symbol are corrected, and written back with
WBACK set; every failing beat is logged. -/
def memRead (c : Chan) (a n port : Nat) : Chan :=
  let c := memCorrect c (c.flag Reg.MEM_STAT_WBACK) (memSoft c a n)
  (memBad c a n).foldl (fun c e => memFail c e.1 port e.2) (memMoved c port a n)

/-- Does a read of `n` bytes from `a` meet a failing beat? -/
def memReadFails (c : Chan) (a n : Nat) : Bool := !(memBad c a n).isEmpty

/-- Write one piece of a beat (R414): a whole beat replaces a failing one; a partial write is merged with what a read corrects,
and one of a failing beat is discarded, logged and counted. -/
def memWritePiece (port : Nat) (c : Chan) (a : Nat) (bs : List Byte) : Chan :=
  let b := beatOf a
  match c.mem.bad.find? (fun e => e.1 == b) with
  | none =>
    let c := if bs.length = 32 then { c with mem := { c.mem with soft := c.mem.soft.filter (fun e => e.1 != b) } }
      else memCorrect c true (memSoft c a bs.length)
    c.store a bs
  | some (_, cls) =>
    if bs.length = 32 then
      ({ c with mem := { c.mem with bad := c.mem.bad.filter (fun e => e.1 != b) } } : Chan).store a bs
    else memFail c b port cls

/-- Split a write at beat boundaries: `k` bounds the number of beats. -/
def memWriteLoop (port : Nat) : Nat → Chan → Nat → List Byte → Chan
  | 0, c, _, _ => c
  | k + 1, c, a, bs =>
    match bs with
    | [] => c
    | _ =>
      let n := 32 - a % 32
      memWriteLoop port k (memWritePiece port c a (bs.take n)) (a + n) (bs.drop n)

/-- A write of bytes from `a` through `port` (R414). The controller accepts none while it initialises (R406). -/
def memWrite (c : Chan) (a port : Nat) (bs : List Byte) : Chan :=
  if c.mem.initialising then c
  else memWriteLoop port (bs.length / 32 + 2) (memMoved c port a bs.length) a bs

/-- Start initialisation (R406): every eighth not in `keep` reads zero from now on. -/
def memInit (c : Chan) (keep : Nat) : Chan :=
  let kept (a : Nat) : Bool := bitAt keep (a / 0xC0000000)
  { c.set Reg.MEM_STAT_INITDONE 0 with
    hbm := storeKeep kept c.hbm
    mem := { c.mem with
      initialising := true, keep := keep, bad := c.mem.bad.filter (fun e => kept e.1)
      soft := c.mem.soft.filter (fun e => kept e.1) } }

/-- Initialisation completes (R406). -/
def opInitDone (c : Chan) : Chan :=
  if c.mem.initialising then
    ({ c.set Reg.MEM_STAT_INITDONE 1 with mem := { c.mem with initialising := false } } : Chan).emit .initDone
  else c

/-- The scrubber moves to the next beat; at the end of the array the pass ends (R417). -/
def scrubNext (c : Chan) (a : Nat) : Chan :=
  if a + 32 < hbmSize then c.set Reg.MEM_SCRUB_POS_ADDR (a + 32)
  else
    let c := ((c.set Reg.MEM_SCRUB_POS_ADDR 0).inc Reg.MEM_SCRUB_PASSES_COUNT).post 0x0702 .mem c.mem.passCorr 0
    { c with mem := { c.mem with passCorr := 0, passStart := c.tim.age, passHours := c.get Reg.MEM_SCRUB_PERIOD } }

/-- Crystal periods of 40 ns in one hour. -/
def hourPeriods : Nat := 90000000000

/-- The next beat of the pass is due (R417): the pass reads the array's beats at one pace over PERIOD hours. -/
def scrubDue (c : Chan) : Bool :=
  decide (c.get Reg.MEM_SCRUB_POS_ADDR * (c.mem.passHours * hourPeriods) ≤ (c.tim.age - c.mem.passStart) * hbmSize)

/-- The scrubber reads its next beat (R417): a correction is written back, an uncorrectable beat is logged with
port 7 and left. Scrubbing is suspended during initialisation. -/
def opScrubBeat (k : BeatCheck) (c : Chan) : Chan :=
  if c.mem.initialising ∨ ¬ scrubDue c then c
  else
    let a := c.get Reg.MEM_SCRUB_POS_ADDR
    let c := memMoved (memFind c [(a, k)]) 7 a 32
    let fixed := memSoft c a 32
    let c := memCorrect c true fixed
    let n := fixed.length + b2n k.stackCorrected
    let c := if n = 0 then c else { c with mem := { c.mem with passCorr := c.mem.passCorr + n } }
    let c := (memBad c a 32).foldl (fun c e => memFail c e.1 7 e.2) c
    scrubNext c a

/-- The stack temperature in 0.1 °C, and the refresh rate that goes with it (R482). -/
def memTemp (t : Int) (c : Chan) : Chan :=
  (c.seti Reg.MEM_STAT_TEMP (t / 10)).set Reg.MEM_STAT_REFX (if t ≤ 850 then 0 else if t ≤ 950 then 1 else 2)

/-- Crystal periods of 40 ns in one millisecond. -/
def msPeriods : Nat := 25000

/-- One pseudo-channel is recalibrated, RECAL ms after the one before (R420): the results go to the umpire when the stack
temperature has moved by 5 °C or more since the last copy, and otherwise every 60 s. -/
def opRecalibration (temp : Int) (c : Chan) : Chan :=
  if c.tim.age < c.mem.recalAt + c.get Reg.MEM_RECAL * msPeriods then c
  else
    let c := memTemp (temp * 10) c
    let c : Chan := { c with mem := { c.mem with nextPc := (c.mem.nextPc + 1) % 32, recalAt := c.tim.age } }
    if 5 ≤ (temp - c.mem.copyTemp).natAbs ∨ c.mem.copyTime + 60000 * msPeriods ≤ c.tim.age then
      ({ c with mem := { c.mem with copyTemp := temp, copyTime := c.tim.age } } : Chan).emit (.training temp)
    else c

/-- The count has stayed below STORMN for a whole window (R416). -/
def opStormClear (c : Chan) : Chan :=
  let win := c.get Reg.MEM_STORMCFG_STORMWIN * msUnits
  let times := c.mem.errTimes
  let marks := (c.now - win) :: times.filter (fun t => decide (c.now < t + win))
  if c.flag Reg.MEM_STAT_STORM ∧ marks.all (fun t => decide (stormCount win t times < c.get Reg.MEM_STORMCFG_STORMN)) then
    c.set Reg.MEM_STAT_STORM 0
  else c

/-- Tokens accrue over one crystal period of 40 ns (R408), in hundredths of a byte; the beats that wait take theirs in order, or are
borrowed. -/
def memPass (c : Chan) : Chan :=
  let ports := List.range 8
  let full (p : Nat) : Nat :=
    min (c.mem.tokens.getD p 0 + 256 * c.get (Reg.MEM_REG_RATE p)) (102400 * c.get (Reg.MEM_REG_BURST p))
  let paid (p : Nat) : Nat := min (c.mem.owed.getD p 0) (full p / 3200)
  { c with mem := { c.mem with
    tokens := ports.map (fun p => full p - 3200 * paid p)
    owed := ports.map (fun p => if c.flag (Reg.MEM_REG_BORROW p) then 0 else c.mem.owed.getD p 0 - paid p) } }

/-- A commit from `o` to `n` changes a map entry (R405). -/
def mapChanges (o n : Chan) : Bool :=
  (List.range 10).any (fun e =>
    o.entry memMapIdx e 0 != n.entry memMapIdx e 0 || o.entry memMapIdx e 1 != n.entry memMapIdx e 1)

/-- What a commit does to the controller (R405, R406, R423); `o` is the unit with the configuration before. -/
def memCommit (o c : Chan) : Chan :=
  let changed := mapChanges o c
  let c : Chan := { c with mem := { c.mem with tokens := (List.range c.mem.tokens.length).map (fun p =>
      min (c.mem.tokens.getD p 0) (102400 * c.get (Reg.MEM_REG_BURST p))) } }
  if changed then memInit c 0 else c

/-- Load a map into both copies of MEM_MAP (R421, R433): the masks of the ten entries. -/
def memLoadMap (c : Chan) (words : List Nat) : Chan :=
  forN 20 (fun i c =>
    let k := entryKey memMapIdx (i / 2) (i % 2)
    let w := BitVec.ofNat 32 (words.getD i 0)
    { c with bank := { c.bank with
        regs := storeSet unitReset c.bank.regs k w
        staged := storeSet unitReset c.bank.staged k w } }) c

/-- The active map, as its twenty words. -/
def memMap (c : Chan) : List Nat := (List.range 20).map (fun i => c.entry memMapIdx (i / 2) (i % 2))

end Sys2Proof.Machine
end

