-- ==== Sys2Proof/Machine/Hevc.lean ====
section
/-! DEFINITION. HEVC syntax outside slice data: profile_tier_level (R227), VPS, SPS with VUI and HRD parameters (R228, R234,
R266), PPS (R231 to R233), SEI messages (R238, R267) and slice segment headers (R231, R233, R254). The layout is that of H.265
clause 7.3 and Annexes D and E (PRESUMED, log entry 91); the value of an element that the specification leaves to the encoder
is an unfixed constant. -/

namespace Sys2Proof.Machine

/-- An element whose value the specification leaves to the encoder: below `n`. -/
def pick (i n : Nat) : Nat := Config.syntaxChoice i % n

/-! ### The coded picture (R228) -/

/-- Luma samples per chroma sample, across and down. CHROMA: 0 4:4:4, 1 4:2:2, 2 4:2:0. -/
def ProgCfg.subW (g : ProgCfg) : Nat := if g.chroma = 0 then 1 else 2
def ProgCfg.subH (g : ProgCfg) : Nat := if g.chroma = 2 then 2 else 1

/-- chroma_format_idc. -/
def ProgCfg.chromaIdc (g : ProgCfg) : Nat := 3 - g.chroma

/-- Lines that the conformance window crops at the bottom. -/
def ProgCfg.crop (g : ProgCfg) : Nat := g.hc - g.hgt

/-- The conformance window: flag and offsets in chroma units (R228). -/
def windowBits (g : ProgCfg) : List Bool :=
  if g.crop = 0 then [false] else [true] ++ bitsUe 0 ++ bitsUe 0 ++ bitsUe 0 ++ bitsUe (g.crop / g.subH)

/-- The largest s up to 15 for which 2^s divides `v` (R266). -/
def scaleOf (v : Nat) : Nat := ((List.range 16).filter (fun s => v % 2 ^ s == 0)).getLast?.getD 0

/-- Bits of an address of one of `n` places: Ceil(Log2(n)). -/
def addrLen (n : Nat) : Nat := if n ≤ 1 then 0 else Nat.log2 (n - 1) + 1

/-! ### profile_tier_level (R227) -/

/-- general_profile_idc by PROFILE (R225). -/
def hevcProfileIdc (profile : Nat) : Nat := if profile = 0 then 1 else if profile = 1 then 2 else 4

/-- The constraint flags of a format range extensions profile: max_12bit, max_10bit, max_8bit, max_422chroma,
max_420chroma, max_monochrome. -/
def rextFlags (profile : Nat) : List Bool :=
  match profile with
  | 2 => [true, false, false, true, true, false]
  | 3 => [true, true, false, true, false, false]
  | 4 => [true, false, false, true, false, false]
  | 5 => [true, true, true, false, false, false]
  | 6 => [true, true, false, false, false, false]
  | 7 => [true, false, false, false, false, false]
  | _ => [false, false, false, false, false, false]

/-- profile_tier_level: 96 bits. general_progressive_source_flag 1, general_interlaced_source_flag 0; the intra constraint
flag is 1 in M4 where the profile defines it. -/
def hevcPtl (g : ProgCfg) : List Bool :=
  let idc := hevcProfileIdc g.profile
  bitsU 2 0 ++ [g.tier] ++ bitsU 5 idc ++
    (List.range 32).map (fun j => j == idc || (idc == 1 && j == 2)) ++
    [true, false, false, true] ++
    (if idc = 4 then rextFlags g.profile ++ [g.mode == 4 || g.profile == 8, false, g.profile != 8] ++ bitsU 34 0
     else bitsU 43 0) ++ [false] ++ bitsU 8 g.level

/-! ### VPS and SPS -/

/-- vps_max_dec_pic_buffering_minus1 4, no reordering, no latency increase (R234); the SPS has the same three. -/
def hevcDpb : List Bool := bitsUe 4 ++ bitsUe 0 ++ bitsUe 1

def hevcVps (g : ProgCfg) : List Bool :=
  bitsU 4 0 ++ [true, true] ++ bitsU 6 0 ++ bitsU 3 0 ++ [true] ++ bitsU 16 0xFFFF ++ hevcPtl g ++ [true] ++ hevcDpb ++
    bitsU 6 0 ++ bitsUe 0 ++ [false, false]

/-- hrd_parameters of the VUI (R266): nal_hrd_parameters_present_flag 1, vcl_hrd_parameters_present_flag 0,
sub_pic_hrd_params_present_flag 0, the scales and field lengths, fixed_pic_rate_general_flag 1,
elemental_duration_in_tc_minus1 0, cpb_cnt_minus1 0 and the one schedule. -/
def hevcHrd (g : ProgCfg) : List Bool :=
  let sr := scaleOf g.rateMax
  let sz := scaleOf g.size
  [true, false, false] ++ bitsU 4 sr ++ bitsU 4 sz ++ bitsU 5 31 ++ bitsU 5 23 ++ bitsU 5 7 ++ [true] ++ bitsUe 0 ++ bitsUe 0 ++
    bitsUe (g.rateMax / 2 ^ sr - 1) ++ bitsUe (g.size / 2 ^ sz - 1) ++ [g.cbr]

/-- vui_parameters (R234): video signal type with the colour description of ENC_PVUI, timing information with
num_units_in_tick DEN and time_scale NUM, HRD parameters. -/
def hevcVui (g : ProgCfg) : List Bool :=
  [false, false] ++ [true] ++ bitsU 3 (pick 0 8) ++ [g.full, true] ++ bitsU 8 g.prim ++ bitsU 8 g.trans ++ bitsU 8 g.matrix ++
    [false, false, false, false, false] ++ [true] ++ bitsU 32 g.den ++ bitsU 32 g.num ++ [false, true] ++ hevcHrd g ++ [false]

/-- The SPS: size and conformance window (R228), log2_max_pic_order_cnt_lsb 16 and the DPB (R234), CUs 64×64 to 8×8 and TBs
32×32 to 4×4, AMP and SAO on, PCM, scaling lists, long-term references and TMVP off, strong intra smoothing on (R233). -/
def hevcSps (g : ProgCfg) : List Bool :=
  bitsU 4 0 ++ bitsU 3 0 ++ [true] ++ hevcPtl g ++ bitsUe 0 ++ bitsUe g.chromaIdc ++ (if g.chroma = 0 then [false] else []) ++
    bitsUe g.w ++ bitsUe g.hc ++ windowBits g ++ bitsUe (g.depth - 8) ++ bitsUe (g.depth - 8) ++ bitsUe 12 ++ [true] ++ hevcDpb ++
    bitsUe 0 ++ bitsUe 3 ++ bitsUe 0 ++ bitsUe 3 ++ bitsUe (pick 1 5) ++ bitsUe (pick 2 5) ++
    [false, true, true, false] ++ bitsUe 0 ++ [false, false, true] ++ [true] ++ hevcVui g ++ [false]

/-! ### PPS (R231 to R233) -/

/-- The PPS: dependent_slice_segments_enabled_flag and entropy_coding_sync_enabled_flag are 1 with one tile column, sign data
hiding on, num_ref_idx_l0_default_active_minus1 REFS − 1, constrained_intra_pred_flag 1, transform skip on, one QP per CTU, no
weighted prediction, no transquant bypass, tiles_enabled_flag 0, pps_loop_filter_across_slices_enabled_flag 1. -/
def hevcPps (g : ProgCfg) : List Bool :=
  bitsUe 0 ++ bitsUe 0 ++ [g.tiles == 1, false] ++ bitsU 3 0 ++ [true, false] ++ bitsUe (g.refs - 1) ++ bitsUe 0 ++
    bitsSe ((pick 3 52 : Int) - 26) ++ [true, true, true] ++ bitsUe 0 ++ bitsSe ((pick 4 25 : Int) - 12) ++
    bitsSe ((pick 5 25 : Int) - 12) ++ [false, false, false, false, false, g.tiles == 1, true, false, false, false] ++
    bitsUe (pick 6 5) ++ [false, false]

/-! ### SEI messages (R238, R267) -/

/-- Buffering period: irap_cpb_params_present_flag 0, concatenation_flag, au_cpb_removal_delay_delta_minus1 0, the initial CPB
removal delay and offset 0. -/
def hevcBp (concat : Bool) (delay : Nat) : List Bool :=
  bitsUe 0 ++ [false, concat] ++ bitsU 24 0 ++ bitsU 32 delay ++ bitsU 32 0

/-- Picture timing: au_cpb_removal_delay_minus1, pic_dpb_output_delay 0. -/
def hevcPt (delay : Nat) : List Bool := bitsU 24 delay ++ bitsU 8 0

/-- Recovery point: recovery_poc_cnt, exact_match_flag 0, broken_link_flag 0. -/
def hevcRp (count : Nat) : List Bool := bitsSe count ++ [false, false]

/-! ### Slice segment headers -/

/-- The picture is an IDR picture: every picture of M4 (R255), a start picture of HEVC (R254). -/
def PicSt.idr (q : PicSt) : Bool := q.cfg.mode == 4 || (q.kind == .start && !q.cfg.vvc)

/-- Differences of a reference list's entries: each from the one before it, the first from the picture. -/
def steps : Nat → List Nat → List Nat
  | _, [] => []
  | p, d :: l => (d - p) :: steps d l

/-- st_ref_pic_set, coded in the slice header: negative pictures only. -/
def hevcRps (deltas : List Nat) : List Bool :=
  bitsUe deltas.length ++ bitsUe 0 ++ (steps 0 deltas).flatMap (fun d => bitsUe (d - 1) ++ [true])

/-- The header of the slice segment of row `k`, tile column `t`, whose first CTU column is `x`, with the QP of its first CTU. A
later row's segment with one tile column is dependent (R231). -/
def hevcSlice (q : PicSt) (k x : Nat) (qp : Int) : List Bool :=
  let g := q.cfg
  let a := k * g.wc + x
  let dep := g.tiles == 1 && k != 0
  let addr := if a = 0 then [] else (if g.tiles = 1 then [dep] else []) ++ bitsU (addrLen (g.wc * g.rows)) a
  let refs : List Bool := if q.idr then []
    else bitsU 16 (q.poc % 2 ^ 16) ++ [false] ++ hevcRps q.deltas
  let body : List Bool := if dep then []
    else bitsUe (if q.idr then 2 else 1) ++ refs ++ [true, true] ++
      (if q.idr then [] else
        (if q.deltas.length = g.refs then [false] else [true] ++ bitsUe (q.deltas.length - 1)) ++ bitsUe 0) ++
      bitsSe (qp - 26 - ((pick 3 52 : Int) - 26)) ++ [true]
  [a == 0] ++ (if q.idr then [false] else []) ++ bitsUe 0 ++ addr ++ body ++ (if g.tiles = 1 then bitsUe 0 else [])

end Sys2Proof.Machine
end

