-- ==== Sys2Proof/Machine/Vvc.lean ====
section
/-! DEFINITION. VVC syntax outside slice data: profile, tier and level (R227), SPS with HRD parameters and VUI (R228, R234,
R266), PPS (R231 to R233), SEI messages (R267), picture header (R238, R254) and slice headers (R231). The layout is that of
H.266 clause 7.3 and H.274 (PRESUMED, log entry 91); the value of an element that the specification leaves to the encoder is
an unfixed constant. -/

namespace Sys2Proof.Machine

/-- profile_tier_level: profile, tier, level; frame-only; no constraint information, no sub-profile. -/
def vvcPtl (g : ProgCfg) : List Bool :=
  bitsU 7 (if g.profile = 0 then 1 else 33) ++ [g.tier] ++ bitsU 8 g.level ++ [true, false] ++
    [false] ++ bitsU 5 0 ++ bitsU 8 0

/-- Timing and HRD parameters of the SPS (R266): num_units_in_tick DEN, time_scale NUM, general_nal_hrd_params_present_flag 1,
general_vcl_hrd_params_present_flag 0, general_du_hrd_params_present_flag 0, hrd_cpb_cnt_minus1 0; fixed_pic_rate_general_flag
1, elemental_duration_in_tc_minus1 0, and the one schedule. -/
def vvcHrd (g : ProgCfg) : List Bool :=
  let sr := scaleOf g.rateMax
  let sz := scaleOf g.size
  bitsU 32 g.den ++ bitsU 32 g.num ++ [true, false, true, false] ++ bitsU 4 sr ++ bitsU 4 sz ++ bitsUe 0 ++
    [true] ++ bitsUe 0 ++ bitsUe (g.rateMax / 2 ^ sr - 1) ++ bitsUe (g.size / 2 ^ sz - 1) ++ [g.cbr]

/-- The VUI payload: progressive source, no interlaced source (R227), colour description of ENC_PVUI (R234). -/
def vvcVui (g : ProgCfg) : List Bool :=
  payloadBits ([true, false, true, true, false, false, true] ++ bitsU 8 g.prim ++ bitsU 8 g.trans ++ bitsU 8 g.matrix ++
    [g.full, false])

/-- Limits of the block partitioning, for an intra or inter slice: quadtree leaf, depth of the multi-type tree, and the sizes
at which its splits begin. -/
def vvcTree (i : Nat) : List Bool :=
  let d := pick (i + 1) 4
  bitsUe (pick i 6) ++ bitsUe d ++ (if d = 0 then [] else bitsUe (pick (i + 2) 6) ++ bitsUe (pick (i + 3) 6))

/-- Tools of the SPS from the transform to dependent quantisation (R233): 64-point transforms, MTS, LFNST, joint Cb-Cr, SAO,
ALF and CC-ALF on; transform skip, LMCS, weighted prediction, long-term references, wrap-around, TMVP, AMVR, BDOF, SMVD, DMVR,
MMVD, SBT, affine, BCW, CIIP, GPM off; six merge candidates; ISP, MRL, MIP and CCLM on; palette, IBC, LADF, scaling lists off;
dependent quantisation on, sign hiding and virtual boundaries off. -/
def vvcTools (g : ProgCfg) : List Bool :=
  [true, false, true, true, true, true, true] ++
    [true] ++ bitsSe ((pick 30 52 : Int) - 26) ++ bitsUe 0 ++ bitsUe (pick 31 2) ++ bitsUe (pick 32 2) ++
    [true, true, true, false, false, false, false] ++ [false, true] ++ bitsUe 0 ++
    [false, false, false, false, false, false, false] ++ bitsUe 0 ++ [false, false, false, false, false] ++ bitsUe (pick 33 6) ++
    [true, true, true, true] ++ (if g.chroma = 2 then [pick 34 2 == 1, pick 35 2 == 1] else []) ++
    [false, false, false, false, true, false, false]

/-- The SPS: CTUs of 128×128, sps_gdr_enabled_flag 1, no reference picture resampling, size and conformance window (R228), no
wavefront synchronisation, entry points present, log2_max_pic_order_cnt_lsb 16, a DPB of five pictures (R234). -/
def vvcSps (g : ProgCfg) : List Bool :=
  let vui := vvcVui g
  let fixed : List Bool :=
    bitsU 4 0 ++ bitsU 4 0 ++ bitsU 3 0 ++ bitsU 2 g.chromaIdc ++ bitsU 2 2 ++ [true] ++ vvcPtl g ++ [true, false] ++
      bitsUe g.w ++ bitsUe g.hc ++ windowBits g ++ [false] ++ bitsUe (g.depth - 8) ++ [false, true] ++ bitsU 4 12 ++ [false] ++
      bitsU 2 0 ++ bitsU 2 0 ++ bitsUe 4 ++ bitsUe 0 ++ bitsUe 1 ++ bitsUe 0 ++ [false] ++ vvcTree 10 ++ [true] ++ vvcTree 14 ++
      vvcTree 18 ++ vvcTools g ++ [true] ++ vvcHrd g ++ [false, true] ++ bitsUe (vui.length / 8 - 1)
  fixed ++ List.replicate (padOf fixed.length) false ++ vui ++ [false]

/-- The PPS: T tile columns of the widths of "Slices and tile columns", tile rows one CTU high, raster-scan slices (R231), the
loop filters across tiles and slices on (R232), REFS references, one QP per CTU, reference lists in the picture header. -/
def vvcPps (g : ProgCfg) : List Bool :=
  let width (t : Nat) : Nat := (t + 1) * g.wc / g.tiles - t * g.wc / g.tiles
  bitsU 6 0 ++ bitsU 4 0 ++ [false] ++ bitsUe g.w ++ bitsUe g.hc ++ [false, false, false, false, false] ++ bitsU 2 2 ++
    bitsUe (g.tiles - 1) ++ bitsUe 0 ++ (List.range g.tiles).flatMap (fun t => bitsUe (width t - 1)) ++ bitsUe 0 ++
    (if g.rows * g.tiles = 1 then [] else [true, false]) ++ [true] ++ [false] ++ bitsUe (g.refs - 1) ++ bitsUe 0 ++
    [false, false, false, false] ++ bitsSe ((pick 36 52 : Int) - 26) ++ [true, false, false, true, false, false, false] ++
    [false, false, false]

/-- Buffering period: NAL parameters alone, the field lengths of R266, bp_concatenation_flag,
bp_cpb_removal_delay_delta_minus1 0, the initial CPB removal delay and offset 0. -/
def vvcBp (concat : Bool) (delay : Nat) : List Bool :=
  [true, false] ++ bitsU 5 31 ++ bitsU 5 23 ++ bitsU 5 7 ++ [false, concat, false] ++ bitsU 24 0 ++ bitsU 3 0 ++ bitsUe 0 ++
    bitsU 32 delay ++ bitsU 32 0 ++ [false]

/-- Picture timing: pt_cpb_removal_delay_minus1, pt_dpb_output_delay 0. -/
def vvcPt (delay : Nat) : List Bool := bitsU 24 delay ++ bitsU 8 0 ++ bitsU 8 0

/-- The picture is a GDR picture: a start picture or a cycle start of VVC (R238, R254). -/
def PicSt.gdr (q : PicSt) : Bool := q.cfg.vvc && q.cfg.mode != 4 && (q.kind == .start || q.cycleStart)

/-- ref_pic_list_struct of list 0; list 1 has no entry. -/
def vvcLists (deltas : List Nat) : List Bool :=
  bitsUe deltas.length ++ (steps 0 deltas).flatMap (fun d => bitsUe (d - 1) ++ [false]) ++ bitsUe 0

/-- The picture header: ph_gdr_pic_flag, slice types, POC, ph_recovery_poc_cnt `rec`, reference lists, CTU-wide QP. -/
def vvcPh (q : PicSt) (rec : Nat) : List Bool :=
  let rap := q.gdr || q.idr
  [rap, false] ++ (if rap then [q.gdr] else []) ++ (if q.idr then [false] else [true, false]) ++ bitsUe 0 ++
    bitsU 16 (q.poc % 2 ^ 16) ++ (if q.gdr then bitsUe rec else []) ++ (if q.idr then [] else vvcLists q.deltas) ++ bitsUe 0 ++
    [pick 37 2 == 1]

/-- The header of the slice of row `k`: its first tile, its T tiles, filters by free choice, the QP of its first CTU,
dependent quantisation, and the sizes in bytes of all tiles but the last (R231). -/
def vvcSlice (q : PicSt) (k : Nat) (qp : Int) (sizes : List Nat) : List Bool :=
  let g := q.cfg
  let n := g.rows * g.tiles
  let len := sizes.foldl (fun m s => max m (addrLen s)) 1
  [false] ++ (if n = 1 then [] else bitsU (addrLen n) (k * g.tiles)) ++
    (if n - k * g.tiles > 1 then bitsUe (g.tiles - 1) else []) ++ (if q.idr then [] else bitsUe 1) ++
    (if q.idr || q.gdr then [false] else []) ++ (if pick 38 2 = 1 then true :: bitsU 7 0 else [false]) ++
    (if !q.idr && 1 < q.deltas.length then [false] else []) ++ bitsSe (qp - 26 - ((pick 36 52 : Int) - 26)) ++ [true, true] ++
    [true] ++ (if sizes.isEmpty then [] else bitsUe (len - 1) ++ sizes.flatMap (fun s => bitsU len (s - 1)))

end Sys2Proof.Machine
end

