-- ==== Sys2Proof/Machine/AccessUnit.lean ====
section
/-! DEFINITION. Access units (R236): NAL unit types (R238, R254, R255), parameter sets and when they are sent, prefix SEI
messages (R267), access unit delimiter, picture header, decoded picture hash, filler data (R265), the slice NAL units of a
row with the charges of R275, and the largest overhead of a configuration (R282). Each SEI message has a NAL unit of its own
(DEDUCED, log entry 91). -/

namespace Sys2Proof.Machine

/-! ### NAL unit types -/

/-- The type of a picture's slice NAL units: HEVC IDR_N_LP 20, TRAIL_R 1; VVC IDR_N_LP 8, GDR_NUT 10, TRAIL_NUT 0. -/
def PicSt.nalType (q : PicSt) : Nat :=
  if q.cfg.vvc then (if q.idr then 8 else if q.gdr then 10 else 0) else if q.idr then 20 else 1

/-- Prefix SEI, suffix SEI, access unit delimiter, and FD_NUT as R265 numbers it (38 in HEVC, 23 in VVC). -/
def nutPrefix (vvc : Bool) : Nat := if vvc then 23 else 39
def nutSuffix (vvc : Bool) : Nat := if vvc then 24 else 40
def nutAud (vvc : Bool) : Nat := if vvc then 20 else 35
def nutFiller (vvc : Bool) : Nat := if vvc then 23 else 38

/-! ### Parameter sets (R228, R234, R236) -/

/-- VPS (HEVC) and SPS. -/
def setsOf (g : ProgCfg) : List Byte :=
  if g.vvc then nalBits true 15 (vvcSps g) else nalBits false 32 (hevcVps g) ++ nalBits false 33 (hevcSps g)

/-- PPS. -/
def ppsOf (g : ProgCfg) : List Byte := if g.vvc then nalBits true 16 (vvcPps g) else nalBits false 34 (hevcPps g)

/-- Offset of the last start code in a run of bytes; `i` is the offset of the first byte given. -/
def lastStart : Nat → List Byte → Nat
  | _, [] => 0
  | i, b :: l => max (lastStart (i + 1) l) (if (b :: l).take 4 = startCode then i else 0)

/-- Parameter sets taken over from a scorecard: VPS and SPS, and the PPS that ends them (R437). -/
def splitSets (bs : List Byte) : List Byte × List Byte := let i := lastStart 0 bs; (bs.take i, bs.drop i)

/-- The picture carries the parameter sets: each start picture, cycle start and first bench picture, every picture of M4. -/
def PicSt.hasSets (q : PicSt) : Bool := q.kind == .start || q.kind == .bench || q.cycleStart || q.cfg.mode == 4

/-- The picture carries a buffering period SEI message: it starts a ledger, or is a cycle start, or is of M4 (R267). -/
def PicSt.hasBp (q : PicSt) : Bool := q.n == 0 || q.cycleStart || q.cfg.mode == 4

/-! ### What goes before the slices -/

/-- The access unit delimiter (R236, item 1). -/
def audNal (q : PicSt) : List Byte :=
  let typ := bitsU 3 (if q.idr then 0 else 1)
  nalBits q.cfg.vvc (nutAud q.cfg.vvc) (if q.cfg.vvc then (q.gdr || q.idr) :: typ else typ)

/-- The CPB removal delay minus 1 of a picture's picture timing (R267). -/
def PicSt.delay (q : PicSt) (lastBp : Nat) : Nat := if q.n = 0 ∨ q.cfg.mode = 4 then 0 else q.n - lastBp - 1

/-- The initial CPB removal delay: floor(90,000 × lim(n) / Rs) (R267). -/
def PicSt.initDelay (q : PicSt) : Nat := 90000 * q.lim.toNat / max 1 (q.cfg.rateMax * 64)

/-- The recovery count of a picture: N for a start picture of VVC, N − 1 for a cycle start (R238, R254). -/
def PicSt.recovery (q : PicSt) : Nat := if q.kind = .start then q.cfg.cycle else q.cfg.cycle - 1

/-- The prefix SEI messages (R236, item 3): buffering period, picture timing, and in HEVC the recovery point of a cycle
start. -/
def prefixSei (q : PicSt) (lastBp : Nat) : List Byte :=
  let v := q.cfg.vvc
  let sei (typ : Nat) (p : List Bool) : List Byte := nalBits v (nutPrefix v) (seiBits typ p)
  let bench := q.kind == .bench
  (if q.hasBp then sei 0 (if v then vvcBp bench q.initDelay else hevcBp bench q.initDelay) else []) ++
    sei 1 (if v then vvcPt (q.delay lastBp) else hevcPt (q.delay lastBp)) ++
    (if !v && q.cycleStart then sei 6 (hevcRp q.recovery) else [])

/-- Items 1 to 4 of R236: delimiter, parameter sets (`sets`, `pps`) or a changed PPS alone, prefix SEI, picture header. -/
def headBytes (q : PicSt) (sets pps : List Byte) (ppsDue : Bool) (lastBp : Nat) : List Byte :=
  (if q.cfg.aud then audNal q else []) ++
    (if q.hasSets then sets ++ pps else if ppsDue then pps else []) ++ prefixSei q lastBp ++
    (if q.cfg.vvc then nalBits true 19 (vvcPh q q.recovery) else [])

/-! ### Suffix SEI and filler -/

/-- Bits of a decoded picture hash message before the hashes: the method, and in VVC one reserved byte more. -/
def hashHead (g : ProgCfg) : List Bool := bitsU 8 (g.hash - 1) ++ (if g.vvc then bitsU 8 0 else [])

/-- The suffix SEI message (R236, item 6) over the three components of the decoded picture. -/
def hashNal (g : ProgCfg) (planes : List Plane) : List Byte :=
  if g.hash = 0 then []
  else nalBits g.vvc (nutSuffix g.vvc) (seiBits 132 (hashHead g ++ bitsOfBytes (planes.flatMap (planeHash g.hash g.depth))))

/-- The most bytes that the hash message can take: its emulation prevention bytes are not known before the picture is. -/
def hashMost (g : ProgCfg) : Nat :=
  if g.hash = 0 then 0 else nalMost (2 + (hashHead g).length / 8 + 3 * hashLen g.hash + 1)

/-- A filler data NAL unit of `n` bytes in all (R265): start code, header, bytes 0xFF, one byte 0x80. -/
def fillerNal (vvc : Bool) (n : Nat) : List Byte :=
  if n = 0 then [] else startCode ++ nalHeader vvc (nutFiller vvc) ++ List.replicate (n - 7) 0xFF#8 ++ [0x80#8]

/-! ### Slices (R231, R275) -/

/-- Bits of R275 of the bytes that a CTU completes after `z` zero bytes, with its emulation prevention bytes and its
cabac_zero_words. -/
def tallyOf (z : Nat) (bs : List Byte) (zeroWords : Nat) : Nat := 8 * ((escapeFrom z bs).length + 3 * zeroWords)

/-- The longest run of the bytes of a form whose tally is within a bound (R246). -/
def fitForm (z bound : Nat) (bs : List Byte) : List Byte :=
  bs.take (((List.range (bs.length + 1)).filter (fun n => tallyOf z (bs.take n) 0 ≤ bound)).getLast?.getD 0)

/-- cabac_zero_words after a slice, with their emulation prevention bytes. -/
def zeroWordBytes (n : Nat) : List Byte := (List.replicate n [0#8, 0#8, 3#8]).flatten

/-- The slice NAL units of a row: HEVC has one for each tile column, VVC one for all of them with its entry points. `ctus` are
the coded CTUs of each tile column in order. -/
def rowNals (q : PicSt) (k : Nat) (ctus : List (List CtuRec)) : List Byte :=
  let data (l : List CtuRec) : List Byte := l.flatMap (·.data)
  let words (l : List CtuRec) : Nat := l.foldl (fun n x => n + x.zeroWords) 0
  let qp (l : List CtuRec) : Int := (l.head?.map (·.qp)).getD 0
  let col (l : List CtuRec) : Nat := (l.head?.map (fun x => x.addr % max 1 q.cfg.wc)).getD 0
  if q.cfg.vvc then
    let sizes := ctus.dropLast.map (fun l => (escapeFrom 0 (data l)).length)
    nalOf true q.nalType (bytesOfBits (trailed (vvcSlice q k (qp (ctus.getD 0 [])) sizes)) ++ ctus.flatMap data) ++
      zeroWordBytes (words (ctus.getLast?.getD []))
  else ctus.flatMap (fun l =>
    nalOf false q.nalType (bytesOfBits (trailed (hevcSlice q k (col l) (qp l))) ++ data l) ++ zeroWordBytes (words l))

/-! ### The largest overhead (R282) -/

/-- Every NAL unit of R270 that a picture of the configuration can carry together, every variable field at its longest coding
and every possible emulation prevention byte counted, in bits. -/
def maxOver (g : ProgCfg) : Nat :=
  let v := g.vvc
  let nal (bs : List Bool) : Nat := nalMost (rbspLen bs)
  let sei (typ : Nat) (p : List Bool) : Nat := nal (seiBits typ p)
  let long (n : Nat) : List Nat := (List.range n).map (fun i => (i + 1) * 65536)
  let q : PicSt := { serial := 0, frame := 0, cfg := g, cycleStart := g.mode != 4, deltas := long (max 1 g.refs) }
  8 * ((if g.aud then nalMost 1 else 0) +
    (if v then nal (vvcSps g) + nal (vvcPps g) else nal (hevcVps g) + nal (hevcSps g) + nal (hevcPps g)) +
    (if v then sei 0 (vvcBp false 0) + sei 1 (vvcPt 0) + nal (vvcPh q g.cycle)
     else sei 0 (hevcBp false 0) + sei 1 (hevcPt 0) + (if g.mode = 4 then 0 else sei 6 (hevcRp (g.cycle - 1)))) + hashMost g)

end Sys2Proof.Machine
end

