-- ==== Sys2Proof/Machine/Audio.lean ====
section
/-! DEFINITION. The audio ports (15_audio_ports.md). Side 0 of a port receives, side 1 transmits. -/

namespace Sys2Proof.Machine

/-- The active slots of a mask, in slot order (R391). -/
def maskSlots (m : Nat) : List Nat := (List.range 16).filter (fun s => bitAt m s)

/-- HBM address of word `w` of a side's ring (R392 above: entry w mod 2^LOG2). -/
def audWordAddr (c : Chan) (j x w : Nat) : Nat :=
  c.get (Reg.AUD_RING_ADDR j x) * 64 + 4 * (w % 2 ^ c.get (Reg.AUD_SIZE_LOG2 j x))

/-- The sample rate of a side in Hz (RATE). -/
def audRate (c : Chan) (j x : Nat) : Nat := if c.flag (Reg.AUD_CFG_RATE j x) then 96000 else 48000

/-- The frame syncs of a master up to now, from device time 0: they fall where t × fs is an integer (R388). -/
def audSyncs (c : Chan) (j x : Nat) : Nat := c.now * audRate c j x / secUnits

/-- The mask in force changes at a frame sync (R392): `fc` is the frame's FCOUNT. -/
def audMask (c : Chan) (j x fc : Nat) : Chan :=
  match (c.side j x).pendingMask with
  | some m =>
    let c := (c.set (Reg.AUD_MASK_CUR j x) m).set (Reg.AUD_MASKFRAME_VALUE j x) fc
    let c := (c.set (Reg.AUD_STAT_PENDING j x) 0).modSide j x (fun s => { s with pendingMask := none, maskchg := true })
    c.post 0x0A02 .aud j fc
  | none => c

/-- A restart takes effect at a frame sync (R399). -/
def audRestart (c : Chan) (j x : Nat) : Chan :=
  let e := (c.side j x).e
  let c := c.modSide j x (fun s => { s with fifo := [], restart := false, lag := 0, restarted := true })
  (((c.set (Reg.AUD_WCOUNT_VALUE j x) e).set (Reg.AUD_STAT_LAG j x) 0).set (Reg.AUD_STAT_STATE j x) 2).bump
    (Reg.AUD_COUNT_RESTARTS j x)

/-- The frame that a side has begun gets its stamp record (R394), FCOUNT is the record's, and E advances. What a frame that gets
no record would have said in FLAGS stands in the next one (DESIGN CHOICE, log entry 100). -/
def audStamp (c : Chan) (j x : Nat) (f : AudEdge) : Chan :=
  let s := c.side j x
  let fc := (s.frames + 1) % 2 ^ 32
  let mask := c.get (Reg.AUD_MASK_CUR j x)
  let flags := b2n s.restarted + 2 * b2n s.maskchg + 4 * b2n s.rotated + 8 * b2n s.fserr
  let rec_ := bytesLE 12 (time96 f.time) ++ bytesLE 4 fc ++ bytesLE 4 s.e ++ bytesLE 2 mask ++ bytesLE 2 flags ++
    bytesLE 4 f.due ++ bytesLE 4 0
  let c := memWrite c (c.get (Reg.AUD_STAMP_ADDR j x) * 64 + 32 * (fc % 2 ^ c.get (Reg.AUD_SIZE_SLOG2 j x))) 0 rec_
  (c.set (Reg.AUD_FCOUNT_VALUE j x) fc).modSide j x (fun s => { s with
    restarted := false, maskchg := false, rotated := false, fserr := false, frames := fc
    e := (s.e + (maskSlots mask).length) % 2 ^ 32 })

/-- Room in the ring for one more word of a receive side: with FLOW set no write passes HOSTPTR (R396), and the controller accepts
none while it initialises (R406). -/
def audRoom (c : Chan) (j : Nat) : Bool :=
  if c.mem.initialising then false
  else if c.flag (Reg.AUD_CFG_FLOW j 0) then
    let used := (c.get (Reg.AUD_WCOUNT_VALUE j 0) + 2 ^ 32 - c.get (Reg.AUD_HOST_HOSTPTR j 0)) % 2 ^ 32
    decide (used < 2 ^ c.get (Reg.AUD_SIZE_LOG2 j 0))
  else true

/-- One word of the FIFO is written into the ring. -/
def audPush (c : Chan) (j : Nat) (w : Word) : Chan :=
  let n := c.get (Reg.AUD_WCOUNT_VALUE j 0)
  (memWrite c (audWordAddr c j 0 n) 0 (bytesLE 4 w.toNat)).set (Reg.AUD_WCOUNT_VALUE j 0) (n + 1)

/-- Drain a receive side's FIFO into its ring while there is room; at most `k` words. -/
def audDrain (j : Nat) : Nat → Chan → Chan
  | 0, c => c
  | k + 1, c =>
    match (c.side j 0).fifo with
    | [] => c
    | w :: rest =>
      if audRoom c j then audDrain j k (audPush (c.modSide j 0 (fun s => { s with fifo := rest })) j w) else c

/-- A word is lost at the ring (R396, R397). -/
def audLose (c : Chan) (j x : Nat) : Chan :=
  let c := c.modSide j x (fun s => { s with lag := s.lag + 1 })
  c.set (Reg.AUD_STAT_LAG j x) (min (c.side j x).lag 65535)

/-- A receive side takes one word: to the ring, else to the FIFO, else dropped; `bad`: the ring write returned an
error (R396). Answers whether the word was kept. -/
def audTake (c : Chan) (j : Nat) (w : Word) (bad : Bool) : Chan × Bool :=
  if bad then (audLose c j 0, false)
  else if (c.side j 0).fifo.isEmpty && audRoom c j then (audPush c j w, true)
  else if (c.side j 0).fifo.length < 64 then (c.modSide j 0 (fun s => { s with fifo := s.fifo ++ [w] }), true)
  else (audLose c j 0, false)

/-- The slot-count check (R398): `n` words reached the ring or left it, of K. -/
def audCheck (c : Chan) (j x n k : Nat) : Chan :=
  if n = k then c
  else
    let c := (c.set (Reg.AUD_STAT_STATE j x) 3).bump (Reg.AUD_COUNT_ROTATIONS j x)
    let auto := c.flag (Reg.AUD_CFG_AUTO j x)
    let c := c.modSide j x (fun s => { s with rotated := true, restart := s.restart || auto })
    let now := c.now
    let quiet : Bool := match (c.side j x).rotTime with
      | some t => decide (now < t + msUnits)
      | none => false
    if quiet then c
    else (c.modSide j x (fun s => { s with rotTime := some now })).post 0x0A01 .aud (j + 256 * x) n

/-- The frame-sync edge of a frame that begins now: its time, which for a master stands where t × fs is an integer (R388), and its
line tick. -/
def audEdge (c : Chan) (j x : Nat) : AudEdge :=
  { time := if c.flag (Reg.AUD_CFG_MASTER j x) then audSyncs c j x * secUnits / audRate c j x else c.now
    due := if c.mode = 7 then 0 else c.tick }

/-- A frame sync that a side acts on begins a TDM frame (R392, R394, R399): a pending mask takes effect, a requested restart too,
and the edge's time and line tick are noted for the stamp record. -/
def audBegin (c : Chan) (j x : Nat) : Chan :=
  let c := audMask c j x (((c.side j x).frames + 1) % 2 ^ 32)
  let c := if (c.side j x).restart then audRestart c j x else c
  c.modSide j x (fun s => { s with open_ := some (audEdge c j x), syncs := audSyncs c j x })

/-- What a frame sync does to the TDM frame in progress. -/
inductive AudCut where
  /-- nothing: the sync is not one the side acts on -/
  | none
  /-- it ends whole, and the next begins -/
  | whole
  /-- it is cut short or there was none, and a frame begins -/
  | begins
  deriving DecidableEq, Repr

/-- The frame-sync filter (R388, R389). A master makes its own frame syncs. A slave acts on edges of the polarity of FSPOL. -/
def audFilter (c : Chan) (j x : Nat) (sync : AudSync) : Chan × AudCut :=
  let st := c.get (Reg.AUD_STAT_STATE j x)
  let s := c.side j x
  let end_ : AudCut := if s.open_.isSome then .whole else .begins
  if st = 0 then (c, .none)
  else if c.flag (Reg.AUD_CFG_MASTER j x) then
    -- t × fs has reached one more integer
    (c, if audSyncs c j x ≠ s.syncs then end_ else .none)
  else match sync with
    | .absent => if st = 1 then (c.modSide j x (fun s => { s with good := 0 }), .none) else (c, end_)
    | .edge rising n inRate =>
      if rising == c.flag (Reg.AUD_CFG_FSPOL j x) then (c, .none)
      else if st = 1 then
        let good := if !inRate then 0 else if n = 512 then s.good + 1 else 1
        if 3 ≤ good then
          ((c.modSide j x (fun s => { s with good := 0, wrong := 0 })).set (Reg.AUD_STAT_STATE j x)
            (if s.lag = 0 then 2 else 3), .begins)
        else (c.modSide j x (fun s => { s with good := good }), .none)
      else if n = 512 then (c.modSide j x (fun s => { s with wrong := 0 }), end_)
      else
        let c := (c.bump (Reg.AUD_COUNT_FSERR j x)).input .aud
        let w := if s.wrongAt = n then s.wrong + 1 else 1
        (c.modSide j x (fun s => { s with fserr := true, wrongAt := n, wrong := if 3 ≤ w then 0 else w }),
          if 3 ≤ w then .begins else .none)

/-- The number of the 32 bits of a slot, most significant first (R386). -/
def slotWord (bits : List Bool) : Nat := bits.foldl (fun x b => 2 * x + b2n b) 0

/-- The words of the 16 slots of a TDM frame, from the bits sampled at each bit clock, the first that of the frame-sync edge: slot
0 begins FSDLY bit clocks after it (R386), and BCPOL selects the sampling edge (R387). -/
def slotWords (c : Chan) (j : Nat) (l : TdmLine) : List Nat :=
  let bits := if c.flag (Reg.AUD_CFG_BCPOL j 0) then l.falling else l.rising
  let b := bits.drop (c.get (Reg.AUD_CFG_FSDLY j 0))
  (List.range 16).map (fun s => slotWord ((b.drop (32 * s)).take 32 ++ List.replicate (32 - (b.length - 32 * s)) false))

/-- The TDM frame in progress of a receive side ends whole: its stamp record and the words of its active slots (R390, R391, R394),
and the slot-count check. -/
def audReceive (c : Chan) (j : Nat) (words errs : List Nat) : Chan :=
  match (c.side j 0).open_ with
  | none => c
  | some f =>
    let c := audStamp (audDrain j 64 c) j 0 f
    let act := maskSlots (c.get (Reg.AUD_MASK_CUR j 0))
    let r := (List.range act.length).foldl (fun (p : Chan × Nat) i =>
      let (c, ok) := audTake p.1 j (BitVec.ofNat 32 (words.getD (act.getD i 0) 0)) (errs.contains i)
      (c, if ok then p.2 + 1 else p.2)) (c, 0)
    audCheck r.1 j 0 r.2 act.length

/-- A frame sync at a receive side (R388 to R398). `line` is what the data pin held since the frame sync before; `errs` are the
positions, among the active slots, of ring writes that return an error. A whole TDM frame that it ends moves its words; one that
it cuts short moves none (R390); then the next frame begins. -/
def opTdmFrame (j : Nat) (sync : AudSync) (line : TdmLine) (errs : List Nat) (c : Chan) : Chan :=
  if j < 4 then
    let (c, cut) := audFilter c j 0 sync
    match cut with
    | .none => c
    | .whole => audBegin (audReceive c j (slotWords c j line) errs) j 0
    | .begins => audBegin c j 0
  else c

/-- A stamp record of a receive side as a reader finds it in the stamp ring (R394, R395): TIME in 2⁻¹⁶ ns, INDEX, MASK. -/
structure AudStamp where
  time : Nat
  index : Nat
  mask : Nat
  deriving DecidableEq, Repr

/-- Address of the stamp record of frame `fc` of a side. -/
def audStampAddr (c : Chan) (j x fc : Nat) : Nat :=
  c.get (Reg.AUD_STAMP_ADDR j x) * 64 + 32 * (fc % 2 ^ c.get (Reg.AUD_SIZE_SLOG2 j x))

/-- The stamp record of frame `fc` of receive port `j`. -/
def audStampAt (c : Chan) (j fc : Nat) : AudStamp :=
  let b := c.load (audStampAddr c j 0 fc) 32
  ⟨timeOf96 (ofBytesLE (b.take 12)), wordAt b 16, wordAt b 20 % 2 ^ 16⟩

/-- The stamps of the frames of port `j` whose times fall from `lo` up to `hi`, oldest first; `n` bounds how far back the reader
looks from frame `fc`. -/
def audStamps (c : Chan) (j : Nat) (lo hi : Int) : Nat → Nat → List AudStamp
  | 0, _ => []
  | n + 1, fc =>
    if fc = 0 then []
    else
      let s := audStampAt c j fc
      if (s.time : Int) < lo then []
      else audStamps c j lo hi n (fc - 1) ++ (if (s.time : Int) < hi then [s] else [])

/-- The word of slot `i` of a stamped frame, found in the ring by INDEX and MASK (R395, R397); zero for a slot out of its mask. -/
def audSlotWord (c : Chan) (j : Nat) (s : AudStamp) (i : Nat) : Word :=
  if bitAt s.mask i then
    BitVec.ofNat 32 (ofBytesLE (c.load (audWordAddr c j 0 (s.index + (maskSlots s.mask).idxOf i)) 4))
  else 0#32

/-- A transmit side sends one active slot (R391, R396): a word of its ring, or zero on underrun or on an
uncorrectable read, of which only the underrun reads no word. Answers the slot's word and whether one left the ring. -/
def audSend (c : Chan) (j : Nat) : Chan × Word × Bool :=
  let n := c.get (Reg.AUD_WCOUNT_VALUE j 1)
  if n = c.get (Reg.AUD_HOST_HOSTPTR j 1) then (audLose c j 1, 0#32, false)
  else
    let a := audWordAddr c j 1 n
    let fails := memReadFails c a 4
    let w : Word := if fails then 0#32 else BitVec.ofNat 32 (ofBytesLE (c.load a 4))
    let c := (memRead c a 4 0).set (Reg.AUD_WCOUNT_VALUE j 1) (n + 1)
    -- the last 8 bits of each slot go out as zero (R386)
    (c, w &&& 0xFFFFFF00#32, true)

/-- The pins of a transmit side during one TDM frame (R386, R387, R391): the 512 data bits of its slots, most significant first,
slot 0 FSDLY bit clocks after the frame-sync edge; they change on the falling edge of the bit clock, with BCPOL 1 on the rising
one. A master's frame sync is at its active level for the first 1 or 32 bit clocks, high where FSPOL is 0. -/
def tdmWave (c : Chan) (j : Nat) (words : List Word) : TdmWave :=
  { data := words.flatMap (fun w => (List.range 32).map (fun i => bitAt w.toNat (31 - i)))
    delay := c.get (Reg.AUD_CFG_FSDLY j 1)
    onRising := c.flag (Reg.AUD_CFG_BCPOL j 1)
    sync := if c.flag (Reg.AUD_CFG_MASTER j 1) then
        some (if c.flag (Reg.AUD_CFG_FSWIDE j 1) then 32 else 1, !c.flag (Reg.AUD_CFG_FSPOL j 1))
      else none }

/-- A transmit side plays out the TDM frame that a frame sync begins (R391, R394, R396 to R398). -/
def audPlay (c : Chan) (j : Nat) : Chan :=
  let c := audBegin c j 1
  let m := c.get (Reg.AUD_MASK_CUR j 1)
  let c := audStamp c j 1 (audEdge c j 1)
  let r := (List.range 16).foldl (fun (p : Chan × List Word × Nat) s =>
    if bitAt m s then
      let (c, w, ok) := audSend p.1 j
      (c, p.2.1 ++ [w], if ok then p.2.2 + 1 else p.2.2)
    else (p.1, p.2.1 ++ [0#32], p.2.2)) (c, [], 0)
  (audCheck r.1 j 1 r.2.2 (maskSlots m).length).emit (.out (.tdm c.num j (tdmWave c j r.2.1)))

/-- A frame sync at a transmit side (R388 to R398): where it begins a TDM frame, the frame is played out. -/
def opTdmFrameTransmit (j : Nat) (sync : AudSync) (checks : List (Nat × BeatCheck)) (c : Chan) : Chan :=
  if j < 4 then
    let (c, cut) := audFilter c j 1 sync
    if cut = .none then c else audPlay (memFind c checks) j
  else c

/-- The slots that the enabled PKT_PAUDk of a configuration take from receive port `j` (R293, R393). -/
def audUsed (get : Fld → Nat) (j : Nat) : List Nat :=
  ((List.range 8).map (fun p => ((List.range 4).map (fun k =>
    if get (Reg.PKT_PAUD_EN p k) = 1 ∧ get (Reg.PKT_PAUD_PORT p k) = j then
      let first := get (Reg.PKT_PAUD_FIRST p k)
      (List.range (2 * (get (Reg.PKT_PAUD_COUNT p k) + 1))).map (· + first)
    else [])).flatten)).flatten

/-- The code with which a write of AUD_xCTL is discarded, or NONE (R393). -/
def audCtlCode (c : Chan) (j x v : Nat) : Nat :=
  if bitAt v 0 then
    let next := c.get (Reg.AUD_MASK_NEXT j x)
    if next = 0 then codeZERO_FIELD
    else if x = 0 ∧ ((audUsed c.get j).any (fun s => !bitAt next s) ∨
        (c.committing ∧ (audUsed c.getS j).any (fun s => !bitAt next s))) then codeRANGE
    else codeNONE
  else codeNONE

/-- An accepted write of AUD_xCTL (R392, R399). -/
def actAudCtl (j x v : Nat) (c : Chan) : Chan :=
  let c := if bitAt v 0 then
      (c.modSide j x (fun s => { s with pendingMask := some (c.get (Reg.AUD_MASK_NEXT j x)) })).set
        (Reg.AUD_STAT_PENDING j x) 1
    else c
  if bitAt v 1 ∧ c.get (Reg.AUD_STAT_STATE j x) ≠ 0 then c.modSide j x (fun s => { s with restart := true }) else c

/-- The bit clock is lost (R389). -/
def opBitClockLoss (j x : Nat) (c : Chan) : Chan :=
  if j < 4 ∧ x < 2 ∧ 2 ≤ c.get (Reg.AUD_STAT_STATE j x) ∧ ¬ c.flag (Reg.AUD_CFG_MASTER j x) then
    (c.set (Reg.AUD_STAT_STATE j x) 1).modSide j x (fun s => { s with good := 0, wrong := 0, open_ := none })
  else c

/-- What a commit does to the sides (R399, R401); `o` is the unit with the configuration before. -/
def audCommit (o c : Chan) : Chan :=
  forN 8 (fun i c =>
    let j := i / 2
    let x := i % 2
    let was := o.flag (Reg.AUD_CFG_EN j x)
    let on := c.flag (Reg.AUD_CFG_EN j x)
    if on && !was then
      let pm := (c.side j x).pendingMask
      let c := c.modSide j x (fun _ => { pendingMask := pm, syncs := audSyncs c j x })
      let c := c.set (Reg.AUD_STAT_STATE j x) (if c.flag (Reg.AUD_CFG_MASTER j x) then 2 else 1)
      let c := ((c.set (Reg.AUD_WCOUNT_VALUE j x) 0).set (Reg.AUD_FCOUNT_VALUE j x) 0).set (Reg.AUD_STAT_LAG j x) 0
      c.set (Reg.AUD_HOST_HOSTPTR j x) 0
    else if was && !on then
      let c := (c.set (Reg.AUD_STAT_STATE j x) 0).set (Reg.AUD_STAT_PENDING j x) 0
      c.modSide j x (fun s => { s with pendingMask := none, restart := false, fifo := [], open_ := none })
    else if on && o.flag (Reg.AUD_CFG_MASTER j x) != c.flag (Reg.AUD_CFG_MASTER j x) then
      -- a side that becomes a slave has seen no frame sync yet (R389); one that becomes a master makes its own
      (c.set (Reg.AUD_STAT_STATE j x) (if !c.flag (Reg.AUD_CFG_MASTER j x) then 1 else if (c.side j x).lag = 0 then 2 else 3)).modSide
        j x (fun s => { s with good := 0, wrong := 0, open_ := none })
    else c) c

end Sys2Proof.Machine
end

