-- ==== Sys2Proof/Machine/Timing.lean ====
section
/-! DEFINITION. The timing unit (13_timing_unit.md): references, selection, contests, switching without a step,
the states of R351, and the passage of device time. -/

namespace Sys2Proof.Machine

/-- The selected reference as events name it: 0xFF for none. -/
def timSel255 (c : Chan) : Nat := if c.get Reg.TIM_STAT_SEL = 7 then 255 else c.get Reg.TIM_STAT_SEL

/-- Enter a state of R351; every change posts TIM_STATE. -/
def timState (c : Chan) (st : Nat) : Chan :=
  if c.get Reg.TIM_STAT_STATE = st then c
  else
    let c := (c.set Reg.TIM_STAT_STATE st).modTim (fun t => { t with entered := t.age })
    c.post 0x0901 .tim st (timSel255 c)

/-- Step device time by a number of 2⁻¹⁶ ns. -/
def timStep (c : Chan) (d : Int) : Chan :=
  c.modTim (fun t => { t with fine := (t.fine + d * 2 ^ 32).toNat })

/-- A value wrapped into (−0.5 s, 0.5 s] (R349). -/
def wrapSecond (x : Int) : Int :=
  let y := x % (secUnits : Int)
  if y ≤ (secUnits : Int) / 2 then y else y - secUnits

/-- R350: in M7 with ALIGN set, device time is stepped by A when the selection carries time of day or phase, and A
becomes zero; for REFIN the step goes to the nearest second boundary. -/
def timAlign (c : Chan) : Chan :=
  let sel := c.get Reg.TIM_STAT_SEL
  if c.mode = 7 ∧ c.flag Reg.TIM_LOOP_ALIGN ∧ sel ≤ 3 ∧ c.tim.offset ≠ 0 then
    let d := if sel = 1 then wrapSecond c.tim.offset else c.tim.offset
    (timStep c d).modTim (fun t => { t with offset := 0 })
  else c

/-- R346: qualified and in no unresolved contest. -/
def timSelectable (c : Chan) (r : Nat) : Bool :=
  c.flag (Reg.TIM_REFCFG_EN r) && c.flag (Reg.TIM_REFSTAT_QUALIFIED r) &&
    !c.flag (Reg.TIM_REFSTAT_CONTESTED r)

/-- R346: the selectable reference of lowest RANK that `ok` admits; among equals the one selected, else the
lowest index. -/
def timBest (c : Chan) (ok : Nat → Bool) : Option Nat :=
  (List.range 5).foldl (fun best r =>
    if timSelectable c r && ok r then
      match best with
      | none => some r
      | some b =>
        let rr := c.get (Reg.TIM_REFCFG_RANK r)
        let rb := c.get (Reg.TIM_REFCFG_RANK b)
        if rr < rb ∨ (rr = rb ∧ r = c.get Reg.TIM_STAT_SEL) then some r else some b
    else best) none

/-- A after a switch to `r` (R349). PTP: the measured r − t, its timestamps being device time plus A (R357), so
that the offset from master is t + A − r. Host: the last sample less the device time captured with it. REFIN: A plus
the difference between the last PPS edge and the second boundary of t + A, that difference wrapped. -/
def timOffsetAfter (c : Chan) (r : Nat) : Int :=
  if r = 0 then c.tim.offset - c.geti Reg.TIM_PTP_OFM_OFM
  else if r = 3 then
    match c.tim.hostPrev with
    | some (x, t) => (x : Int) - t
    | none => c.tim.offset
  else if r = 1 then
    match c.tim.pps with
    | edge :: _ => c.tim.offset + wrapSecond (-((edge : Int) + c.tim.offset))
    | [] => c.tim.offset
  else c.tim.offset

/-- Select reference `r` (R349, R351): A is set, no step is taken, TIM_SWITCH is posted. -/
def timSelect (c : Chan) (r : Nat) : Chan :=
  let old := timSel255 c
  let a := timOffsetAfter c r
  let c := c.modTim (fun t => { t with offset := a })
  let c := if r = 2 then
      c.set Reg.TIM_LEAD_TARGET (max 32 (min 112 (c.geti Reg.TIM_LEAD))).toNat
    else c
  let c := ((c.set Reg.TIM_STAT_SEL r).set Reg.TIM_STAT_STANDBY 7).set Reg.TIM_STAT_SEEDED 0
  let c := c.post 0x0902 .tim old r
  timAlign (timState c 1)

/-- Enter HOLDOVER: the mean loop frequency of the last whole window is held (R351). -/
def timHoldover (c : Chan) : Chan :=
  let c := c.modTim (fun t => { t with hold := t.wmean.getD t.freq })
  let c := (c.set Reg.TIM_STAT_SEL 7).set Reg.TIM_STAT_STANDBY 7
  timState c 3

/-- Leave the selection for the best reference there is, else for HOLDOVER (R351). A standby named under R347 and
still selectable is taken first. -/
def timLeave (c : Chan) : Chan :=
  let old := c.get Reg.TIM_STAT_SEL
  let sb := c.get Reg.TIM_STAT_STANDBY
  if sb ≠ 7 ∧ sb ≠ old ∧ timSelectable c sb then timSelect c sb
  else
    match timBest c (fun r => r != old) with
    | some r => timSelect c r
    | none => timHoldover c

/-- With no selection, take the best selectable reference (R351); SEL is left alone otherwise. -/
def timSeek (c : Chan) : Chan :=
  if c.get Reg.TIM_STAT_SEL = 7 then
    match timBest c (fun _ => true) with
    | some r => timSelect c r
    | none => c
  else c

/-- The contests that last are `l` (R348): CONTESTED marks the references in them, ALARM that one was left unresolved. -/
def timContests (c : Chan) (l : List Contest) : Chan :=
  let c := c.modTim (fun t => { t with contests := l })
  let c := forN 5 (fun r c => c.set (Reg.TIM_REFSTAT_CONTESTED r) (b2n (l.any (fun k => k.a == r || k.b == r)))) c
  c.set Reg.TIM_STAT_ALARM (b2n (l.any (·.alarm)))

/-- Does a contest have `r` in it, and is it the one of `a` and `b`? -/
def Contest.has (k : Contest) (r : Nat) : Bool := k.a == r || k.b == r
def Contest.of (k : Contest) (a b : Nat) : Bool := (k.a == a && k.b == b) || (k.a == b && k.b == a)

/-- End any contest that has `r` in it (R359). -/
def timEndContest (c : Chan) (r : Nat) : Chan := timContests c (c.tim.contests.filter (fun k => !k.has r))

/-- Disqualify a reference at once (R345). -/
def timDisqualify (c : Chan) (r : Nat) : Chan :=
  timEndContest (c.set (Reg.TIM_REFSTAT_QUALIFIED r) 0) r

/-- SOFT and HARD of a reference in ppb. -/
def timSoft (c : Chan) (r : Nat) : Int := (c.get (Reg.TIM_REFCFG_SOFT r) * 100 : Nat)
def timHard (c : Chan) (r : Nat) : Int := (c.get (Reg.TIM_REFCFG_HARD r) * 100 : Nat)

/-- The window mean of a reference, reported in FOFF (R344); reference 4 reads zero while LOSC is the oscillator. -/
def timFoff (c : Chan) (r : Nat) (f : Int) : Chan :=
  if r = 4 ∧ c.get Reg.TIM_STAT_OSCSRC = 1 then c.set (Reg.TIM_REFSTAT_FOFF 4) 0
  else c.seti (Reg.TIM_REFSTAT_FOFF r) f

/-- A reference input is rejected (R343): counted and sticky INPUT. -/
def timReject (c : Chan) (r : Nat) : Chan := (c.bump (Reg.TIM_REFSTAT_REJECT r)).input .tim

/-- Reference `r` is present and enabled and is none that its contest's loss still holds back (R345). -/
def timMayQualify (c : Chan) (r : Nat) (f : Int) : Bool :=
  c.flag (Reg.TIM_REFCFG_EN r) && c.flag (Reg.TIM_REFSTAT_PRESENT r) &&
    decide (f.natAbs ≤ (timSoft c r).natAbs) && !(c.tim.losers.any (fun p => p.1 == r)) &&
    (r != 2 || c.mode == 1 || c.mode == 4)

/-- A reference has stayed present and within SOFT for a whole window (R345). -/
def timQualified (c : Chan) (r : Nat) (f : Int) : Chan :=
  if r < 5 ∧ timMayQualify c r f then
    let c := (timFoff c r f).modTim (fun t => { t with drifted := t.drifted.filter (· != r) })
    timSeek (c.set (Reg.TIM_REFSTAT_QUALIFIED r) 1)
  else c

/-- A reference stops being present (R342, R345). -/
def timAbsent (c : Chan) (r : Nat) : Chan :=
  if r < 5 then
    let was := c.get Reg.TIM_STAT_SEL
    let c := timDisqualify (c.set (Reg.TIM_REFSTAT_PRESENT r) 0) r
    let c := if r = 4 then c.modTim (fun t => { t with losc := false }) else c
    if was = r then timLeave c else timSeek c
  else c

/-- The window mean of a reference crosses SOFT (R347). -/
def timDrift (c : Chan) (r : Nat) (f : Int) : Chan :=
  if r < 5 ∧ c.flag (Reg.TIM_REFSTAT_PRESENT r) then
    let c := timFoff c r f
    if f.natAbs ≤ (timSoft c r).natAbs then
      c.modTim (fun t => { t with drifted := t.drifted.filter (· != r) })
    else if c.tim.drifted.contains r then c
    else
      let c := c.modTim (fun t => { t with drifted := t.drifted ++ [r] })
      let c := c.post 0x0903 .tim r (patternOf 32 f)
      if c.get Reg.TIM_STAT_SEL = r then
        match timBest c (fun x => x != r) with
        | some b => c.set Reg.TIM_STAT_STANDBY b
        | none => c.set Reg.TIM_STAT_STANDBY 7
      else c
  else c

/-- The selection crosses HARD (R347): TIM_DRIFT again, then the standby or HOLDOVER. -/
def timHardSelected (c : Chan) (f : Int) : Chan :=
  let r := c.get Reg.TIM_STAT_SEL
  if r < 5 ∧ (timHard c r).natAbs < f.natAbs then
    let c := (timFoff c r f).post 0x0903 .tim r (patternOf 32 f)
    timLeave (timDisqualify c r)
  else c

/-- A reference that is not selected crosses HARD (R345): disqualified at once; a contest on it ends, which may
leave its rival selectable. -/
def timHardOther (c : Chan) (r : Nat) (f : Int) : Chan :=
  if r < 5 ∧ r ≠ c.get Reg.TIM_STAT_SEL ∧ (timHard c r).natAbs < f.natAbs then
    timSeek (timDisqualify (timFoff c r f) r)
  else c

/-- The witness of a contest (R348): the qualified reference of lowest RANK outside the pair, else LOSC if
present, else none (255). -/
def timWitness (c : Chan) (a b : Nat) : Nat :=
  let best := (List.range 5).foldl (fun (w : Option Nat) r =>
    if c.flag (Reg.TIM_REFSTAT_QUALIFIED r) && r != a && r != b then
      match w with
      | none => some r
      | some x => if c.get (Reg.TIM_REFCFG_RANK r) < c.get (Reg.TIM_REFCFG_RANK x) then some r else some x
    else w) none
  match best with
  | some r => r
  | none => if c.flag (Reg.TIM_REFSTAT_PRESENT 4) && a != 4 && b != 4 then 4 else 255

/-- Two qualified references of equal RANK have disagreed by more than AGREEF over a window, by their window means in ppb
(R348). -/
def timContest (c : Chan) (a b : Nat) (fa fb : Int) : Chan :=
  if a < b ∧ b < 5 ∧ c.flag (Reg.TIM_REFSTAT_QUALIFIED a) ∧ c.flag (Reg.TIM_REFSTAT_QUALIFIED b) ∧
      c.get (Reg.TIM_REFCFG_RANK a) = c.get (Reg.TIM_REFCFG_RANK b) ∧ c.get Reg.TIM_AGREE_AGREEF < (fa - fb).natAbs ∧
      c.tim.contests.all (fun k => !k.of a b) then
    let w := timWitness c a b
    (timContests c (c.tim.contests ++ [{ a := a, b := b, witness := w }])).post 0x0904 .tim (a * 256 + b) w
  else c

/-- The witness window of the contest of `a` and `b` ends (R348): the window means of the pair and of the witness are given.
The unit goes to the winner from the loser or from no selection; from another reference it goes by R346 (log entry 98). -/
def timContestEnd (c : Chan) (a b : Nat) (fa fb fw : Int) : Chan :=
  match c.tim.contests.find? (fun k => k.of a b) with
  | none => c
  | some k =>
    if k.alarm then c
    else
      let lim := c.get Reg.TIM_AGREE_AGREEF
      let (fa, fb) := if a = k.a then (fa, fb) else (fb, fa)
      let okA := decide ((fa - fw).natAbs ≤ lim)
      let okB := decide ((fb - fw).natAbs ≤ lim)
      if k.witness ≠ 255 ∧ okA ≠ okB then
        let win := if okA then k.a else k.b
        let lose := if okA then k.b else k.a
        let c := timContests c (c.tim.contests.filter (fun j => !j.has lose && !j.of win lose))
        let c := ((c.set (Reg.TIM_REFSTAT_LOSER lose) 1).set (Reg.TIM_REFSTAT_LOSER win) 0).set
          (Reg.TIM_REFSTAT_QUALIFIED lose) 0
        let c := c.modTim (fun t => { t with losers := t.losers ++ [(lose, win)] })
        let sel := c.get Reg.TIM_STAT_SEL
        if sel = lose ∨ sel = 7 then timSelect c win else c
      else
        let c := (timContests c (c.tim.contests.map (fun j => if j = k then { k with alarm := true } else j))).post
          0x0904 .tim (k.a * 256 + k.b) 255
        let sel := c.get Reg.TIM_STAT_SEL
        if sel = k.a ∨ sel = k.b then timHoldover c else c

/-- A contested pair has agreed within AGREEF for a whole window, by their window means in ppb (R348). -/
def timPairAgree (c : Chan) (a b : Nat) (fa fb : Int) : Chan :=
  if (fa - fb).natAbs ≤ c.get Reg.TIM_AGREE_AGREEF then
    let c := c.modTim (fun t => { t with losers := t.losers.filter (fun p => p != (a, b) && p != (b, a)) })
    if c.tim.contests.any (fun k => k.of a b) then timSeek (timContests c (c.tim.contests.filter (fun k => !k.of a b))) else c
  else c

/-- Crystal periods of 40 ns in one second. -/
def secPeriods : Nat := 25000000

/-- With REVERT set, a selectable reference of lower RANK has stayed so for QUAL seconds (R346, R351). -/
def timRevert (c : Chan) (r : Nat) : Chan :=
  let sel := c.get Reg.TIM_STAT_SEL
  if r < 5 ∧ c.get Reg.TIM_STAT_STATE = 2 ∧ c.flag Reg.TIM_LIMITS_REVERT ∧ timSelectable c r ∧ sel < 5 ∧
      c.get (Reg.TIM_REFCFG_RANK r) < c.get (Reg.TIM_REFCFG_RANK sel) ∧
      (c.tim.since.getD r none).any (fun t => decide (t + c.get Reg.TIM_LIMITS_QUAL * secPeriods ≤ c.tim.age)) then
    timSelect c r
  else c

/-- The umpire seeds the unit's timing (R354). Times and A in 2⁻¹⁶ ns, the frequency in 2⁻¹⁶ ppb. -/
def timSeed (c : Chan) (time : Nat) (freq offset origin : Int) (originFrame : Nat) : Chan :=
  let c := timContests c []
  let c := c.modTim (fun t => { t with
    fine := time * 2 ^ 32, freq := freq * 25000000, hold := freq * 25000000, extra := 0, padj := 0,
    offset := offset, origin := origin, originFrame := originFrame })
  let c := ((c.set Reg.TIM_STAT_SEL 7).set Reg.TIM_STAT_STANDBY 7).set Reg.TIM_STAT_SEEDED 1
  timState c 3

/-- A host time sample completes (R342, R343): TIME is the 96-bit value written. -/
def timHostSample (c : Chan) (x : Nat) : Chan :=
  if time96Ok x then
    (c.modTim (fun t => { t with hostPrev := some (timeOf96 x, t.now) })).set (Reg.TIM_REFSTAT_PRESENT 3) 1
  else timReject c 3

/-- A phase adjustment of `v` 2⁻¹⁶ ns (R352): a step in M7, else spread by PRATE. -/
def timPhaseAdjust (c : Chan) (v : Int) : Chan :=
  if c.mode = 7 then timStep c v
  else c.modTim (fun t => { t with padj := t.padj + v * 2 ^ 32 })

/-- An edge on CUn_REFIN_PPS (R342, R343): its pulse width in ns, and the 10 MHz input's offset in ppm if that
input runs. -/
def timPps (c : Chan) (width : Nat) (tenMeg : Option Int) : Chan :=
  let c := c.modTim (fun t => { t with tenMeg := match tenMeg with
    | some p => decide (p.natAbs ≤ 20)
    | none => false })
  let now := c.now
  let far : Bool := match c.tim.pps with
    | last :: _ => c.flag (Reg.TIM_REFSTAT_PRESENT 1) &&
        decide (((now : Int) - last - secUnits).natAbs > secUnits / 1000)
    | [] => false
  if width < 100 ∨ far then timReject c 1
  else
    let c := c.modTim (fun t => { t with pps := (now :: t.pps).take 4 })
    match c.tim.pps with
    | [t0, t1, t2, t3] =>
      let ok (x y : Nat) : Bool := decide (((x : Int) - y - secUnits).natAbs ≤ 1000 * 65536)
      if ok t0 t1 && ok t1 t2 && ok t2 t3 then c.set (Reg.TIM_REFSTAT_PRESENT 1) 1
      else if c.flag (Reg.TIM_REFSTAT_PRESENT 1) then timAbsent c 1
      else c
    | _ => c

/-- The offset in ppb of a LOSC of `hz` from LOSCKHZ, and its presence range of 50 ppm (R342). -/
def loscOffset (c : Chan) (hz : Nat) : Int :=
  let n := c.get Reg.TIM_OSC_LOSCKHZ * 1000
  ((hz : Int) - n) * 1000000000 / (max 1 n : Nat)
def loscIn (c : Chan) (hz : Nat) : Bool :=
  let n := c.get Reg.TIM_OSC_LOSCKHZ * 1000
  decide (((hz : Int) - n).natAbs * 20000 ≤ n)

/-- LOSC leaves its presence range at `hz`, 0 for none (R340): as the oscillator it hands over to LREF, keeping value and
frequency. -/
def timLoscFail (c : Chan) (hz : Nat) : Chan :=
  let f := loscOffset c hz
  if loscIn c hz then c
  else if c.get Reg.TIM_STAT_OSCSRC = 1 then
    let c := ((c.set Reg.TIM_STAT_OSCSRC 0).set Reg.TIM_STAT_OSCFAIL 1).post 0x0903 .tim 4 (patternOf 32 f)
    timAbsent c 4
  else if c.flag (Reg.TIM_REFSTAT_PRESENT 4) then timAbsent c 4
  else c

/-- LOSC is within its presence range at `hz`; with OSC 1 it is the oscillator (R340, R342). -/
def timLoscReturn (c : Chan) (hz : Nat) : Chan :=
  if !loscIn c hz then c else
  let c := (c.modTim (fun t => { t with losc := true })).set (Reg.TIM_REFSTAT_PRESENT 4) 1
  if c.flag Reg.TIM_OSC then c.set Reg.TIM_STAT_OSCSRC 1 else c

/-- The oscillator that the active TIM_OSC asks for (R340). -/
def timOscillator (c : Chan) : Chan :=
  if c.flag Reg.TIM_OSC ∧ c.tim.losc then c.set Reg.TIM_STAT_OSCSRC 1 else c.set Reg.TIM_STAT_OSCSRC 0

/-- `x` moved toward `goal` by at most `d` (R341, FSLEW). -/
def slewTo (x goal : Int) (d : Nat) : Int :=
  if x < goal then min goal (x + d) else max goal (x - d)

/-- The frequency that the state table or OPEN asks for (R351, R352), in units of 2⁻¹⁶ ppb / 25,000,000. -/
def timGoal (c : Chan) : Int :=
  let st := c.get Reg.TIM_STAT_STATE
  if c.flag Reg.TIM_LOOP_OPEN then c.geti Reg.TIM_FSET_PPB * 25000000
  else if st = 3 then c.tim.hold
  else if st = 1 ∨ st = 2 then
    let f := Config.loopTarget c.num c.free
    let m : Int := (c.get Reg.TIM_LOOP_PRATE * 65536 : Nat)
    -- with genlock the steering keeps to PRATE (R353)
    (if c.get Reg.TIM_STAT_SEL = 2 then max (-m) (min m f) else f) * 25000000
  else 0

/-- The frequency a phase adjustment asks for (R352): PRATE toward what remains, left in time for FSLEW. -/
def timExtraGoal (c : Chan) : Int :=
  let e : Int := c.tim.extra / 1638400000000
  let fs := c.get Reg.TIM_LIMITS_FSLEW
  let rest : Int := c.tim.padj / 2 ^ 48
  if rest.natAbs * 2 * fs ≤ e.natAbs * e.natAbs then 0
  else if rest < 0 then -(c.get Reg.TIM_LOOP_PRATE * 65536 * 25000000 : Nat)
  else (c.get Reg.TIM_LOOP_PRATE * 65536 * 25000000 : Nat)

/-- One period of the 25 MHz crystal passes (40 ns): device time advances by the steered increment, held to
2⁻⁴⁸ ns (R340); the frequency, that of a phase adjustment included, moves toward its goal by at most FSLEW (R341). -/
def timPass (c : Chan) : Chan :=
  let d := c.get Reg.TIM_LIMITS_FSLEW * 65536
  let goal := timGoal c
  let xgoal := timExtraGoal c
  let win := c.get Reg.TIM_LIMITS_WINDOW * 25000000
  (c.modTim (fun t =>
    let x := slewTo t.extra xgoal d
    let f := slewTo t.freq goal (d - (x - t.extra).natAbs)
    let moved : Int := 40 * 2 ^ 48 * x / (65536 * 25000000 * 1000000000)
    let left := if t.padj.natAbs ≤ moved.natAbs then 0 else t.padj - moved
    let wsum := t.wsum + f
    let wcnt := t.wcnt + 1
    let full := decide (win ≤ wcnt)
    let inc : Int := 40 * 2 ^ 48 + 40 * 2 ^ 48 * f / (65536 * 25000000 * 1000000000) + moved
    { t with
      age := t.age + 1
      adv := t.adv + inc
      mark := if (t.age + 1) % secPeriods = 0 then (t.adv + inc, t.mark.1) else t.mark
      since := (List.range 5).map (fun r => if timSelectable c r then some ((t.since.getD r none).getD t.age) else none)
      freq := f
      extra := if left = 0 then 0 else x
      padj := left
      wsum := if full then 0 else wsum
      wcnt := if full then 0 else wcnt
      wmean := if full then some (wsum / wcnt) else t.wmean
      fine := (t.fine + inc).toNat })).draw

/-! ### The commands of this chapter -/

/-- HOLDMAX seconds have passed in HOLDOVER (R351). -/
def opHoldoverExpiry (c : Chan) : Chan :=
  if c.get Reg.TIM_STAT_STATE = 3 ∧ c.tim.entered + c.get Reg.TIM_HOLD_HOLDMAX * secPeriods ≤ c.tim.age then timState c 4 else c

/-- `error` is the greatest error over a whole window (R351): the phase error in 2⁻¹⁶ ns, for LOSC and genlock the frequency
error in 2⁻¹⁶ ppb. -/
def opLockAchieved (error : Nat) (c : Chan) : Chan :=
  let sel := c.get Reg.TIM_STAT_SEL
  let lim := if sel = 2 ∨ sel = 4 then 10 else c.get Reg.TIM_AGREE_LOCKNS
  if c.get Reg.TIM_STAT_STATE = 1 ∧ error ≤ lim * 65536 then timState c 2 else c

/-- `error` is the least phase error over a whole window, in 2⁻¹⁶ ns (R351). -/
def opLockLost (error : Nat) (c : Chan) : Chan :=
  if c.get Reg.TIM_STAT_STATE = 2 ∧ 4 * c.get Reg.TIM_AGREE_LOCKNS * 65536 < error then timState c 1 else c

/-- What a commit does to the references (R342, R345): genlock is present in M1 and M4 alone, where TIM_LEAD is shown; a
reference that is no longer enabled is disqualified. -/
def timCommit (c : Chan) : Chan :=
  let live := c.mode == 1 || c.mode == 4
  let c := if live then c else timAbsent (c.set Reg.TIM_LEAD 0) 2
  forN 5 (fun r c =>
    if c.flag (Reg.TIM_REFCFG_EN r) then c
    else
      let was := c.get Reg.TIM_STAT_SEL
      let c := timDisqualify c r
      if was = r then timLeave c else c) c

end Sys2Proof.Machine
end

