-- ==== Sys2Proof/Machine/PtpFrame.lean ====
section
/-! DEFINITION. Frames of the T-lane (R6, R355 to R358): Ethernet II, IEEE 802.1Q, ARP, IPv4, ICMP, IGMPv2, UDP and IEEE
1588-2019 messages, as bytes in network byte order. The layouts are those of the standards that R355 names (PRESUMED, log
entry 99); what they leave open is an unfixed constant. -/

namespace Sys2Proof.Machine

/-! ### Checksums and addresses -/

/-- The one's complement sum of the 16-bit words of a run of bytes; a last odd byte counts as high. -/
def onesSum : List Byte → Nat
  | [] => 0
  | [a] => a.toNat * 256
  | a :: b :: l => a.toNat * 256 + b.toNat + onesSum l

/-- The Internet checksum of a run of bytes. -/
def inetSum (bs : List Byte) : Nat :=
  let fold (x : Nat) : Nat := x % 65536 + x / 65536
  65535 - fold (fold (onesSum bs))

/-- 224.0.1.129, its MAC address, and the broadcast MAC address. -/
def ptpGroup : Nat := 0xE0000181
def ptpGroupMac : Nat := 0x01005E000181
def everyMac : Nat := 0xFFFFFFFFFFFF

def portMac (c : Chan) : Nat := c.get Reg.TIM_PTP_MAC_MAC
def portIp (c : Chan) : Nat := c.get Reg.TIM_PTP_IP_IP

/-- The clock identity of the port, from its MAC address, and its port identity. -/
def clockId (c : Chan) : Nat := (portMac c / 2 ^ 24) * 2 ^ 40 + 0xFFFE * 2 ^ 24 + portMac c % 2 ^ 24
def portId (c : Chan) : Nat := clockId c * 2 ^ 16 + 1

/-! ### Received frames -/

/-- A PTP message of a received frame (R355, R356), with the MAC and IP addresses that sent it. Times and corrections are in
units of 2⁻¹⁶ ns. -/
structure PtpMsg where
  typ : Nat
  version : Nat
  domain : Nat
  /-- messageLength does not exceed the frame, and holds the message -/
  lengthOk : Bool
  source : Nat
  seq : Nat
  twoStep : Bool
  correction : Int
  /-- originTimestamp, preciseOriginTimestamp or receiveTimestamp -/
  time : Int
  /-- requestingPortIdentity of a Delay_Resp -/
  requester : Nat
  /-- the data set of an Announce -/
  master : PtpMaster
  mac : Nat
  ip : Nat
  deriving DecidableEq, Repr

/-- What a received frame is: one whose FCS or checksums fail, a PTP message, an ARP request (sender's addresses, address
asked for), an ICMP echo request (sender's addresses, its bytes after the checksum), an IGMP query, or another frame. -/
inductive PortFrame where
  | failed
  | ptp (m : PtpMsg)
  | arp (mac ip target : Nat)
  | echo (mac ip : Nat) (body : List Byte)
  | query
  | other
  deriving DecidableEq, Repr

/-- `n` bytes from offset `a` as a number. -/
def field (bs : List Byte) (a n : Nat) : Nat := ofBytesBE ((bs.drop a).take n)

/-- A Timestamp of IEEE 1588 in 2⁻¹⁶ ns. -/
def stampOf (bs : List Byte) : Int := ((field bs 0 6 * 1000000000 + field bs 6 4) * 65536 : Nat)

/-- The PTP message in the payload of a UDP datagram. -/
def readPtp (mac ip : Nat) (u : List Byte) : PtpMsg :=
  let typ := field u 0 1 % 16
  let len := field u 2 2
  let body := u.drop 34
  let least := if typ = 9 then 54 else if typ = 11 then 64 else 44
  { typ := typ, version := field u 1 1 % 16, domain := field u 4 1
    lengthOk := decide (len ≤ u.length) && decide (least ≤ len)
    source := field u 20 10, seq := field u 30 2, twoStep := bitAt (field u 6 1) 1
    correction := signedOf 64 (field u 8 8), time := stampOf body, requester := field body 10 10
    master := { prio1 := field body 13 1, clockClass := field body 14 1, accuracy := field body 15 1
                variance := field body 16 2, prio2 := field body 18 1, identity := field body 19 8
                steps := field body 27 2, port := field u 20 10 }
    mac := mac, ip := ip }

/-- The IPv4 packet in a frame from `mac`: PTP on UDP ports 319 and 320, an echo request to the port's address, a membership
query. -/
def readIp (c : Chan) (mac : Nat) (p : List Byte) : PortFrame :=
  let ihl := field p 0 1 % 16 * 4
  let total := field p 2 2
  if field p 0 1 / 16 ≠ 4 ∨ ihl < 20 ∨ p.length < total ∨ total < ihl ∨ inetSum (p.take ihl) ≠ 0 then .failed
  else
    let src := field p 12 4
    let dst := field p 16 4
    let proto := field p 9 1
    let body := (p.take total).drop ihl
    if field p 6 2 % 2 ^ 14 ≠ 0 then .other
    else if proto = 17 then
      let len := field body 4 2
      let pseudo := bytesBE 4 src ++ bytesBE 4 dst ++ bytesBE 2 17 ++ bytesBE 2 len
      if len < 8 ∨ body.length < len ∨ (field body 6 2 ≠ 0 ∧ inetSum (pseudo ++ body.take len) ≠ 0) then .failed
      else if (field body 2 2 = 319 ∨ field body 2 2 = 320) ∧ (dst = ptpGroup ∨ dst = portIp c) ∧ 42 ≤ len then
        .ptp (readPtp mac src ((body.take len).drop 8))
      else .other
    else if proto = 1 ∧ dst = portIp c ∧ field body 0 1 = 8 then
      if inetSum body ≠ 0 then .failed else .echo mac src (body.drop 4)
    else if proto = 2 ∧ field body 0 1 = 0x11 ∧ (field body 4 4 = 0 ∨ field body 4 4 = ptpGroup) then
      if inetSum body ≠ 0 then .failed else .query
    else .other

/-- A received frame from its destination address to its FCS: untagged, or with one tag of VID (R355). -/
def readFrame (c : Chan) (f : List Byte) : PortFrame :=
  let n := f.length
  if n < 18 ∨ ofBytesLE (f.drop (n - 4)) ≠ crc32 (f.take (n - 4)) then .failed
  else
    let mac := field f 6 6
    let tagged := field f 12 2 == 0x8100
    let rest := (f.take (n - 4)).drop (if tagged then 16 else 12)
    let typ := field rest 0 2
    let p := rest.drop 2
    if tagged ∧ ¬ (c.flag Reg.TIM_PTP_CFG_VLAN ∧ field f 14 2 % 4096 = c.get Reg.TIM_PTP_CFG_VID) then .other
    else if typ = 0x0806 ∧ field p 0 8 = 0x0001080006040001 then .arp (field p 8 6) (field p 14 4) (field p 24 4)
    else if typ = 0x0800 then readIp c mac p
    else .other

/-! ### Sent frames -/

/-- A frame to `dst` with an EtherType and a payload: tagged with VID if VLAN is set, padded to 64 bytes, with its FCS. -/
def etherFrame (c : Chan) (dst typ : Nat) (p : List Byte) : List Byte :=
  let tag := if c.flag Reg.TIM_PTP_CFG_VLAN then bytesBE 2 0x8100 ++ bytesBE 2 (c.get Reg.TIM_PTP_CFG_VID) else []
  let f := bytesBE 6 dst ++ bytesBE 6 (portMac c) ++ tag ++ bytesBE 2 typ ++ p
  let f := f ++ List.replicate (60 - f.length) 0#8
  f ++ bytesLE 4 (crc32 f)

/-- An IPv4 packet of the port with options and a body; type of service, identification and time to live are open. -/
def ipPacket (c : Chan) (dst proto : Nat) (options body : List Byte) : List Byte :=
  let n := 20 + options.length
  let ttl := if proto = 17 ∨ proto = 2 then 1 else Config.frameChoice 2 % 256
  let h (sum : Nat) : List Byte :=
    bytesBE 1 (0x40 + n / 4) ++ bytesBE 1 (Config.frameChoice 0) ++ bytesBE 2 (n + body.length) ++
      bytesBE 2 (Config.frameChoice 1) ++ bytesBE 2 0 ++ bytesBE 1 ttl ++ bytesBE 1 proto ++ bytesBE 2 sum ++
      bytesBE 4 (portIp c) ++ bytesBE 4 dst ++ options
  h (inetSum (h 0)) ++ body

/-- A UDP datagram of the port from and to a port number, its checksum over the final bytes (R358). -/
def udpPacket (c : Chan) (dst port : Nat) (body : List Byte) : List Byte :=
  let len := 8 + body.length
  let u (sum : Nat) : List Byte := bytesBE 2 port ++ bytesBE 2 port ++ bytesBE 2 len ++ bytesBE 2 sum ++ body
  let pseudo := bytesBE 4 (portIp c) ++ bytesBE 4 dst ++ bytesBE 2 17 ++ bytesBE 2 len
  let sum := inetSum (pseudo ++ u 0)
  ipPacket c dst 17 [] (u (if sum = 0 then 65535 else sum))

/-- The Timestamp of a time in 2⁻¹⁶ ns, whose fraction goes into the correction. -/
def stampBytes (t : Int) : List Byte :=
  let n := t.toNat / 65536
  bytesBE 6 (n / 1000000000) ++ bytesBE 4 (n % 1000000000)
def stampRest (t : Int) : Int := (t.toNat % 65536 : Nat)

/-- A PTP message of the port: type, flags, correctionField, sequenceId, controlField, logMessageInterval, body. -/
def ptpMessage (c : Chan) (typ flags : Nat) (correction : Int) (seq control : Nat) (interval : Int) (body : List Byte) :
    List Byte :=
  bytesBE 1 typ ++ bytesBE 1 0x12 ++ bytesBE 2 (34 + body.length) ++ bytesBE 1 (c.get Reg.TIM_PTP_CFG_DOMAIN) ++ [0#8] ++
    bytesBE 2 flags ++ bytesBE 8 (patternOf 64 correction) ++ bytesBE 4 0 ++ bytesBE 10 (portId c) ++ bytesBE 2 seq ++
    bytesBE 1 control ++ bytesBE 1 (patternOf 8 interval) ++ body

/-- The frame of a PTP message to the group, or to one station: an event message goes to port 319, another to 320. -/
def ptpFrame (c : Chan) (to_ : Option (Nat × Nat)) (event : Bool) (m : List Byte) : List Byte :=
  let (mac, ip) := to_.getD (ptpGroupMac, ptpGroup)
  etherFrame c mac 0x0800 (udpPacket c ip (if event then 319 else 320) m)

/-- twoStepFlag of flagField. -/
def twoStepFlag : Nat := 0x0200

def syncFrame (c : Chan) (seq : Nat) (twoStep : Bool) (t : Int) : List Byte :=
  ptpFrame c none true (ptpMessage c 0 (if twoStep then twoStepFlag else 0) (if twoStep then 0 else stampRest t) seq 0
    (c.geti Reg.TIM_PTP_INTV_SYNC) (stampBytes (if twoStep then 0 else t)))

def followUpFrame (c : Chan) (seq : Nat) (t : Int) : List Byte :=
  ptpFrame c none false (ptpMessage c 8 0 (stampRest t) seq 2 (c.geti Reg.TIM_PTP_INTV_SYNC) (stampBytes t))

def delayReqFrame (c : Chan) (to_ : Option (Nat × Nat)) (seq : Nat) (correction : Int) : List Byte :=
  ptpFrame c to_ true (ptpMessage c 1 0 correction seq 1 0x7F (stampBytes 0))

/-- A Delay_Resp to the sender of a Delay_Req, received at `t`: multicast (log entry 99). -/
def delayRespFrame (c : Chan) (m : PtpMsg) (t : Int) : List Byte :=
  ptpFrame c none false (ptpMessage c 9 0 (m.correction - stampRest t) m.seq 3 (c.geti Reg.TIM_PTP_INTV_DREQ)
    (stampBytes t ++ bytesBE 10 m.source))

def announceFrame (c : Chan) (seq : Nat) (d : PtpMaster) : List Byte :=
  ptpFrame c none false (ptpMessage c 11 0 0 seq 5 (c.geti Reg.TIM_PTP_INTV_ANN)
    (stampBytes 0 ++ bytesBE 2 (Config.frameChoice 3) ++ [0#8] ++ bytesBE 1 d.prio1 ++ bytesBE 1 d.clockClass ++
      bytesBE 1 d.accuracy ++ bytesBE 2 d.variance ++ bytesBE 1 d.prio2 ++ bytesBE 8 d.identity ++ bytesBE 2 d.steps ++
      bytesBE 1 (Config.frameChoice 4)))

def arpReplyFrame (c : Chan) (mac ip : Nat) : List Byte :=
  etherFrame c mac 0x0806 (bytesBE 8 0x0001080006040002 ++ bytesBE 6 (portMac c) ++ bytesBE 4 (portIp c) ++ bytesBE 6 mac ++
    bytesBE 4 ip)

def echoReplyFrame (c : Chan) (mac ip : Nat) (body : List Byte) : List Byte :=
  let m (sum : Nat) : List Byte := bytesBE 2 0 ++ bytesBE 2 sum ++ body
  etherFrame c mac 0x0800 (ipPacket c ip 1 [] (m (inetSum (m 0))))

/-- The IGMPv2 membership report for 224.0.1.129, with the router alert option. -/
def reportFrame (c : Chan) : List Byte :=
  let m (sum : Nat) : List Byte := bytesBE 2 0x1600 ++ bytesBE 2 sum ++ bytesBE 4 ptpGroup
  etherFrame c ptpGroupMac 0x0800 (ipPacket c ptpGroup 2 (bytesBE 4 0x94040000) (m (inetSum (m 0))))

end Sys2Proof.Machine
end

