-- ==== Sys2Proof/Machine/Ptp.lean ====
section
/-! DEFINITION. The PTP port on the T-lane (R355 to R358): an ordinary clock of IEEE 1588-2019. Times are in
2⁻¹⁶ ns. -/

namespace Sys2Proof.Machine

/-- The port runs: enabled, and the T-lane's link is up. -/
def ptpUp (c : Chan) : Bool := c.flag Reg.TIM_PTP_CFG_EN && c.flag Reg.TIM_PTP_STAT_LINK

/-- A frame is discarded and counted in DROPS (R355, R356). -/
def ptpDrop (c : Chan) : Chan := c.bump Reg.TIM_PTP_STAT_DROPS

/-- The checks of R356 on a message whose checksums pass. -/
def ptpOk (c : Chan) (m : PtpMsg) : Bool :=
  m.version == 2 && m.domain == c.get Reg.TIM_PTP_CFG_DOMAIN && m.lengthOk && (m.typ != 9 || m.requester == portId c)

/-- A message of type `typ` passes to `f` when the port runs and the checks of R356 pass; otherwise it is rejected (R343). -/
def ptpTake (c : Chan) (frame : List Byte) (typ : Nat) (f : PtpMsg → Chan → Chan) : Chan :=
  if !ptpUp c then c
  else match readFrame c frame with
    | .ptp m => if !ptpOk c m then timReject (ptpDrop c) 0 else if m.typ = typ then f m c else c
    | _ => timReject (ptpDrop c) 0

/-- Time at which a received message passed the balls: device time plus A, less INGRESS (R357). -/
def ptpRx (c : Chan) : Int := (c.now : Int) + c.tim.offset - (c.get Reg.TIM_PTP_INGRESS_LATENCY * 4096 : Nat)

/-- Time at which a transmitted message passes the balls: device time plus A, plus EGRESS (R357). -/
def ptpTx (c : Chan) : Int := (c.now : Int) + c.tim.offset + (c.get Reg.TIM_PTP_EGRESS_LATENCY * 4096 : Nat)

/-- delayAsymmetry in 2⁻¹⁶ ns. -/
def ptpAsym (c : Chan) : Int := c.geti Reg.TIM_PTP_ASYM_ASYM * 4096

/-- An announce interval of 2^ANN s, and the announce receipt timeout of ARTO of them, in crystal periods. -/
def annPeriod (c : Chan) : Nat := 2 ^ (c.geti Reg.TIM_PTP_INTV_ANN + 3).toNat * secPeriods / 8
def ptpTimeout (c : Chan) : Nat := c.get Reg.TIM_PTP_INTV_ARTO * annPeriod c

/-- What happened at a count of crystal periods lies within the announce receipt timeout. -/
def ptpFresh (c : Chan) (t : Option Nat) : Bool := t.any (fun t => decide (c.tim.age ≤ t + ptpTimeout c))

/-- Reference 0 is present in SLAVE with a Sync and a Delay_Resp within the announce receipt timeout (R342). -/
def ptpPresence (c : Chan) : Chan :=
  if c.get Reg.TIM_PTP_STAT_PORT = 9 ∧ ptpFresh c c.ptp.lastSync ∧ ptpFresh c c.ptp.lastResp then
    c.set (Reg.TIM_REFSTAT_PRESENT 0) 1
  else c

/-- The message comes from the present master and the port follows it. -/
def ptpFollows (c : Chan) (m : PtpMsg) : Bool :=
  (c.get Reg.TIM_PTP_STAT_PORT == 8 || c.get Reg.TIM_PTP_STAT_PORT == 9) &&
    match c.ptp.parent with
    | some p => p.port == m.source
    | none => false

/-- The offset from master by the present mean path delay (R357), once a whole Sync is known. -/
def ptpOffset (c : Chan) : Chan :=
  match c.ptp.t12 with
  | some (t1, t2) => c.seti Reg.TIM_PTP_OFM_OFM (t2 - t1 - (c.get Reg.TIM_PTP_MPD_MPD * 4096 : Nat))
  | none => c

/-- A Sync (R355, R357): its received time is taken; a one-step Sync carries its origin. -/
def opPtpSync (frame : List Byte) (c : Chan) : Chan :=
  ptpTake c frame 0 (fun m c =>
    if !ptpFollows c m then c
    else
      let t2 := ptpRx c
      let corr := m.correction + ptpAsym c
      let c := c.modPtp (fun p => { p with lastSync := some c.tim.age })
      let c := if m.twoStep then c.modPtp (fun p => { p with sync := some (m.seq, t2, corr) })
        else ptpOffset (c.modPtp (fun p => { p with t12 := some (m.time + corr, t2), sync := none }))
      ptpPresence c)

/-- A Follow_Up gives the origin of the Sync of its sequence number (R355). -/
def opPtpFollowUp (frame : List Byte) (c : Chan) : Chan :=
  ptpTake c frame 8 (fun m c =>
    match c.ptp.sync with
    | some (seq, t2, corr) =>
      if ptpFollows c m ∧ seq = m.seq then
        ptpOffset (c.modPtp (fun p => { p with t12 := some (m.time + corr + m.correction, t2), sync := none }))
      else c
    | none => c)

/-- A Delay_Resp gives the mean path delay and the offset (R355 to R357); the port is then a SLAVE. -/
def opPtpDelayResp (frame : List Byte) (c : Chan) : Chan :=
  ptpTake c frame 9 (fun m c =>
    match c.ptp.dreq, c.ptp.t12 with
    | some (seq, t3), some (t1, t2) =>
      if ptpFollows c m ∧ seq = m.seq then
        let mpd := ((t2 - t3) + (m.time - m.correction - t1)) / 2
        let c := c.seti Reg.TIM_PTP_MPD_MPD (mpd / 4096)
        let c := c.modPtp (fun p => { p with dreq := none, lastResp := some c.tim.age })
        let c := c.seti Reg.TIM_PTP_OFM_OFM (t2 - t1 - mpd)
        ptpPresence (c.set Reg.TIM_PTP_STAT_PORT 9)
      else c
    | _, _ => c)

/-- Data set comparison of IEEE 1588-2019: is `a` better than `b`? -/
def ptpBetter (a b : PtpMaster) : Bool :=
  let rank (m : PtpMaster) : List Nat := [m.prio1, m.clockClass, m.accuracy, m.variance, m.prio2, m.identity]
  if a.identity = b.identity then
    if a.steps = b.steps then decide (a.port < b.port) else decide (a.steps < b.steps)
  else decide (List.lt (rank a) (rank b))

/-- The data set of this clock as a master: clockClass 248 (R355), identity from its MAC address. -/
def ptpOwn (c : Chan) : PtpMaster :=
  { prio1 := c.get Reg.TIM_PTP_INTV_PRIO1, clockClass := 248, accuracy := 0xFE, variance := 0xFFFF,
    prio2 := c.get Reg.TIM_PTP_INTV_PRIO2, identity := clockId c, steps := 0, port := portId c }

/-- The best of the masters heard twice within the window. -/
def ptpBest (l : List (PtpMaster × Nat × Nat)) : Option PtpMaster :=
  l.foldl (fun best e =>
    if e.2.1 < 2 then best
    else match best with
      | none => some e.1
      | some b => if ptpBetter e.1 b then some e.1 else some b) none

/-- The state decision of the best master clock algorithm: a better master makes the port UNCALIBRATED on it,
unless it follows it already; otherwise the port is MASTER, or LISTENING with SLAVEONLY set. -/
def ptpDecide (c : Chan) : Chan :=
  match ptpBest c.ptp.foreign with
  | some b =>
    if c.flag Reg.TIM_PTP_CFG_SLAVEONLY || ptpBetter b (ptpOwn c) then
      let same := match c.ptp.parent with
        | some p => p.port == b.port
        | none => false
      let c := c.modPtp (fun p => { p with parent := some b })
      if same && (c.get Reg.TIM_PTP_STAT_PORT == 8 || c.get Reg.TIM_PTP_STAT_PORT == 9) then c
      else (c.modPtp (fun p => { p with sync := none, t12 := none, dreq := none })).set Reg.TIM_PTP_STAT_PORT 8
    else (c.modPtp (fun p => { p with parent := none })).set Reg.TIM_PTP_STAT_PORT 6
  | none => c

/-- An Announce feeds the best master clock algorithm (R355). The port's own and those of 255 steps or more do not. -/
def opPtpAnnounce (frame : List Byte) (c : Chan) : Chan :=
  ptpTake c frame 11 (fun m c =>
    if m.source / 2 ^ 16 = clockId c ∨ 255 ≤ m.master.steps then c else
    let win := 4 * annPeriod c
    let d := m.master
    let now := c.tim.age
    let old := c.ptp.foreign.find? (fun e => e.1.port == m.source)
    let n := match old with
      | some e => if now ≤ e.2.2 + win then e.2.1 + 1 else 1
      | none => 1
    let rest := c.ptp.foreign.filter (fun e => e.1.port != m.source && decide (now ≤ e.2.2 + win))
    ptpDecide (c.modPtp (fun p => { p with
      foreign := (d, n, now) :: rest
      stations := (m.source, m.mac, m.ip) :: p.stations.filter (fun e => rest.any (fun f => f.1.port == e.1)) })))

/-- As MASTER the port answers a Delay_Req (R355, R357). -/
def opPtpDelayReqReceive (frame : List Byte) (c : Chan) : Chan :=
  ptpTake c frame 1 (fun m c =>
    if c.get Reg.TIM_PTP_STAT_PORT = 6 then c.emit (.out (.frame c.num (delayRespFrame c m (ptpRx c)))) else c)

/-- As MASTER the port sends Sync, one-step or followed by Follow_Up (R358). -/
def opPtpSyncTransmit (c : Chan) : Chan :=
  if ptpUp c ∧ c.get Reg.TIM_PTP_STAT_PORT = 6 then
    let seq := c.ptp.seqSync
    let t := ptpTx c
    let c := c.modPtp (fun p => { p with seqSync := (seq + 1) % 65536 })
    if c.flag Reg.TIM_PTP_CFG_ONESTEP then c.emit (.out (.frame c.num (syncFrame c seq false t)))
    else (c.emit (.out (.frame c.num (syncFrame c seq true t)))).emit (.out (.frame c.num (followUpFrame c seq t)))
  else c

/-- As slave the port sends a Delay_Req, multicast or unicast, its correctionField
less delayAsymmetry (R355, R357). -/
def opPtpDelayReqTransmit (c : Chan) : Chan :=
  if ptpUp c ∧ (c.get Reg.TIM_PTP_STAT_PORT = 8 ∨ c.get Reg.TIM_PTP_STAT_PORT = 9) then
    let seq := c.ptp.seqDreq
    let t := ptpTx c
    let c := c.modPtp (fun p => { p with seqDreq := (seq + 1) % 65536, dreq := some (seq, t) })
    let to_ := if c.flag Reg.TIM_PTP_CFG_UNICAST_DR then
        (c.ptp.parent.bind (fun p => c.ptp.stations.find? (fun e => e.1 == p.port))).map (·.2)
      else none
    c.emit (.out (.frame c.num (delayReqFrame c to_ seq (-(ptpAsym c)))))
  else c

/-- As MASTER the port sends an Announce at each announce interval (R355). -/
def opAnnounceTransmit (c : Chan) : Chan :=
  if ptpUp c ∧ c.get Reg.TIM_PTP_STAT_PORT = 6 then
    let seq := c.ptp.seqAnn
    let c := c.modPtp (fun p => { p with seqAnn := (seq + 1) % 65536 })
    c.emit (.out (.frame c.num (announceFrame c seq (ptpOwn c))))
  else c

/-- A timeout of the PTP port (R342): with no Announce of its master, or while it listens none at all, within
announceReceiptTimeout, the port is MASTER, or LISTENING with SLAVEONLY set, and reference 0 goes absent; so it does with no
Sync or no Delay_Resp accepted in that time. -/
def opAnnounceTimeout (c : Chan) : Chan :=
  let heard := match c.ptp.parent with
    | some p => ptpFresh c ((c.ptp.foreign.find? (fun e => e.1.port == p.port)).map (·.2.2))
    | none => ptpFresh c (some c.ptp.listen)
  if !c.flag Reg.TIM_PTP_CFG_EN then c
  else if !heard then
    let age := c.tim.age
    let c := c.modPtp (fun p => { p with
      foreign := [], stations := [], parent := none, sync := none, t12 := none, dreq := none, listen := age })
    let c := if ptpUp c ∧ c.get Reg.TIM_PTP_STAT_PORT ≠ 6 then
        c.set Reg.TIM_PTP_STAT_PORT (if c.flag Reg.TIM_PTP_CFG_SLAVEONLY then 4 else 6)
      else c
    timAbsent c 0
  else if c.flag (Reg.TIM_REFSTAT_PRESENT 0) && !(ptpFresh c c.ptp.lastSync && ptpFresh c c.ptp.lastResp) then timAbsent c 0
  else c

/-- An ARP request for the port's address is answered (R355); for another address it is a frame that the port does not serve. -/
def opArpRequest (frame : List Byte) (c : Chan) : Chan :=
  if !ptpUp c then c
  else match readFrame c frame with
    | .arp mac ip target => if target = portIp c then c.emit (.out (.frame c.num (arpReplyFrame c mac ip))) else ptpDrop c
    | _ => ptpDrop c

/-- An ICMP echo request to the port's address is answered (R355). -/
def opIcmpEcho (frame : List Byte) (c : Chan) : Chan :=
  if !ptpUp c then c
  else match readFrame c frame with
    | .echo mac ip body => c.emit (.out (.frame c.num (echoReplyFrame c mac ip body)))
    | _ => ptpDrop c

/-- A frame that the port does not serve is discarded and counted (R355): another frame, or a PTP message of another kind, which
is a rejected input too (R343). A membership query is answered by a report. -/
def opDiscardedFrame (frame : List Byte) (c : Chan) : Chan :=
  if !ptpUp c then c
  else match readFrame c frame with
    | .ptp m => if ptpOk c m ∧ [0, 1, 8, 9, 11].contains m.typ then c else timReject (ptpDrop c) 0
    | .query => c.emit (.out (.frame c.num (reportFrame c)))
    | .arp _ _ target => if target = portIp c then c else ptpDrop c
    | .echo _ _ _ => c
    | _ => ptpDrop c

/-- The port begins to listen: it joins 224.0.1.129 (R355). -/
def ptpListen (c : Chan) : Chan :=
  let age := c.tim.age
  ((c.modPtp (fun p => { p with listen := age })).set Reg.TIM_PTP_STAT_PORT 4).emit (.out (.frame c.num (reportFrame c)))

/-- The port after a commit (R355): INITIALIZING without a link, LISTENING with one, DISABLED when off. -/
def ptpCommit (wasOn : Bool) (c : Chan) : Chan :=
  if c.flag Reg.TIM_PTP_CFG_EN then
    if wasOn then c
    else if c.flag Reg.TIM_PTP_STAT_LINK then ptpListen { c with ptp := {} }
    else { c with ptp := {} }.set Reg.TIM_PTP_STAT_PORT 1
  else if wasOn then { c with ptp := {} }.set Reg.TIM_PTP_STAT_PORT 3
  else c

/-- The T-lane's link comes up or goes down (R375). -/
def ptpLink (up : Bool) (c : Chan) : Chan :=
  let c := c.set Reg.TIM_PTP_STAT_LINK (b2n up)
  if c.flag Reg.TIM_PTP_CFG_EN then
    if up then ptpListen c
    else (c.modPtp (fun p => { p with parent := none, foreign := [], stations := [] })).set Reg.TIM_PTP_STAT_PORT 1
  else c

end Sys2Proof.Machine
end

