-- ==== Sys2Proof/Machine/Lanes.lean ====
section
/-! DEFINITION. The serial lanes (14_serial_lanes.md): bring-up, alignment and its loss, signal quality. A lane is
numbered as in R374: P-lane k is k, S-lane k is 16 + k, the T-lane is 20. -/

namespace Sys2Proof.Machine

/-- Group of a P-lane (R372). -/
def groupOf (c : Chan) (k : Nat) : Nat := if c.flag Reg.LNK_CFG_SPLIT then k / 4 else 4

/-- What a group carries (R372): 1 Ubnen-P, 2 an Ubnen-S path, 0 nothing. -/
def groupUse (c : Chan) (g : Nat) : Nat :=
  let m (k : Nat) := c.get (Reg.LNK_PCFG_MODE k)
  if c.flag Reg.LNK_CFG_SPLIT then
    if 4 ≤ g then 0
    else if m (4 * g) = 1 ∧ m (4 * g + 1) = 1 ∧ m (4 * g + 2) = 1 ∧ m (4 * g + 3) = 1 then 1
    else if m (4 * g) = 2 ∧ m (4 * g + 1) = 2 ∧ m (4 * g + 2) = 0 ∧ m (4 * g + 3) = 0 then 2
    else 0
  else if g = 4 ∧ (List.range 16).all (fun k => decide (m k = 1)) then 1 else 0

/-- The P-lanes of a group in use, logical lane 0 first (R362, R372). -/
def groupLanes (c : Chan) (g : Nat) : List Nat :=
  match groupUse c g with
  | 1 => if g = 4 then List.range 16 else [4 * g, 4 * g + 1, 4 * g + 2, 4 * g + 3]
  | 2 => [4 * g, 4 * g + 1]
  | _ => []

/-- The group is aligned (LNK_GSTAT). -/
def groupUp (c : Chan) (g : Nat) : Bool :=
  if g = 4 then c.flag Reg.LNK_GSTAT_G16 else bitAt (c.get Reg.LNK_GSTAT_GROUP) g

/-- Set or clear a group's bit of LNK_GSTAT. -/
def setGroup (c : Chan) (g : Nat) (up : Bool) : Chan :=
  if g = 4 then c.set Reg.LNK_GSTAT_G16 (b2n up)
  else c.set Reg.LNK_GSTAT_GROUP (setBitsOf (c.get Reg.LNK_GSTAT_GROUP) g 1 (b2n up))

/-- A receiving lane: a P-lane, or the T-lane at 20. -/
def isRx (k : Nat) : Bool := decide (k < 16) || k == 20

/-- The receiving lane is powered (R373). -/
def laneOn (c : Chan) (k : Nat) : Bool :=
  if k = 20 then c.flag Reg.TIM_PTP_CFG_EN else decide (c.get (Reg.LNK_PCFG_MODE k) ≠ 0)

/-- STEP of a receiving lane. -/
def laneStep (c : Chan) (k : Nat) : Nat :=
  if k = 20 then c.get Reg.LNK_TSTAT_STEP else c.get (Reg.LNK_PSTAT_STEP k)

/-- Index of a receiving lane's record. -/
def laneIx (k : Nat) : Nat := if k = 20 then 16 else k

/-- Timeout of a bring-up step in crystal periods of 40 ns, as LNK_TMO gives it to a step that begins now (R373). -/
def stepLimit (c : Chan) (v : Nat) : Nat :=
  match v with
  | 2 => c.get Reg.LNK_TMO_CDR * 2500
  | 3 => c.get Reg.LNK_TMO_COMMA * 250
  | 4 => c.get Reg.LNK_TMO_POL * 250
  | 5 | 6 => c.get Reg.LNK_TMO_ALIGN * 250
  | _ => 0

/-- Set STEP; the step begins now. -/
def setStep (c : Chan) (k v : Nat) : Chan :=
  let c := c.modLane (laneIx k) (fun l => { l with start := c.tim.age, limit := stepLimit c v })
  if k = 20 then c.set Reg.LNK_TSTAT_STEP v else c.set (Reg.LNK_PSTAT_STEP k) v

/-- Set INV. -/
def setInv (c : Chan) (k v : Nat) : Chan :=
  if k = 20 then c.set Reg.LNK_TSTAT_INV v else c.set (Reg.LNK_PSTAT_INV k) v

/-- POLFIX of a receiving lane. -/
def lanePolfix (c : Chan) (k : Nat) : Nat :=
  if k = 20 then c.get Reg.LNK_TCFG_POLFIX else c.get (Reg.LNK_PCFG_POLFIX k)

/-- What a transmitting lane sends (R371): the output for S-lane `k`, and for the T-lane. -/
def laneDrive (c : Chan) (sends k : Nat) : Output :=
  .drive c.num (16 + k) sends (c.get (Reg.LNK_SCFG_RATE k)) (c.get (Reg.LNK_SCFG_PRESET k)) (c.get (Reg.LNK_SCFG_PATTERN k))

def tLaneDrive (c : Chan) (sends : Nat) : Output := .drive c.num 20 sends 1 (c.get Reg.LNK_TCFG_PRESET) 0

/-- CUn_LREF is present again (R385): the T-lane sends if it is on. -/
def lrefBack (c : Chan) : Chan :=
  if c.tim.lref then c
  else
    let c := c.modTim (fun t => { t with lref := true })
    if laneOn c 20 then c.emit (.out (tLaneDrive c 1)) else c

/-- The T-lane's link goes down. -/
def tLinkDown (c : Chan) : Chan :=
  if c.flag Reg.LNK_GSTAT_TLINK then ptpLink false (c.set Reg.LNK_GSTAT_TLINK 0) else c

/-- A receiving lane goes back to a step of R373. -/
def laneBack (c : Chan) (k v : Nat) : Chan :=
  let c := setStep c k v
  if k = 20 then tLinkDown c else c

/-- Signal has been present for 10 µs (R373, step 1). -/
def opLaneSignal (k : Nat) (c : Chan) : Chan :=
  if isRx k ∧ laneOn c k ∧ laneStep c k = 1 then
    setStep (c.modLane (laneIx k) (fun l => { l with signal := true })) k 2
  else c

/-- The recovered clock has locked (R373, step 2), which says that CUn_LREF is present. -/
def opCdrLock (k : Nat) (c : Chan) : Chan :=
  if isRx k ∧ laneOn c k ∧ laneStep c k = 2 then
    setStep (lrefBack c) k 3
  else c

/-- Commas are aligned (R373, step 3); step 4 begins with the polarity that POLFIX gives first. -/
def opCommaAlign (k : Nat) (c : Chan) : Chan :=
  if isRx k ∧ laneOn c k ∧ laneStep c k = 3 then
    setInv (setStep c k 4) k (if lanePolfix c k = 2 then 1 else 0)
  else c

/-- The T-lane's link comes up (R374, R375). -/
def tLinkUp (c : Chan) : Chan :=
  let c := (c.set Reg.LNK_TSTAT_STEP 7).set Reg.LNK_GSTAT_TLINK 1
  ptpLink true (c.post 0x0801 .lnk 20 1)

/-- Step 4 completes with the lane's polarity fixed (R373); the T-lane goes on to auto-negotiation, or its link
is up with AN clear (R375). -/
def opPolarityPass (k : Nat) (c : Chan) : Chan :=
  if isRx k ∧ laneOn c k ∧ laneStep c k = 4 then
    if k = 20 then
      if c.flag Reg.LNK_TCFG_AN then setStep c k 5 else tLinkUp c
    else setStep c k 5
  else c

/-- Half of POL has passed without success under POLFIX 0 (R373). -/
def opPolarityInvert (k : Nat) (c : Chan) : Chan :=
  let l := c.lane (laneIx k)
  if isRx k ∧ laneOn c k ∧ laneStep c k = 4 ∧ lanePolfix c k = 0 ∧ 2 * l.start + l.limit ≤ 2 * c.tim.age then setInv c k 1 else c

/-- Every lane of a nonempty group satisfies `p`. -/
def groupAll (c : Chan) (g : Nat) (p : Nat → Bool) : Bool :=
  !(groupLanes c g).isEmpty && (groupLanes c g).all p

/-- Step 5 completes (R373): lane orders are normal, or reversed (REV). -/
def opLaneOrder (g : Nat) (rev : Bool) (c : Chan) : Chan :=
  if groupAll c g (fun k => laneStep c k == 5) then
    (groupLanes c g).foldl (fun c k => (setStep c k 6).set (Reg.LNK_PSTAT_REV k) (b2n rev)) c
  else c

/-- Step 6 completes (R373, R374): the group is aligned; `skews` gives each lane's SKEW in the group's order. -/
def opLaneUp (g : Nat) (skews : List Nat) (c : Chan) : Chan :=
  if groupAll c g (fun k => laneStep c k == 6) ∧ skews.all (fun x => decide (x ≤ 96)) then
    let ls := groupLanes c g
    let c := (List.range ls.length).foldl (fun c i =>
      let k := ls.getD i 0
      let c := (setStep c k 7).set (Reg.LNK_PSTAT_SKEW k) (skews.getD i 0)
      (c.modLane k (fun l => { l with lost := false, count := none })).post 0x0801 .lnk k
        (c.get (Reg.LNK_PCFG_RATE k))) c
    setGroup c g true
  else c

/-- One lane's bring-up timeout is counted and recorded (R373). -/
def laneTimeout (c : Chan) (k back : Nat) : Chan :=
  let st := laneStep c k
  let c := laneBack c k back
  if k = 20 then c else (c.bump (Reg.LNK_PERR_RESTART k)).set (Reg.LNK_PSTAT_FAIL k) st

/-- The age at which the timeout of a lane's step ends; of a group's step 5 or 6, which begins with its last lane. -/
def stepDue (c : Chan) (k : Nat) : Nat :=
  let l := c.lane (laneIx k)
  if k < 16 ∧ (laneStep c k = 5 ∨ laneStep c k = 6) then
    let z := (groupLanes c (groupOf c k)).foldl (fun (z : Lane) j => if z.start < (c.lane j).start then c.lane j else z) l
    z.start + z.limit
  else l.start + l.limit

/-- A step reaches its timeout (R373). Steps 5 and 6 are the group's. While CUn_LREF is absent, receivers stay at step 2
(R385). -/
def opBringupTimeout (k : Nat) (c : Chan) : Chan :=
  if isRx k ∧ laneOn c k ∧ stepDue c k ≤ c.tim.age then
    match laneStep c k with
    | 2 => if c.tim.lref then laneTimeout c k 1 else c
    | 3 => laneTimeout c k 2
    | 4 => laneTimeout c k 3
    | 5 =>
      if k = 20 then c
      else
        let g := groupOf c k
        if groupAll c g (fun j => laneStep c j == 5) then
          (groupLanes c g).foldl (fun c j => laneTimeout c j 5) c
        else c
    | 6 =>
      let g := groupOf c k
      if groupAll c g (fun j => laneStep c j == 6) then
        (groupLanes c g).foldl (fun c j => laneTimeout c j 5) c
      else c
    | _ => c
  else c

/-- An aligned P-lane is lost (R376): it goes to `back`, the other lanes of its group stay locked at step 5. -/
def laneLost (c : Chan) (k back : Nat) : Chan :=
  let g := groupOf c k
  let c := (groupLanes c g).foldl (fun c j =>
    if j ≠ k ∧ (laneStep c j = 6 ∨ laneStep c j = 7) then setStep c j 5 else c) c
  setStep (c.modLane k (fun l => { l with lost := true })) k back

/-- A receiving lane loses its signal (cause 0), its CDR lock (1), code-group integrity (2: four or more violations within 32
code groups) or fails at a marker (3) (R373, R376); `viol` violations are counted. DESIGN CHOICE (log entry 97): a lane whose
group is not aligned goes back for causes 1 to 3 too, to the step of R376 unless it is at an earlier one. -/
def opLaneLost (k cause viol : Nat) (c : Chan) : Chan :=
  if isRx k ∧ laneOn c k ∧ 1 ≤ laneStep c k ∧ cause < 4 ∧ (cause = 2 ∧ k < 16 → 4 ≤ viol) then
    let c := if k < 16 then c.bump (Reg.LNK_PERR_CODE k) viol else c
    let c := if cause = 0 then c.modLane (laneIx k) (fun l => { l with signal := false }) else c
    let c := if cause = 3 ∧ k < 16 then c.bump (Reg.LNK_PERR_MARKER k) else c
    let back := if cause ≤ 1 then 1 else 3
    if k = 20 then laneBack c k (min back (laneStep c k))
    else if (laneStep c k = 7 ∨ laneStep c k = 5) ∧ groupUp c (groupOf c k) then laneLost c k back
    else if cause = 0 then laneBack c k 1
    else if laneStep c k = 6 ∨ laneStep c k = 5 then laneLost c k back
    else laneBack c k (min back (laneStep c k))
  else c

/-- An alignment marker (R363): LANE, COUNT and CHECK, and the skew within the group. On an aligned lane a marker
that breaks a condition of R376 loses the lane. -/
def opAlignmentMarker (k laneNo count check skew : Nat) (c : Chan) : Chan :=
  if k < 16 ∧ laneOn c k ∧ 3 ≤ laneStep c k then
    let good := (markerSyms laneNo count).getLast? == some (Sym.data (BitVec.ofNat 8 check))
    let l := c.lane k
    let seqOk : Bool := match l.count with
      | some n => decide (count % 256 = (n + 1) % 256)
      | none => true
    let ls := groupLanes c (groupOf c k)
    let i := ls.findIdx (· == k)
    let want := if c.flag (Reg.LNK_PSTAT_REV k) then ls.length - 1 - i else i
    if laneStep c k = 7 then
      if good ∧ seqOk ∧ laneNo % 256 = want ∧ skew ≤ 96 then
        (c.modLane k (fun l => { l with count := some (count % 256), laneNo := some (laneNo % 256) })).set
          (Reg.LNK_PSTAT_SKEW k) skew
      else laneLost (c.bump (Reg.LNK_PERR_MARKER k)) k 3
    else if good then
      c.modLane k (fun l => { l with count := some (count % 256), laneNo := some (laneNo % 256) })
    else c
  else c

/-- The group's next marker position after a loss (R377). -/
def opAlignLost (g : Nat) (c : Chan) : Chan :=
  if groupUp c g ∧ (groupLanes c g).any (fun k => (c.lane k).lost) then
    let c := (groupLanes c g).foldl (fun c k =>
      if (c.lane k).lost then
        let c := (c.post 0x0802 .lnk k g).modLane k (fun l => { l with lost := false })
        { c with lanes := { c.lanes with alignLost := satAdd 16 c.lanes.alignLost 1 } }
      else c) c
    (setGroup c g false).bump Reg.LNK_LOST_COUNT
  else c

/-- Clause 37 auto-negotiation completes (R375). -/
def opAutonegComplete (partner : Nat) (c : Chan) : Chan :=
  if laneOn c 20 ∧ laneStep c 20 = 5 then tLinkUp (c.set Reg.LNK_TSTAT_PARTNER partner) else c

/-- What S-lane k is to send (R371): 1 packets, 2 PRBS, 0 electrical idle. -/
def sSends (c : Chan) (k : Nat) : Nat :=
  if c.flag (if k < 2 then Reg.PKT_PATH_ENA else Reg.PKT_PATH_ENB) then 1
  else if c.mode = 7 ∧ c.flag (Reg.LNK_SCFG_PRBSGEN k) then 2
  else 0

/-- PATHA and PATHB: both lanes of the path send packets. -/
def setPaths (c : Chan) : Chan :=
  let on (k : Nat) := c.get (Reg.LNK_SSTAT_SENDS k) == 1
  (c.set Reg.LNK_GSTAT_PATHA (b2n (on 0 && on 1))).set Reg.LNK_GSTAT_PATHB (b2n (on 2 && on 3))

/-- An S-lane's transmitter has locked and starts sending (R371, R374). -/
def opSLaneTxStart (k : Nat) (c : Chan) : Chan :=
  let s := sSends c k
  if k < 4 ∧ s ≠ 0 ∧ c.get (Reg.LNK_SSTAT_SENDS k) = 0 then
    let c := lrefBack c
    let c : Chan := { c with lanes := { c.lanes with txOn := c.lanes.txOn ++ [k] } }
    let c := (c.set (Reg.LNK_SSTAT_SENDS k) s).emit (.out (laneDrive c s k))
    setPaths (c.post 0x0801 .lnk (16 + k) (c.get (Reg.LNK_SCFG_RATE k)))
  else c

/-- An S-lane goes to electrical idle. -/
def sIdle (c : Chan) (k : Nat) : Chan :=
  if c.get (Reg.LNK_SSTAT_SENDS k) = 0 then c
  else
    setPaths ({ c.set (Reg.LNK_SSTAT_SENDS k) 0 with
      lanes := { c.lanes with txOn := c.lanes.txOn.filter (· != k) } }.emit (.out (laneDrive c 0 k)))

/-- CUn_LREF goes absent (R385): receivers stay at step 2, an aligned lane being lost; transmitters idle. -/
def opLrefLoss (c : Chan) : Chan :=
  let c := if c.tim.lref ∧ laneOn c 20 then c.emit (.out (tLaneDrive c 0)) else c
  let c := c.modTim (fun t => { t with lref := false })
  let c := forN 16 (fun k c =>
    if laneOn c k ∧ 2 ≤ laneStep c k then
      let c := if groupUp c (groupOf c k) then c.modLane k (fun l => { l with lost := true }) else c
      setStep c k 2
    else c) c
  let c := if laneOn c 20 ∧ 2 ≤ laneStep c 20 then laneBack c 20 2 else c
  forN 4 (fun k c => sIdle c k) c

/-- The write of LNK_PCTL (R381 to R383): CLEAR zeroes the PRBS counts, SCAN starts an eye scan with the DWELL written. -/
def actPctl (k v : Nat) (c : Chan) : Chan :=
  let c := if bitAt v 1 then (c.set (Reg.LNK_PRBS_BITS_COUNT k) 0).set (Reg.LNK_PRBS_ERRS_COUNT k) 0 else c
  if bitAt v 2 then (c.set (Reg.LNK_PSTAT_SCANBUSY k) 1).modLane k (fun l => { l with dwell := c.get (Reg.LNK_PCTL_DWELL k) })
  else c

/-- Key of LNK_EYE_IDX of P-lane k. -/
def eyeIdx (k : Nat) : Nat := 0x1140 + 0x1000 * k

/-- An eye scan completes (R383): bits in error at each of the 2,048 points, of the 2^DWELL compared there. -/
def opEyeScanDone (k : Nat) (errs : List Nat) (c : Chan) : Chan :=
  if k < 16 ∧ c.flag (Reg.LNK_PSTAT_SCANBUSY k) then
    let most := 2 ^ (c.lane k).dwell
    let c := forN 2048 (fun i c => c.setEntry (eyeIdx k) i 0 (min (errs.getD i 0) most)) c
    c.set (Reg.LNK_PSTAT_SCANBUSY k) 0
  else c

/-- The PRBS checker takes bits of the line, oldest first (R382): it locks, unlocks, and counts while it is locked. -/
def opPrbsLock (k : Nat) (bits : List Bool) (c : Chan) : Chan :=
  if k < 16 ∧ c.get (Reg.LNK_PCFG_MODE k) = 3 then
    let (p, locked, n, e) :=
      bits.foldl (prbsBit (c.get (Reg.LNK_PCFG_PATTERN k))) ((c.lane k).prbs, c.flag (Reg.LNK_PSTAT_PLOCK k), 0, 0)
    ((c.inc (Reg.LNK_PRBS_BITS_COUNT k) n).inc (Reg.LNK_PRBS_ERRS_COUNT k) e).set (Reg.LNK_PSTAT_PLOCK k) (b2n locked)
      |>.modLane k (fun l => { l with prbs := p })
  else c

/-- The equaliser moves each setting by at most one code, at most once every 100 µs, unless HOLD is set (R381). -/
def opAdaptation (k : Nat) (moves : List Int) (c : Chan) : Chan :=
  let due : Bool := match (c.lane (laneIx k)).adapted with
    | some a => decide (a + 2500 ≤ c.tim.age)
    | none => true
  if isRx k ∧ laneOn c k ∧ (k = 20 ∨ ¬ c.flag (Reg.LNK_PCTL_HOLD k)) ∧ due then
    c.modLane (laneIx k) (fun l => { l with
      adapted := some c.tim.age
      eq := (List.range (max l.eq.length moves.length)).map (fun i =>
        ((l.eq.getD i 0 : Nat) + max (-1) (min 1 (moves.getD i 0)) : Int).toNat) })
  else c

/-- The monitor sampler updates FOM (R381), which keeps its value while an eye scan runs (R383). -/
def opFomUpdate (k fom : Nat) (c : Chan) : Chan :=
  if isRx k ∧ laneOn c k then
    if k = 20 then c.set Reg.LNK_TSTAT_FOM (min fom 255)
    else if c.flag (Reg.LNK_PSTAT_SCANBUSY k) then c
    else
      (c.set (Reg.LNK_PSTAT_FOM k) (min fom 255)).set (Reg.LNK_PFOMMIN_MIN k)
        (min (c.get (Reg.LNK_PFOMMIN_MIN k)) (min fom 255))
  else c

/-- The 48 bytes of LANE_STATE (R384) for a unit in RUN. -/
def laneSummary (c : Chan) : List Nat :=
  let step (k : Nat) : Nat :=
    if k < 16 then
      laneStep c k + 8 * c.get (Reg.LNK_PSTAT_INV k) + 128 * c.get (Reg.LNK_PSTAT_REV k) +
        (if laneOn c k then 16 * c.get (Reg.LNK_PCFG_RATE k) else 0)
    else if k < 20 then
      (if c.get (Reg.LNK_SSTAT_SENDS (k - 16)) ≠ 0 then 7 + 16 * c.get (Reg.LNK_SCFG_RATE (k - 16)) else 0)
    else laneStep c 20 + 8 * c.get Reg.LNK_TSTAT_INV + (if laneOn c 20 then 16 else 0)
  let fom (k : Nat) : Nat :=
    if k < 16 then c.get (Reg.LNK_PSTAT_FOM k) else if k = 20 then c.get Reg.LNK_TSTAT_FOM else 0
  [c.num, (c.get Reg.LNK_GSTAT_GROUP) + 16 * c.get Reg.LNK_GSTAT_G16 + 32 * c.get Reg.LNK_GSTAT_PATHA +
      64 * c.get Reg.LNK_GSTAT_PATHB + 128 * c.get Reg.LNK_GSTAT_TLINK] ++
    (List.range 21).map step ++ (List.range 21).map fom ++
    [c.lanes.alignLost % 256, c.lanes.alignLost / 256, 0, 0]

/-- What a commit does to the lanes (R373, R385); `o` is the unit with the configuration before. A group that a
commit restarts ceases to be aligned and posts nothing (R377). -/
def lanesCommit (o c : Chan) : Chan :=
  let split := o.get Reg.LNK_CFG_SPLIT != c.get Reg.LNK_CFG_SPLIT
  let restart (k : Nat) : Bool :=
    o.get (Reg.LNK_PCFG_MODE k) != c.get (Reg.LNK_PCFG_MODE k) ||
      o.get (Reg.LNK_PCFG_RATE k) != c.get (Reg.LNK_PCFG_RATE k)
  let polfix (k : Nat) : Bool := o.get (Reg.LNK_PCFG_POLFIX k) != c.get (Reg.LNK_PCFG_POLFIX k) && laneStep o k == 7
  let hit (g : Nat) : Bool :=
    groupUp o g && (split || (groupLanes o g).any (fun k => restart k || polfix k) ||
      groupUse o g != groupUse c g)
  let c := forN 5 (fun g c => if hit g then setGroup c g false else c) c
  let c := forN 16 (fun k c =>
    if c.get (Reg.LNK_PCFG_MODE k) = 0 then
      if laneStep c k = 0 then c
      else ((setStep c k 0).set (Reg.LNK_PSTAT_PLOCK k) 0).modLane k (fun l => { l with lost := false, prbs := {} })
    else if restart k then
      ((setStep c k 1).set (Reg.LNK_PSTAT_PLOCK k) 0).modLane k (fun l => { l with lost := false, count := none, prbs := {} })
    else if polfix k then
      (setInv (setStep c k 4) k (if lanePolfix c k = 2 then 1 else 0)).modLane k (fun l => { l with lost := false })
    else if 5 ≤ laneStep c k ∧ (split ∨ hit (groupOf o k)) then
      (setStep c k 5).modLane k (fun l => { l with lost := false })
    else c) c
  let c := if c.tim.lref ∧ (laneOn o 20 != laneOn c 20 ∨ laneOn c 20 ∧ o.get Reg.LNK_TCFG_PRESET ≠ c.get Reg.LNK_TCFG_PRESET) then
      c.emit (.out (tLaneDrive c (b2n (laneOn c 20))))
    else c
  let c := if laneOn c 20 then
      if !laneOn o 20 then setStep c 20 1
      else if o.get Reg.LNK_TCFG_POLFIX ≠ c.get Reg.LNK_TCFG_POLFIX ∧ laneStep o 20 = 7 then laneBack c 20 4
      else c
    else if laneOn o 20 then laneBack c 20 0 else c
  forN 4 (fun k c =>
    let now := c.get (Reg.LNK_SSTAT_SENDS k)
    if sSends c k ≠ now ∨ o.get (Reg.LNK_SCFG_RATE k) ≠ c.get (Reg.LNK_SCFG_RATE k) then sIdle c k
    else if now ≠ 0 ∧ (o.get (Reg.LNK_SCFG_PRESET k) ≠ c.get (Reg.LNK_SCFG_PRESET k) ∨
        now = 2 ∧ o.get (Reg.LNK_SCFG_PATTERN k) ≠ c.get (Reg.LNK_SCFG_PATTERN k)) then
      c.emit (.out (laneDrive c now k))
    else c) c

/-- The code groups of a run of columns as they stand on the lanes, made symbols: a lane with INV is inverted, and a group with REV
is taken in reversed order, so that logical lane 0 comes first (R362, R373). -/
def runSyms (c : Chan) (k : ColumnRun) : List (List (Option Sym)) :=
  let ls := groupLanes c k.group
  let inv (j : Nat) : Bool := c.flag (Reg.LNK_PSTAT_INV j)
  let cols := k.columns.map (fun col => (ls.zip col).map (fun p => if inv p.1 then 1023 - p.2 % 1024 else p.2 % 1024))
  let rev := (ls.head?.map (fun j => c.flag (Reg.LNK_PSTAT_REV j))).getD false
  (readColumns k.rds cols).map (fun col => if rev then col.reverse else col)

/-- The violations on each lane of a run are counted (R376). -/
def countViolations (k : ColumnRun) (c : Chan) : Chan :=
  let ls := groupLanes c k.group
  let rev := (ls.head?.map (fun j => c.flag (Reg.LNK_PSTAT_REV j))).getD false
  let syms := (runSyms c k).map (fun col => if rev then col.reverse else col)
  (List.range ls.length).foldl (fun c i =>
    let n := (syms.filter (fun col => col[i]? == some none)).length
    if n = 0 then c else c.bump (Reg.LNK_PERR_CODE (ls.getD i 0)) n) c

/-- The packet of a run of columns, markers removed (R362, R363). -/
def runBody (c : Chan) (k : ColumnRun) : Option RxBody :=
  let syms := runSyms c k
  rxBody (groupLanes c k.group).length (dropMarkers syms.length syms)

end Sys2Proof.Machine
end

