-- ==== Sys2Proof/Machine/Pixels.lean ====
section
/-! DEFINITION. Pixel words and the sample arithmetic of capture and composition: formats (R192 to R194, R205,
R206), blending (R212, R213), scaling (R214), the colour matrix (R217), chroma and depth of renditions (R218). -/

namespace Sys2Proof.Machine

/-- A pixel word: three 16-bit components; a layer sample has an alpha too. -/
structure Pixel where
  c0 : Nat
  c1 : Nat
  c2 : Nat
  deriving DecidableEq, Repr

/-- Component k of a pixel. -/
def Pixel.comp (p : Pixel) (k : Nat) : Nat := if k = 0 then p.c0 else if k = 1 then p.c1 else p.c2

/-- The 48-bit word of a pixel, C0 in bits 47:32. -/
def Pixel.word (p : Pixel) : Nat := p.c0 * 2 ^ 32 + p.c1 * 2 ^ 16 + p.c2

/-- The pixel of a 48-bit word. -/
def pixelOf (w : Nat) : Pixel := ⟨bitsOf w 32 16, bitsOf w 16 16, bitsOf w 0 16⟩

/-- The six bytes of a pixel word in memory, little-endian (R195). -/
def Pixel.bytes (p : Pixel) : List Byte := bytesLE 6 p.word

/-- The six bytes of a pixel in a swatch CRC, most significant first (R221). -/
def Pixel.crcBytes (p : Pixel) : List Byte := bytesBE 6 p.word

/-- The pixels of a run of memory bytes; `n` of them. -/
def pixelsOf : Nat → List Byte → List Pixel
  | 0, _ => []
  | n + 1, bs => pixelOf (ofBytesLE (bs.take 6)) :: pixelsOf n (bs.drop 6)

/-! ### Source formats (R192, R194) -/

/-- Bits, pixels per group, bytes per group of a format code; none for an undefined code. -/
def fmtInfo (f : Nat) : Option (Nat × Nat × Nat) :=
  if f = 0x01 then some (16, 1, 6) else if f = 0x02 then some (12, 2, 9)
  else if f = 0x03 then some (10, 1, 4) else if f = 0x04 then some (8, 1, 3)
  else if f = 0x11 then some (16, 2, 8) else if f = 0x12 then some (12, 2, 6)
  else if f = 0x13 then some (10, 2, 5) else if f = 0x14 then some (8, 2, 4)
  else none

/-- Bytes of one line of `w` pixels (R192). -/
def lineBytes (f w : Nat) : Nat :=
  match fmtInfo f with
  | some (_, ppg, bpg) => w / ppg * bpg
  | none => 0

/-- The pixels of one group given as an integer, most significant field first; 4:2:2 gives (C0, C1, C2) of the even
pixel and C0 of the odd one, whose chroma R194 fills in. -/
def groupPixels (f g : Nat) : List Pixel :=
  match fmtInfo f with
  | none => []
  | some (n, ppg, bpg) =>
    let top := 8 * bpg
    let fld (i : Nat) : Nat := bitsOf g (top - (i + 1) * n) n * 2 ^ (16 - n)
    if f / 16 = 1 then [⟨fld 1, fld 0, fld 2⟩, ⟨fld 3, 0, 0⟩]
    else (List.range ppg).map (fun p => ⟨fld (3 * p), fld (3 * p + 1), fld (3 * p + 2)⟩)

/-- The groups of a line; `big`: most significant byte first, as on the P-lanes (R193). -/
def groupsOf (f : Nat) (big : Bool) : Nat → List Byte → List Pixel
  | 0, _ => []
  | n + 1, bs =>
    match fmtInfo f with
    | none => []
    | some (_, _, bpg) =>
      let g := bs.take bpg
      groupPixels f (if big then ofBytesBE g else ofBytesLE g) ++ groupsOf f big n (bs.drop bpg)

/-- Step 2 of R194: the chroma of each odd x of a 4:2:2 line. -/
def fillChroma : List Pixel → List Pixel
  | p :: q :: r :: rest =>
    p :: ⟨q.c0, (p.c1 + r.c1 + 1) / 2, (p.c2 + r.c2 + 1) / 2⟩ :: fillChroma (r :: rest)
  | [p, q] => [p, ⟨q.c0, p.c1, p.c2⟩]
  | l => l

/-- The pixel words of one line (R194). -/
def expandLine (f w : Nat) (big : Bool) (bs : List Byte) : List Pixel :=
  match fmtInfo f with
  | none => []
  | some (_, ppg, _) =>
    let ps := groupsOf f big (w / ppg) bs
    if f / 16 = 1 then fillChroma ps else ps

/-! ### Layer formats (R205, R206) -/

/-- A layer sample with its alpha. -/
structure Sample where
  px : Pixel
  alpha : Nat
  deriving DecidableEq, Repr

/-- Bytes per pixel of a layer format. -/
def layerBytes (f : Nat) : Nat :=
  if f = 0 then 6 else if f = 1 then 8 else if f = 2 then 4 else if f = 3 then 5 else 1

/-- An alpha of 8 or 10 bits widened by repeating its bits from the top (R206). -/
def wideAlpha (n a : Nat) : Nat :=
  if n = 8 then a * 256 + a else if n = 10 then a * 64 + a / 16 else a

/-- One layer pixel from its memory word; `clut` gives an entry of the lookup table as an RGBA64 word. -/
def layerSample (f w : Nat) (clut : Nat → Nat) : Sample :=
  let rgba (v : Nat) : Sample := ⟨⟨bitsOf v 32 16, bitsOf v 16 16, bitsOf v 48 16⟩, bitsOf v 0 16⟩
  if f = 0 then ⟨pixelOf w, 0xFFFF⟩
  else if f = 1 then rgba w
  else if f = 2 then
    ⟨⟨bitsOf w 8 8 * 256, bitsOf w 0 8 * 256, bitsOf w 16 8 * 256⟩, wideAlpha 8 (bitsOf w 24 8)⟩
  else if f = 3 then
    ⟨⟨bitsOf w 30 10 * 64, bitsOf w 20 10 * 64, bitsOf w 10 10 * 64⟩, wideAlpha 10 (bitsOf w 0 10)⟩
  else rgba (clut (w % 256))

/-! ### Blending (R212, R213) -/

/-- Alpha on 0 to 65,536. -/
def a17 (a : Nat) : Nat := a + a / 32768

/-- Round half up after 16 fractional bits. -/
def rnd16 (v : Nat) : Nat := (v + 32768) / 65536

/-- One component of R212. -/
def blend1 (premul : Bool) (g a c acc : Nat) : Nat :=
  if premul then min 65535 (rnd16 (c * g) + rnd16 (acc * (65536 - a)))
  else rnd16 (c * a + acc * (65536 - a))

/-- One layer over a composite (R212). -/
def blend (premul : Bool) (galpha : Nat) (s : Sample) (acc : Pixel) : Pixel :=
  let g := a17 galpha
  let a := rnd16 (a17 s.alpha * g)
  ⟨blend1 premul g a s.px.c0 acc.c0, blend1 premul g a s.px.c1 acc.c1, blend1 premul g a s.px.c2 acc.c2⟩

/-- The composite that enters L6 differs from R212 by at most 1 in each component (R213): `e` is a free number per
component, taken into −1 to 1. -/
def offByOne (e : Nat → Int) (p : Pixel) : Pixel :=
  let f (k v : Nat) : Nat := (max 0 (min 65535 ((v : Int) + max (-1) (min 1 (e k))))).toNat
  ⟨f 0 p.c0, f 1 p.c1, f 2 p.c2⟩

/-! ### Scaling (R214) -/

/-- An integer clamped into a range, as a natural number. -/
def clampi (x : Int) (lo hi : Nat) : Nat := (max (lo : Int) (min (hi : Int) x)).toNat

/-- Centre index and phase of output sample x of an axis scaled from `sw` to `dw` (R214). -/
def scalePos (sw dw x : Nat) : Int × Nat :=
  let step : Int := ((sw * 65536 / dw % 2 ^ 32 : Nat) : Int)
  let p : Int := (x : Int) * step + (step - 65536) / 2
  (p / 65536, ((p / 1024) % 64).toNat)

/-- One scaled sample: `taps` taps from index centre − `back`, coefficients by phase and tap (R214). -/
def scaleAt (sw dw taps back : Nat) (coef : Nat → Nat → Int) (s : Nat → Nat) (x : Nat) : Nat :=
  let (i, ph) := scalePos sw dw x
  let sum : Int := (List.range taps).foldl
    (fun z t => z + coef ph t * (s (clampi (i - back + t) 0 (sw - 1)) : Nat)) 0
  clampi ((sum + 1024) / 2048) 0 65535

/-- A sample of an image scaled on both axes, vertical pass on horizontally scaled lines (R214). -/
def scale2 (sw dw sh dh : Nat) (ch cv : Nat → Nat → Int) (s : Nat → Nat → Nat) (x y : Nat) : Nat :=
  scaleAt sh dh 6 2 cv (fun r => scaleAt sw dw 8 3 ch (fun u => s u r) x) y

/-! ### Colour matrix (R217) and renditions (R218) -/

/-- One output component of the matrix. -/
def matrixRow (m : Nat → Int) (off : Nat → Int) (out : Int) (p : Pixel) : Nat :=
  let s : Int := (List.range 3).foldl (fun z j => z + m j * ((p.comp j : Int) - off j)) 0
  clampi ((s + 32768) / 65536 + out) 0 65535

/-- Quantise to B bits, MSB-aligned (R218). -/
def quantise (b v : Nat) : Nat :=
  if b ≥ 16 then v else min 65535 (v + 2 ^ (15 - b)) / 2 ^ (16 - b) * 2 ^ (16 - b)

/-- Horizontal chroma at an even x: DECIMATE or FILTER, edges repeated (R218). -/
def chromaH (filter : Bool) (w : Nat) (c : Nat → Nat) (x : Nat) : Nat :=
  if filter then (c (x - 1) + 2 * c x + c (min (x + 1) (w - 1)) + 2) / 4 else c x

end Sys2Proof.Machine
end

