-- ==== Sys2Proof/Machine/Raster.lean ====
section
/-! DEFINITION. Line ticks and their arithmetic (R11, R159 to R165), and how a raster lies on device time (R162,
R163, R353). -/

namespace Sys2Proof.Machine

/-- A due time from frame count and line (R11). -/
def tickOf (f l : Nat) : Nat := f % 65536 * 65536 + l

/-- Frame count and line of a due time. -/
def tickFrame (t : Nat) : Nat := t / 65536
def tickLine (t : Nat) : Nat := t % 65536

/-- a − b in line ticks on a raster of n lines (07, "Due times and tick arithmetic"). -/
def ltDiff (a b n : Nat) : Int :=
  signedOf 16 ((tickFrame a + 65536 - tickFrame b) % 65536) * n + (tickLine a : Int) - (tickLine b : Int)

/-- t + d on a raster of n lines. -/
def ltAdd (t d n : Nat) : Nat :=
  let l := tickLine t + d
  tickOf (tickFrame t + l / n) (l % n)

/-- t − d on a raster of n lines. -/
def ltSub (t d n : Nat) : Nat :=
  let k := (d + n - 1) / n
  ltAdd (tickOf (tickFrame t + 65536 - k) (tickLine t)) (k * n - d) n

/-- Tick a is earlier than tick b (R165). -/
def ltBefore (a b n : Nat) : Bool := decide (ltDiff a b n < 0)

/-- Frame a is earlier than frame b, by 16-bit counts. -/
def frameBefore (a b : Nat) : Bool := decide (signedOf 16 ((a + 65536 - b % 65536) % 65536) < 0)

/-- Device time at which tick (frame, l) of the raster's present frame falls, in 2⁻¹⁶ ns. -/
def Raster.lineTime (r : Raster) (l : Nat) : Int :=
  r.base + ((r.index * r.den * secUnits / r.num + l * r.den * secUnits / (r.num * r.total) : Nat) : Int)

/-- The line period τ in 2⁻¹⁶ ns, rounded down. -/
def Raster.tau (r : Raster) : Nat := r.den * secUnits / (r.num * r.total)

/-- Device time of any tick within 32,768 frames of the raster's present one. -/
def Raster.timeOf (r : Raster) (t : Nat) : Int :=
  let df := signedOf 16 ((tickFrame t + 65536 - tickFrame r.tick) % 65536)
  let i : Int := (r.index : Int) + df
  r.base + i * ((r.den * secUnits : Nat) : Int) / (r.num : Int)
    + ((tickLine t * r.den * secUnits / (r.num * r.total) : Nat) : Int)

/-- The next tick; a boundary that a commit has reached is its own next tick. -/
def Raster.next (r : Raster) : Raster :=
  if r.pre then { r with pre := false } else
  let t := ltAdd r.tick 1 r.total
  { r with tick := t, index := if tickLine t = 0 then r.index + 1 else r.index }

/-- The raster of an identifier: the one in force, or an old one (R505). -/
def Chan.rasterOf (c : Chan) (rid : Nat) : Option Raster :=
  match c.sched.raster with
  | some r => if r.id = rid then some r else c.sched.old.find? (fun r => r.id == rid)
  | none => c.sched.old.find? (fun r => r.id == rid)

/-- Device time of a tick of a raster, for ordering: the same order as R165 on one raster. -/
def Chan.timeOfTick (c : Chan) (rid t : Nat) : Int :=
  match c.rasterOf rid with
  | some r => r.timeOf t
  | none => 0

/-- Nanoseconds of `n` line periods. -/
def ProgCfg.ltNs (g : ProgCfg) (n : Nat) : Nat := n * g.den * 1000000000 / (g.num * g.total)

/-- The unit has a line tick. -/
def Chan.ticking (c : Chan) : Bool := c.sched.raster.isSome

/-- TOTAL and ACTIVE of the raster in force. -/
def Chan.total (c : Chan) : Nat :=
  match c.sched.raster with
  | some r => r.total
  | none => c.get Reg.CAP_RASTER_LINES_TOTAL

def Chan.active (c : Chan) : Nat :=
  match c.sched.raster with
  | some r => r.active
  | none => c.get Reg.CAP_RASTER_LINES_ACTIVE

/-- The frame count of the tick. -/
def Chan.frame (c : Chan) : Nat := tickFrame c.tick

/-- The lane group whose raster M1 and M4 follow: that of the source of context 0 (R342). -/
def liveGroup (c : Chan) : Nat := c.get (Reg.CAP_SRC_CFG_GROUP (c.get (Reg.CMP_CTX_CFG_SRC 0)))

/-- The latest instant at or before device time `t` at which a frame boundary of M1 or M4 may be laid (R353): the next
line packet is to complete 2 lt before the tick of its line, which the last one heard on the group tells. With none heard
it is `t` itself. -/
def liveBoundary (c : Chan) (t : Nat) : Int :=
  let num := c.get Reg.CAP_RASTER_RATE_NUM
  let den := c.get Reg.CAP_RASTER_RATE_DEN
  let total := c.get Reg.CAP_RASTER_LINES_TOTAL
  match c.lanes.heard.find? (fun e => e.1 == liveGroup c) with
  | none => (t : Int)
  | some (_, l, x) =>
    let first : Int := (x : Int) + (2 - (l : Int)) * ((den * secUnits : Nat) : Int) / ((num * total : Nat) : Int)
    let k := ((t : Int) - first) * (num : Int) / ((den * secUnits : Nat) : Int)
    first + k * ((den * secUnits : Nat) : Int) / (num : Int)

/-- The raster that a commit from M7, of another MODE or of another raster lays (R140, R162, R163, R353), at its latest
frame boundary at or before device time `t`. In M1 and M4 the origin T0 is that boundary; in the other modes ticks are
laid on device time from zero, OFFSET lines later. The frame count is floor(t × NUM / DEN) of the boundary. -/
def layRaster (c : Chan) (t : Nat) : Raster :=
  let num := c.get Reg.CAP_RASTER_RATE_NUM
  let den := c.get Reg.CAP_RASTER_RATE_DEN
  let total := c.get Reg.CAP_RASTER_LINES_TOTAL
  let live := c.mode = 1 ∨ c.mode = 4
  let off := c.get Reg.CAP_RASTER_PHASE_OFFSET * den * secUnits / (num * total)
  let b := liveBoundary c t
  let n := if live then b.toNat * num / (den * secUnits) else (t - off) * num / (den * secUnits)
  { id := c.sched.nextRid, pre := true
    num := num, den := den, total := total, active := c.get Reg.CAP_RASTER_LINES_ACTIVE
    tick := tickOf n 0
    base := if live then b else (off : Int)
    index := if live then 0 else n }

end Sys2Proof.Machine
end

