-- ==== Sys2Proof/Machine/Capture.lean ====
section
/-! DEFINITION. Capture (08_capture_and_composition.md): line packets and their checks (R197, R366), retirement
(R196), readiness of sources (R198, R199). -/

namespace Sys2Proof.Machine

/-- The source is enabled and acted on: in M7 none is (R143). -/
def srcOn (c : Chan) (s : Nat) : Bool := c.flag (Reg.CAP_SRC_CFG_EN s) && c.mode != 7
def srcKind (c : Chan) (s : Nat) : Nat := c.get (Reg.CAP_SRC_CFG_KIND s)
def srcWidth (c : Chan) (s : Nat) : Nat := c.get (Reg.CAP_SRC_GEOM_WIDTH s)
def srcReady (c : Chan) (s : Nat) : Bool := c.flag (Reg.CAP_SRC_STAT_READY s)

/-- HBM address of line `l` of frame `f` in a source's buffers (R195). -/
def srcLineAddr (c : Chan) (s f l : Nat) : Nat :=
  let w := srcWidth c s
  c.get (Reg.CAP_SRC_BUF_ADDR s) * 4096 + f % 3 * (w * c.active * 6) + l * (w * 6)

/-- Write the pixel words of a line into its buffer (R195). -/
def writeLine (c : Chan) (s f l : Nat) (ps : List Pixel) : Chan :=
  memWrite c (srcLineAddr c s f l) 0 ((ps.map Pixel.bytes).flatten)

/-- The enabled kind-0 source that a group feeds. -/
def srcOfGroup (c : Chan) (g : Nat) : Option Nat :=
  (List.range 4).find? (fun s => srcOn c s && srcKind c s == 0 && c.get (Reg.CAP_SRC_CFG_GROUP s) == g)

/-- The line that the next packet of a source should carry. -/
def expectLine (c : Chan) (s : Nat) : Nat :=
  match (c.source s).prev with
  | some p => if p.line + 1 < c.active then p.line + 1 else 0
  | none => 0

/-- The header of a line packet is whole and undamaged (R365, R366). -/
def RxBody.headerOk (k : RxBody) : Bool :=
  !k.head && decide (16 ≤ k.bytes.length) && crc16 (k.bytes.take 14) == ofBytesBE ((k.bytes.drop 14).take 2)

/-- The first of the checks 1 to 8 of R197 (with R366) that a packet fails, 0 if none. -/
def lineCheck (c : Chan) (s n : Nat) (k : RxBody) : Nat :=
  let b := k.bytes
  let w := srcWidth c s
  let ver := (b.getD 0 0#8).toNat / 16
  let source := (b.getD 1 0#8).toNat % 4
  let fmt := (b.getD 2 0#8).toNat
  let frame := ofBytesBE ((b.drop 4).take 2)
  let line := ofBytesBE ((b.drop 6).take 2)
  let paylen := ofBytesBE ((b.drop 8).take 2)
  let pay := (b.drop 16).take paylen
  let crc := ofBytesBE ((b.drop (16 + paylen)).take 4)
  let want := lineBytes (c.get (Reg.CAP_SRC_CFG_FORMAT s)) w
  let prev := (c.source s).prev
  let orderOk : Bool := match prev with
    | some p => if line = 0 then decide (p.line + 1 = c.active) else decide (line = p.line + 1)
    | none => true
  let frameOk : Bool := match prev with
    | some p => line ≠ 0 || frame == (p.frame + 1) % 65536
    | none => true
  if k.cut then 2
  else if !k.headerOk ∨ ver ≠ 1 then 1
  else if k.rest ∨ crc32 pay ≠ crc then 2
  else if !orderOk then 3
  else if !frameOk then 4
  else if source ≠ c.get (Reg.CAP_SRC_CFG_SRCID s) then 5
  else if fmt ≠ c.get (Reg.CAP_SRC_CFG_FORMAT s) then 6
  else if paylen ≠ want ∨ k.columns ≠ (20 + paylen + n - 1) / n then 7
  else if c.active ≤ line then 8
  else 0

/-- The tick of line `l` nearest the present instant, and the time from now to it in 2⁻¹⁶ ns (R161, R367). -/
def nearestTick (c : Chan) (r : Raster) (l : Nat) : Nat × Int :=
  let now : Int := c.now
  let f := tickFrame r.tick
  let t := r.timeOf (tickOf f l)
  let g := if 2 * (t - now).natAbs * r.num ≤ r.den * secUnits then f else if t < now then f + 1 else f + 65535
  (tickOf g l, r.timeOf (tickOf g l) - now)

/-- A time of `d` 2⁻¹⁶ ns is less than, and more than, `n` line periods of a raster. -/
def Raster.under (r : Raster) (d : Int) (n : Int) : Bool :=
  decide (d * ((r.num * r.total : Nat) : Int) < n * ((r.den * secUnits : Nat) : Int))
def Raster.over (r : Raster) (d : Int) (n : Int) : Bool :=
  decide (n * ((r.den * secUnits : Nat) : Int) < d * ((r.num * r.total : Nat) : Int))

/-- A packet that completes `d` 2⁻¹⁶ ns before its tick is inside the window of R161. -/
def Raster.inWindow (r : Raster) (d : Int) : Bool := !r.under d 1 && !r.over d 8

/-- The lead in 1/16 lt that TIM_LEAD shows. -/
def Raster.lead16 (r : Raster) (d : Int) : Int := d * ((16 * (r.num * r.total) : Nat) : Int) / ((r.den * secUnits : Nat) : Int)

/-- Count a failed line (R197) and post the frame's first failure. -/
def lineFails (c : Chan) (s chk line : Nat) : Chan :=
  let c :=
    if chk = 1 then c.bump (Reg.CAP_SRC_CHK_HDR s)
    else if chk = 2 then c.bump (Reg.CAP_SRC_CHK_PAYLOAD s)
    else if chk = 3 ∨ chk = 4 then c.bump (Reg.CAP_SRC_CHK_ORDER s)
    else c.bump (Reg.CAP_SRC_CHK_OTHER s)
  let c := c.input .cap
  if (c.source s).posted then c
  else (c.modSource s (fun x => { x with posted := true })).post 0x0305 .cap (s * 2 ^ 24 + chk * 2 ^ 16 + line) 0

/-- The source whose raster genlock follows: it feeds L0 of context 0 (R342), in M1 and M4. -/
def genlockSource (c : Chan) (s : Nat) : Bool :=
  (c.mode == 1 || c.mode == 4) && c.flag (Reg.CMP_CTX_CFG_EN 0) && c.get (Reg.CMP_CTX_CFG_SRC 0) == s

/-- What a passing packet of the genlock source, `d` before its tick, tells the timing unit (R342, R353): a lead more than
CAPTURE lt outside the window disqualifies genlock. -/
def genlockPacket (c : Chan) (s : Nat) (r : Raster) (d : Int) : Chan :=
  if genlockSource c s then
    let c := (c.seti Reg.TIM_LEAD (r.lead16 d)).set (Reg.TIM_REFSTAT_PRESENT 2) 1
    let far : Int := ((c.get Reg.TIM_LOOP_CAPTURE : Nat) : Int)
    if r.under d (1 - far) || r.over d (8 + far) then
      let c := (timDisqualify c 2).post 0x0903 .tim 2 0x7FFFFFFF
      if c.get Reg.TIM_STAT_SEL = 2 then timLeave c else c
    else c
  else c

/-- A packet whose header checks has been heard on its group (R353). -/
def hearPacket (c : Chan) (g : Nat) (k : RxBody) : Chan :=
  let line := ofBytesBE ((k.bytes.drop 6).take 2)
  if k.headerOk ∧ ¬ k.cut ∧ groupUp c g then
    { c with lanes := { c.lanes with heard := (g, line, c.now) :: c.lanes.heard.filter (fun e => e.1 != g) } }
  else c

/-- A line packet completes on its group (R367): it passes, and its line is in HBM and may be retired at its tick,
or it fails a check of R197. A packet whose header does not check is taken for the line that the source should carry next. -/
def lineBody (g : Nat) (k : RxBody) (c : Chan) : Chan :=
  let c := hearPacket c g k
  match srcOfGroup c g, c.sched.raster with
  | some s, some r =>
    if !groupUp c g then c
    else
      let chk := lineCheck c s (groupLanes c g).length k
      let known := k.headerOk && chk != 1
      let frame := ofBytesBE ((k.bytes.drop 4).take 2)
      let line := if known then ofBytesBE ((k.bytes.drop 6).take 2) else expectLine c s
      let (tick, d) := nearestTick c r line
      let c := if !known then c
        else c.modSource s (fun x => { x with prev := some { line := line, frame := frame } })
      let c := if chk = 0 then genlockPacket c s r d else c
      let chk := if chk = 0 ∧ ¬ r.inWindow d then 9 else chk
      if chk = 0 then
        let w := srcWidth c s
        let pay := (k.bytes.drop 16).take (lineBytes (c.get (Reg.CAP_SRC_CFG_FORMAT s)) w)
        let c := writeLine c s (tickFrame tick) line
          (expandLine (c.get (Reg.CAP_SRC_CFG_FORMAT s)) w true pay)
        c.modSource s (fun x => { x with arrived := x.arrived ++ [tick] })
      else
        let c := lineFails c s chk line
        if line < c.active ∧ 0 ≤ d then c.modSource s (fun x => { x with failed := x.failed ++ [tick] }) else c
  | _, _ => c

/-- The columns of a line packet on a group (R361 to R363, R367): the code violations are counted, the packet is judged. -/
def opLinePacket (k : ColumnRun) (c : Chan) : Chan :=
  let b := runBody c k
  let c := countViolations k c
  match b with
  | some b => lineBody k.group b c
  | none => c

/-- A source changes readiness and says so (R198, R199). -/
def setReady (c : Chan) (s cause : Nat) : Chan :=
  ((c.set (Reg.CAP_SRC_STAT_READY s) (b2n (cause == 0))).set (Reg.CAP_SRC_STAT_CAUSE s) cause).post
    0x0301 .cap s cause

/-- The cause for which line `l` of frame `f` is not retired, 0 when it is (R196, R198). -/
def lineCause (c : Chan) (s f l : Nat) : Nat :=
  let x := c.source s
  let t := tickOf f l
  match srcKind c s with
  | 0 =>
    if !groupUp c (c.get (Reg.CAP_SRC_CFG_GROUP s)) then 2
    else if x.arrived.contains t then 0
    else if x.failed.contains t then 3
    else 1
  | 1 => if x.host.any (fun h => h.1 == f && decide (l < h.2)) then 0 else 4
  | 2 => 0
  | _ =>
    match x.decFrame with
    | some (g, w, h) => if g = f ∧ w = srcWidth c s ∧ h = c.active then 0 else 5
    | none => 5

/-- Capture retires line `l` of one source, or does not (R196, R198). -/
def captureLine (c : Chan) (s f l : Nat) : Chan :=
  if !srcOn c s then c
  else
    let cause := lineCause c s f l
    let t := tickOf f l
    let c := c.modSource s (fun x => { x with
      arrived := x.arrived.filter (· != t), failed := x.failed.filter (· != t) })
    if cause = 0 then
      if srcReady c s then
        (c.set (Reg.CAP_SRC_STAT_LINE s) l).modSource s (fun x => { x with good := l + 1 })
      else c
    else if (c.source s).fresh ≠ 0 then c
    else
      let c := (c.modSource s (fun x => { x with frameOk := false })).set (Reg.CAP_SRC_STAT_CLEAN s) 0
      if srcReady c s then setReady c s cause else c

/-- A sequenced L0 that is not ready makes its kind-2 source not ready (R199, R210). -/
def surfaceReady (c : Chan) (s : Nat) : Bool :=
  (List.range 4).all (fun x =>
    !(c.flag (Reg.CMP_CTX_CFG_EN x) && c.get (Reg.CMP_CTX_CFG_SRC x) == s) || (c.layer x 0).ready)

/-- A source at a frame boundary (R199): the frame before is clean or not; RECOVER clean frames make it ready. -/
def sourceBoundary (c : Chan) (s : Nat) : Chan :=
  if !srcOn c s then c
  else
    let x := c.source s
    let clean := x.frameOk
    let c := c.modSource s (fun x => { x with
      pgood := x.good, good := 0, frameOk := true, posted := false, fresh := x.fresh - 1 })
    if srcKind c s = 2 then
      let ok := surfaceReady c s
      if ok && !srcReady c s then setReady c s 0
      else if !ok && srcReady c s then setReady c s 6
      else c
    else if srcReady c s then c
    else if x.fresh = 1 then c.set (Reg.CAP_SRC_STAT_READY s) 1
    else if x.fresh = 2 then c
    else
      let n := if clean then c.get (Reg.CAP_SRC_STAT_CLEAN s) + 1 else 0
      if c.get (Reg.CAP_SRC_GEOM_RECOVER s) ≤ n then
        setReady (c.set (Reg.CAP_SRC_STAT_CLEAN s) 0) s 0
      else c.set (Reg.CAP_SRC_STAT_CLEAN s) n

/-- A line of a frame-input picture arrives from the host (R118, R193): `bytes` are the line's bytes. -/
def hostLine (s f l : Nat) (bytes : List Byte) (c : Chan) : Chan :=
  if srcOn c s ∧ srcKind c s = 1 ∧ (c.source s).host.contains (f, l) then
    let w := srcWidth c s
    let fmt := c.get (Reg.CAP_SRC_CFG_FORMAT s)
    (writeLine c s f l (expandLine fmt w false (bytes.take (lineBytes fmt w)))).modSource s
      (fun x => { x with host := x.host.map (fun h => if h.1 = f then (f, l + 1) else h) })
  else c

/-- A frame-input descriptor is taken for frame `f` (R118); the one of the frame before stays in use until that frame's
last line (R196). -/
def hostTake (s f : Nat) (c : Chan) : Chan :=
  c.modSource s (fun x => { x with host := (f, 0) :: x.host.take 1 })

/-- The sources that a commit enables, changes or disables (R199); `o` is the unit with the configuration before. -/
def sourcesCommit (o c : Chan) : Chan :=
  forN 4 (fun s c =>
    let changed := !srcOn o s || o.mode == 7 || srcKind o s != srcKind c s
    if !srcOn c s then
      ((c.modSource s (fun _ => {})).set (Reg.CAP_SRC_STAT_READY s) 0).set (Reg.CAP_SRC_STAT_CLEAN s) 0
    else if changed then
      let first := srcKind c s == 1
      let c := (c.modSource s (fun _ => { fresh := if first then 2 else 0 })).set (Reg.CAP_SRC_STAT_READY s) (b2n (!first))
      (c.set (Reg.CAP_SRC_STAT_CAUSE s) 0).set (Reg.CAP_SRC_STAT_CLEAN s) 0
    else c) c

end Sys2Proof.Machine
end

