-- ==== Sys2Proof/Machine/Compose.lean ====
section
/-! DEFINITION. Composition (08_capture_and_composition.md): layers and flips, composed lines, renditions, swatch
regions. -/

namespace Sys2Proof.Machine

/-- Keys of the IDX registers of the CMP tables. -/
def clutIdx (x l : Nat) : Nat := 0x48140 + 0x1000 * (8 * x + l)
def coefIdx (x l : Nat) : Nat := 0x48180 + 0x1000 * (8 * x + l)
def renCoefIdx (r : Nat) : Nat := 0x68180 + 0x1000 * r
def mtxIdx (x : Nat) : Nat := 0x41120 + 0x1000 * x
def swIdx : Nat := 0x40100
def swqIdx : Nat := 0x40120

/-! ### Flips (R208 to R211) -/

/-- The write of CMP_LFLIP with ARM (R208): the NEXT registers become the pending flip, replacing an older one. -/
def actFlip (p v : Nat) (c : Chan) : Chan :=
  if bitAt v 0 then
    let s : Surface :=
      { addr := c.get (Reg.CMP_LNEXT_ADDR_ADDR p) * 64, x := c.geti (Reg.CMP_LNEXT_POS_X p),
        y := c.geti (Reg.CMP_LNEXT_POS_Y p), alpha := c.get (Reg.CMP_LNEXT_ALPHA_GALPHA p) }
    (c.modLayer (p / 8) (p % 8) (fun l => { l with
      pending := some s, mark := c.sink.received, armed := c.ticks })).set (Reg.CMP_LSTAT_PENDING p) 1
  else c

/-- A pending flip may apply: the BAR2 writes before its ARM have drained (R208). -/
def flipDrained (c : Chan) (l : Layer) : Bool := l.pending.isSome && decide (l.mark ≤ c.sink.drained)

/-- The compositor still has lines of context `x`'s picture `f` to compose: some programme's picture of that frame is fed
by the context, and the frame's last line is not composed. -/
def composing (c : Chan) (x f : Nat) : Bool :=
  let k := c.comp x
  !(k.started && k.frame == f && decide (c.active ≤ k.lines)) &&
    c.progs.any (fun g => g.pics.any (fun q => q.cfg.ctx == x && q.frame == f))

/-- PREV_BUSY: a replaced surface of the layer is still in use (R209). -/
def showBusy (c : Chan) (x l : Nat) : Chan :=
  c.set (Reg.CMP_LSTAT_PREV_BUSY (8 * x + l)) (b2n ((c.layer x l).past.any (fun e => e.2.isSome)))

/-- The pending flip of a layer applies at the boundary of frame `f` (R208, R209): what it replaces stays in use until the
picture before is composed. -/
def flipApply (c : Chan) (x l f : Nat) : Chan :=
  let y := c.layer x l
  let p := 8 * x + l
  match y.pending with
  | none => c
  | some s =>
    let wait := composing c x ((f + 65535) % 65536)
    let c := c.modLayer x l (fun y => { y with
      past := if wait then (f, y.cur) :: y.past else y.past
      cur := some s, pending := none, applied := true })
    let c := ((c.set (Reg.CMP_LSTAT_PENDING p) 0).set (Reg.CMP_LSTAT_LOADED p) 1).set (Reg.CMP_LSTAT_FRAME p) f
    (showBusy c x l).set (Reg.CMP_LCUR_ADDR_ADDR p) s.addr

/-- FLIP_APPLY (R208): the flip applies at the boundary that comes next, when the present tick is the last of its
frame and the ARM came before the boundary's tick. -/
def opFlipApply (x l : Nat) (c : Chan) : Chan :=
  match c.sched.raster with
  | some r =>
    if x < 4 ∧ l < 8 ∧ flipDrained c (c.layer x l) ∧ tickLine r.tick + 1 = r.total then
      flipApply c x l ((tickFrame r.tick + 1) % 65536)
    else c
  | none => c

/-- The layer is enabled in an enabled context; bit 0 of LAYERS reads 1. -/
def layerOn (c : Chan) (x l : Nat) : Bool :=
  c.flag (Reg.CMP_CTX_CFG_EN x) && (l == 0 || bitAt (c.get (Reg.CMP_CTX_CFG_LAYERS x)) (l - 1))

/-- A layer at the boundary of frame `f` (R208, R210): an eligible flip applies; readiness is decided. -/
def layerBoundary (c : Chan) (x l f : Nat) : Chan :=
  let y := c.layer x l
  let p := 8 * x + l
  let c := if flipDrained c y && decide (y.armed < c.ticks) && !y.applied then flipApply c x l f else c
  let y := c.layer x l
  let seq := c.flag (Reg.CMP_LCFG_SEQ p)
  let ready := y.cur.isNone || !seq || y.applied
  let c := c.set (Reg.CMP_LSTAT_HELD p) (b2n (!ready))
  let c := if !ready && y.ready && l != 0 && layerOn c x l then c.post 0x0302 .cmp (x * 256 + l) 0 else c
  c.modLayer x l (fun y => { y with ready := ready, applied := false })

/-- The layers that a commit makes empty (R211): those whose FORMAT, SW or SH is another than the one they were last acted
on under. A flip that applies at the commit's boundary stays. By then every picture before is composed (`composeFinish`). -/
def layersCommit (c : Chan) : Chan :=
  forN 32 (fun p c =>
    let x := p / 8
    let l := p % 8
    let y := c.layer x l
    let shape := (c.get (Reg.CMP_LCFG_FORMAT p), c.get (Reg.CMP_LSIZE_SW p), c.get (Reg.CMP_LSIZE_SH p))
    let keeps := y.shape == shape || y.applied || (flipDrained c y && decide (y.armed < c.ticks))
    let c := showBusy (c.modLayer x l (fun y => { y with shape := shape, past := [] })) x l
    if keeps then c
    else
      let c := c.modLayer x l (fun y => { y with cur := none, ready := true })
      (((c.set (Reg.CMP_LSTAT_LOADED p) 0).set (Reg.CMP_LSTAT_HELD p) 0).set (Reg.CMP_LSTAT_FRAME p) 0).set
        (Reg.CMP_LCUR_ADDR_ADDR p) 0) c

/-! ### Composed lines (R200 to R217) -/

/-- HBM address of line `l` of picture `f` in a context's composed buffers. -/
def ctxLineAddr (c : Chan) (x f l : Nat) : Nat :=
  let w := srcWidth c (c.get (Reg.CMP_CTX_CFG_SRC x))
  c.get (Reg.CMP_CTX_OUT_ADDR x) * 4096 + f % 2 * (w * c.active * 6) + l * (w * 6)

/-- The surface of a layer that governs picture `f` (R209): the content of the last flip, or what was there before a flip
that governs only later pictures. -/
def surfaceFor (y : Layer) (f : Nat) : Option Surface :=
  match y.past.reverse.find? (fun e => frameBefore f e.1) with
  | some e => e.2
  | none => y.cur

/-- A coefficient of a scaler's table (R215). -/
def coefAt (c : Chan) (idx : Nat) (vert : Bool) (ph t : Nat) : Int :=
  let w := c.entry idx ((if vert then 64 else 0) + ph) (t / 2)
  signedOf 13 (bitsOf w (if t % 2 = 0 then 0 else 16) 13)

/-- The size at which a layer is placed. -/
def layerSize (c : Chan) (x l : Nat) : Nat × Nat :=
  let p := 8 * x + l
  if c.flag (Reg.CMP_LCFG_SCALE p) && l < 6 then (c.get (Reg.CMP_LDSIZE_DW p), c.get (Reg.CMP_LDSIZE_DH p))
  else (c.get (Reg.CMP_LSIZE_SW p), c.get (Reg.CMP_LSIZE_SH p))

/-- One sample of a layer's surface, unscaled (R205, R206). -/
def surfaceSample (c : Chan) (x l : Nat) (s : Surface) (u v : Nat) : Sample :=
  let p := 8 * x + l
  let f := c.get (Reg.CMP_LCFG_FORMAT p)
  let n := layerBytes f
  let a := s.addr + v * c.get (Reg.CMP_LSTRIDE_STRIDE p) + u * n
  let clut (e : Nat) : Nat := c.entry (clutIdx x l) e 0 + 2 ^ 32 * c.entry (clutIdx x l) e 1
  layerSample f (ofBytesLE (c.load a n)) clut

/-- The sample of a layer at its own position (u, v), scaled when SCALE is set (R204, R214). -/
def layerAt (c : Chan) (x l : Nat) (s : Surface) (u v : Nat) : Sample :=
  let p := 8 * x + l
  if c.flag (Reg.CMP_LCFG_SCALE p) && l < 6 then
    let (dw, dh) := layerSize c x l
    let sw := c.get (Reg.CMP_LSIZE_SW p)
    let sh := c.get (Reg.CMP_LSIZE_SH p)
    let ch := coefAt c (coefIdx x l) false
    let cv := coefAt c (coefIdx x l) true
    let one (g : Sample → Nat) : Nat :=
      scale2 sw dw sh dh ch cv (fun a b => g (surfaceSample c x l s a b)) u v
    ⟨⟨one (fun q => q.px.c0), one (fun q => q.px.c1), one (fun q => q.px.c2)⟩, one (fun q => q.alpha)⟩
  else surfaceSample c x l s u v

/-- The sample with which a layer covers frame pixel (px, py), if it does (R204). -/
def layerCover (c : Chan) (x l f px py : Nat) : Option (Surface × Sample) :=
  if !layerOn c x l then none
  else match surfaceFor (c.layer x l) f with
    | none => none
    | some s =>
      let (w, h) := layerSize c x l
      let u : Int := (px : Int) - s.x
      let v : Int := (py : Int) - s.y
      if 0 ≤ u ∧ u < w ∧ 0 ≤ v ∧ v < h then some (s, layerAt c x l s u.toNat v.toNat) else none

/-- Layers of a list over a composite (R212). -/
def overlay (c : Chan) (x f px py : Nat) (ls : List Nat) (acc : Pixel) : Pixel :=
  ls.foldl (fun acc l =>
    match layerCover c x l f px py with
    | some (s, smp) => blend (c.flag (Reg.CMP_LCFG_PREMUL (8 * x + l))) s.alpha smp acc
    | none => acc) acc

/-- L0 of a pixel: the captured picture, or for kind 2 the surface over BG, always opaque (R204). -/
def basePixel (c : Chan) (x f px py : Nat) : Pixel :=
  let s := c.get (Reg.CMP_CTX_CFG_SRC x)
  let bg := pixelOf (c.get (Reg.CMP_CTX_BG_COLOUR x))
  if srcKind c s = 2 then
    match layerCover c x 0 f px py with
    | some (_, smp) => smp.px
    | none => bg
  else if srcKind c s = 3 then
    match (c.source s).decFrame with
    | some _ => pixelOf (ofBytesLE (c.load (srcLineAddr c s f py + px * 6) 6))
    | none => bg
  else pixelOf (ofBytesLE (c.load (srcLineAddr c s f py + px * 6) 6))

/-- The context's matrix (R217). -/
def matrixed (c : Chan) (x : Nat) (p : Pixel) : Pixel :=
  let m (i j : Nat) : Int := signedOf 20 (c.entry (mtxIdx x) i j)
  let inn (j : Nat) : Int := signedOf 18 (c.entry (mtxIdx x) j 3)
  let out (i : Nat) : Int := signedOf 18 (c.entry (mtxIdx x) i 4)
  ⟨matrixRow (m 0) inn (out 0) p, matrixRow (m 1) inn (out 1) p, matrixRow (m 2) inn (out 2) p⟩

/-- One composed pixel: L1 to L5 exact to 1 (R213), then L6 and L7 exactly, then the matrix. -/
def composedPixel (c : Chan) (x f px py : Nat) : Pixel :=
  let base := basePixel c x f px py
  let low := [1, 2, 3, 4, 5]
  let mid := overlay c x f px py low base
  let mid := if low.any (fun l => (layerCover c x l f px py).isSome) then
      offByOne (fun k => Config.sampleError c.num c.free (3 * px + k)) mid
    else mid
  matrixed c x (overlay c x f px py [6, 7] mid)

/-- The bytes that composing a line reads from HBM: L0's line and the rows of the layers that cover it (R201). -/
def lineReads (c : Chan) (x f y : Nat) : List (Nat × Nat) :=
  let s := c.get (Reg.CMP_CTX_CFG_SRC x)
  let l0 := if srcKind c s = 2 then [] else [(srcLineAddr c s f y, srcWidth c s * 6)]
  let first := if srcKind c s = 2 then 0 else 1
  l0 ++ ((List.range 8).filter (fun l => first ≤ l && layerOn c x l)).flatMap (fun l =>
    match surfaceFor (c.layer x l) f with
    | none => []
    | some sf =>
      let p := 8 * x + l
      let (_, h) := layerSize c x l
      let v : Int := (y : Int) - sf.y
      if v < 0 ∨ (h : Int) ≤ v then []
      else
        let n := layerBytes (c.get (Reg.CMP_LCFG_FORMAT p)) * c.get (Reg.CMP_LSIZE_SW p)
        let st := c.get (Reg.CMP_LSTRIDE_STRIDE p)
        if c.flag (Reg.CMP_LCFG_SCALE p) && l < 6 then
          let sh := c.get (Reg.CMP_LSIZE_SH p)
          let (i, _) := scalePos sh h v.toNat
          (List.range 6).map (fun t : Nat => (sf.addr + clampi (i - 2 + (t : Int)) 0 (sh - 1) * st, n))
        else [(sf.addr + v.toNat * st, n)])

/-- Line `y` of picture `f` is fresh in its source: retired while the source was ready (R200). -/
def lineFresh (c : Chan) (x f y : Nat) : Bool :=
  let s := c.get (Reg.CMP_CTX_CFG_SRC x)
  let src := c.source s
  let n := if f = c.frame then src.good else src.pgood
  decide (y < n)

/-- A layer of format IDX8 covers line `y` of picture `f`: its lookup table is read for the line. -/
def readsClut (c : Chan) (x f y l : Nat) : Bool :=
  let p := 8 * x + l
  let s := c.get (Reg.CMP_CTX_CFG_SRC x)
  layerOn c x l && (l != 0 || srcKind c s == 2) && c.get (Reg.CMP_LCFG_FORMAT p) == 4 &&
    (match surfaceFor (c.layer x l) f with
    | some sf => decide (0 ≤ (y : Int) - sf.y) && decide ((y : Int) - sf.y < ((layerSize c x l).2 : Int))
    | none => false)

/-- The failing lookup-table reads of a line among those given: line, layer, address, syndrome class (R201). -/
def clutFails (c : Chan) (x f y : Nat) (lut : List (Nat × Nat × Nat × Nat)) : List (Nat × Nat) :=
  (lut.filter (fun e => e.1 == y && decide (e.2.1 < 8) && readsClut c x f y e.2.1)).map (fun e => e.2.2)

/-- A line whose every source line and layer reads clean, and is fresh (R200, R201). -/
def lineHeld (c : Chan) (x f y : Nat) (lut : List (Nat × Nat × Nat × Nat)) : Bool :=
  !lineFresh c x f y || (lineReads c x f y).any (fun r => memReadFails c r.1 r.2) || !(clutFails c x f y lut).isEmpty

/-- What composing a line reads from HBM: its source and layers, unless L0 is not fresh, and for a held line the same line
of the previous composed picture (R200, R201). -/
def composeReads (c : Chan) (x f y : Nat) (held : Bool) : List (Nat × Nat) :=
  let w := srcWidth c (c.get (Reg.CMP_CTX_CFG_SRC x))
  (if lineFresh c x f y then lineReads c x f y else []) ++
    (if held && (c.comp x).prevPic then [(ctxLineAddr c x (f + 1) y, w * 6)] else [])

/-- The composed pixels of a line (R200). -/
def composedLine (c : Chan) (x f y : Nat) (held : Bool) : List Pixel :=
  let w := srcWidth c (c.get (Reg.CMP_CTX_CFG_SRC x))
  if held then
    if (c.comp x).prevPic then pixelsOf w (c.load (ctxLineAddr c x (f + 1) y) (w * 6))
    else List.replicate w (pixelOf (c.get (Reg.CMP_CTX_BG_COLOUR x)))
  else (List.range w).map (fun px => composedPixel c x f px y)

/-! ### Swatch regions (R221 to R223) -/

/-- Words of a region's active table entry. -/
def swWord (c : Chan) (r i : Nat) : Nat := c.entry swIdx r i
def swOn (c : Chan) (r : Nat) : Bool := bitAt (swWord c r 0) 0
def swCtx (c : Chan) (r : Nat) : Nat := bitsOf (swWord c r 0) 1 2
def swLayer (c : Chan) (r : Nat) : Nat := bitsOf (swWord c r 0) 3 3

/-- Expected value of a region at the present boundary (R222). -/
def swExpect (c : Chan) (r : Nat) : Nat := ((c.regions.getD r {}).chosen).getD (swWord c r 3)

/-- A region chooses its expected value at the boundary of frame `f`; matched and earlier entries go (R222). -/
def regionBoundary (c : Chan) (r f : Nat) : Chan :=
  if !swOn c r then c
  else
    let valid (i : Nat) : Bool := bitAt (c.entry swqIdx (8 * r + i) 1) 16
    let fr (i : Nat) : Nat := bitsOf (c.entry swqIdx (8 * r + i) 1) 0 16
    let hit := (List.range 8).find? (fun i => valid i && fr i == f)
    let c := match hit with
      | some i =>
        let v := c.entry swqIdx (8 * r + i) 0
        { c with regions := c.regions.modify r (fun g => { g with chosen := some v }) }
      | none => c
    forN 8 (fun i c =>
      if valid i ∧ (fr i = f ∨ frameBefore (fr i) f) then
        c.setEntry swqIdx (8 * r + i) 1 (setBitsOf (c.entry swqIdx (8 * r + i) 1) 16 1 0)
      else c) c

/-- A region starts the composition of a frame. -/
def regionStart (c : Chan) (r : Nat) : Chan :=
  let e := swExpect c r
  { c with regions := c.regions.modify r (fun g => { g with want := e, crc := 0xFFFFFFFF, pixels := 0, stale := false }) }

/-- A region's result (R223). -/
def regionResult (c : Chan) (r f : Nat) : Chan :=
  let g := c.regions.getD r {}
  let x := c.comp (swCtx c r)
  let stale := g.stale || (swLayer c r == 6 && x.lake6) || (swLayer c r == 7 && x.lake7)
  let crc := if g.pixels = 0 then 0 else g.crc ^^^ 0xFFFFFFFF
  let res := if stale then 3 else if crc = g.want then 1 else 2
  let c := (((c.set (Reg.CMP_SW_RES_RESULT r) res).set (Reg.CMP_SW_RES_FRAME r) f).set
    (Reg.CMP_SW_CRC_VALUE r) crc).set (Reg.CMP_SW_EXP_VALUE r) g.want
  if res = 3 then c.post 0x0304 .cmp r 0
  else if res = 2 then c.post 0x0303 .cmp r crc
  else c

/-- A composed line of context `x` enters its regions (R221, R223). -/
def regionLine (c : Chan) (r x f y : Nat) (ps : List Pixel) (held : Bool) : Chan :=
  if swOn c r ∧ swCtx c r = x then
    let sx := bitsOf (swWord c r 1) 0 16
    let sy := bitsOf (swWord c r 1) 16 16
    let sw := bitsOf (swWord c r 2) 0 16
    let sh := bitsOf (swWord c r 2) 16 16
    let last := min (sy + sh) c.active
    let c := if sy ≤ y ∧ y < sy + sh then
        let run := (ps.drop sx).take sw
        let bytes := (run.map Pixel.crcBytes).flatten
        { c with regions := c.regions.modify r (fun g => { g with
            crc := crc32Run g.crc bytes, pixels := g.pixels + run.length, stale := g.stale || held }) }
      else c
    if y + 1 = last ∨ (c.active ≤ sy ∧ y + 1 = c.active) then regionResult c r f else c
  else c

/-! ### The compositor (R200, R209, R219) -/

/-- The compositor begins picture `f` of context `x`. -/
def composeStart (c : Chan) (x f : Nat) : Chan :=
  let y := c.comp x
  let nr (l : Nat) : Bool := layerOn c x l && !(c.layer x l).ready
  let c := c.modComp x (fun _ => {
    started := true, frame := f, lines := 0, heldLines := []
    prevPic := !y.commit && (y.prevPic || y.started), lake6 := nr 6, lake7 := nr 7 })
  forN 16 (fun r c => if swOn c r ∧ swCtx c r = x then regionStart c r else c) c

/-- The last line of picture `f` is composed: what only pictures up to it used is free (R209). -/
def freePast (c : Chan) (x f : Nat) : Chan :=
  forN 8 (fun l c =>
    if (c.layer x l).past.isEmpty then c
    else showBusy (c.modLayer x l (fun y => { y with past := y.past.filter (fun e => frameBefore (f + 1) e.1) })) x l) c

/-- The compositor composes and writes line `y` of picture `f`; `lut` are the lookup-table reads that fail (R201). -/
def composeLine (c : Chan) (x f y : Nat) (lut : List (Nat × Nat × Nat × Nat)) : Chan :=
  let held := lineHeld c x f y lut
  let ps := composedLine c x f y held
  let bad := clutFails c x f y lut
  let c := (composeReads c x f y held).foldl (fun c r => memRead c r.1 r.2 1) c
  let c := bad.foldl (fun c e => memFail c (beatOf e.1) 1 e.2) c
  let c := (memWrite c (ctxLineAddr c x f y) 1 ((ps.map Pixel.bytes).flatten)).draw
  let c := c.modComp x (fun k => { k with
    lines := y + 1, heldLines := if held then k.heldLines ++ [y] else k.heldLines })
  let c := forN 16 (fun r c => regionLine c r x f y ps held) c
  if y + 1 = c.active then freePast c x f else c

/-- Compose the lines of picture `f` up to line `last` that are not done yet. -/
def composeTo (c : Chan) (x f last : Nat) (lut : List (Nat × Nat × Nat × Nat)) : Chan :=
  let k := c.comp x
  let c := if k.started && k.frame == f then c else composeStart c x f
  let from_ := (c.comp x).lines
  forN (last + 1 - from_) (fun i c => composeLine c x f (from_ + i) lut) c

/-- Size of a rendition (R218): the context's with SCALE clear. -/
def renSize (c : Chan) (r : Nat) : Nat × Nat :=
  if c.flag (Reg.CMP_REN_CFG_SCALE r) then (c.get (Reg.CMP_REN_SIZE_W r), c.get (Reg.CMP_REN_SIZE_H r))
  else (srcWidth c (c.get (Reg.CMP_CTX_CFG_SRC (c.get (Reg.CMP_REN_CFG_CTX r)))), c.active)

/-- HBM address of line `l` of picture `f` of a rendition (R219). -/
def renLineAddr (c : Chan) (r f l : Nat) : Nat :=
  let (w, h) := renSize c r
  c.get (Reg.CMP_REN_OUT_ADDR r) * 4096 + f % 2 * (w * h * 6) + l * (w * 6)

/-- The composed lines that rendition line `y` reads (R219). -/
def renReads (c : Chan) (r y : Nat) : List Nat :=
  let (_, h) := renSize c r
  if c.flag (Reg.CMP_REN_CFG_SCALE r) then
    let (i, _) := scalePos c.active h y
    (List.range 6).map (fun t : Nat => clampi (i - 2 + (t : Int)) 0 (c.active - 1))
  else [y]

/-- A rendition line is held if any composed line it reads is (R219). -/
def renHeld (c : Chan) (r y : Nat) : Bool :=
  (renReads c r y).any (fun l => (c.comp (c.get (Reg.CMP_REN_CFG_CTX r))).heldLines.contains l)

/-- Sample k of a rendition before its chroma is subsampled. -/
def renSample (c : Chan) (r f k u v : Nat) : Nat :=
  let x := c.get (Reg.CMP_REN_CFG_CTX r)
  let sw := srcWidth c (c.get (Reg.CMP_CTX_CFG_SRC x))
  let (w, h) := renSize c r
  let at0 (a b : Nat) : Nat := (pixelOf (ofBytesLE (c.load (ctxLineAddr c x f b + a * 6) 6))).comp k
  if c.flag (Reg.CMP_REN_CFG_SCALE r) then
    scale2 sw w c.active h (coefAt c (renCoefIdx r) false) (coefAt c (renCoefIdx r) true) at0 u v
  else at0 u v

/-- One chroma sample of a rendition (R218): zero where it is not subsampled to. -/
def renChroma (c : Chan) (r f k u v : Nat) : Nat :=
  let (w, h) := renSize c r
  let filt := c.flag (Reg.CMP_REN_CFG_CFILT r)
  match c.get (Reg.CMP_REN_CFG_CHROMA r) with
  | 0 => renSample c r f k u v
  | 1 => if u % 2 = 0 then chromaH filt w (fun a => renSample c r f k a v) u else 0
  | _ =>
    if u % 2 = 0 ∧ v % 2 = 0 then
      let hz (b : Nat) : Nat := chromaH filt w (fun a => renSample c r f k a b) u
      (hz v + hz (min (v + 1) (h - 1)) + 1) / 2
    else 0

/-- The compositor writes line `y` of picture `f` of a rendition (R218, R219). -/
def renderLine (c : Chan) (r f y : Nat) : Chan :=
  let (w, _) := renSize c r
  let b := c.get (Reg.CMP_REN_CFG_DEPTH r)
  let ps := (List.range w).map (fun u =>
    (⟨quantise b (renSample c r f 0 u y), quantise b (renChroma c r f 1 u y),
      quantise b (renChroma c r f 2 u y)⟩ : Pixel))
  memWrite c (renLineAddr c r f y) 1 ((ps.map Pixel.bytes).flatten)

/-- Before a commit takes effect, the compositor finishes the picture it is on under the configuration before: its
lines are all retired by then (R160, R505). -/
def composeFinish (c : Chan) : Chan :=
  forN 4 (fun x c =>
    if c.flag (Reg.CMP_CTX_CFG_EN x) && (c.comp x).started then composeTo c x (c.comp x).frame (c.active - 1) [] else c) c

/-- What a commit does to composition (R200, R211, R222); one into M7 does nothing to it (R143). No context has an earlier
composed picture since the commit (R200). -/
def composeCommit (c : Chan) : Chan :=
  if c.mode = 7 then c
  else
    let c := layersCommit c
    let c := forN 4 (fun x c => c.modComp x (fun k => { k with commit := true })) c
    forN 16 (fun r c =>
      let g := c.regions.getD r {}
      let on := swOn c r
      let e := swWord c r 3
      let c := if g.on == on && g.expect == e then c
        else { c with regions := c.regions.modify r (fun _ => { on := on, expect := e }) }
      if on then c else c.set (Reg.CMP_SW_RES_RESULT r) 0) c

end Sys2Proof.Machine
end

