-- ==== Sys2Proof/Machine/Encode.lean ====
section
/-! DEFINITION. Coding (09_encoder.md): tile columns and segments (R229, R171), the mordant band (R237), fugitive CTUs and
clean samples (R240 to R243), what a CTU may be coded as (R233, R244, R245, R247), fixed-cost forms (R246, R248), memory
errors (R252, R253), and the configuration that a programme's pictures keep. -/

namespace Sys2Proof.Machine

/-! ### Tile columns (R229, R231) -/

/-- First CTU column of tile column `t`, and the column after its last. -/
def ProgCfg.colLo (g : ProgCfg) (t : Nat) : Nat := t * g.wc / g.tiles
def ProgCfg.colHi (g : ProgCfg) (t : Nat) : Nat := (t + 1) * g.wc / g.tiles
def ProgCfg.cols (g : ProgCfg) (t : Nat) : Nat := g.colHi t - g.colLo t

/-- Segments of one row in tile column `t`: one per two CTUs (07, "Tasks and contexts"). -/
def ProgCfg.segs (g : ProgCfg) (t : Nat) : Nat := ceilDiv (g.cols t) 2

/-- The tile column of a CTU column. -/
def ProgCfg.tileOf (g : ProgCfg) (x : Nat) : Nat :=
  ((List.range g.tiles).find? (fun t => g.colLo t ≤ x && x < g.colHi t)).getD 0

/-- Engines that share a tile column's rows. -/
def ProgCfg.share (g : ProgCfg) : Nat := 16 / g.tiles

/-- The native engine of row `k` in tile column `t` (R229). -/
def ProgCfg.native (g : ProgCfg) (t k : Nat) : Nat := g.share * t + k % g.share

/-- The entropy coder of tile column `t` of programme `p` (R229). -/
def ProgCfg.coder (g : ProgCfg) (p t : Nat) : Nat := (if g.tiles = 2 then 2 * t + p else t + p) % 4

/-- The segment that holds the CTU at place `i` of a tile column, with what (k, j) waits for in row k − 1 (R171). -/
def ProgCfg.segAbove (g : ProgCfg) (t j : Nat) : Nat :=
  let last := min (2 * j + 1) (g.cols t - 1)
  if last + 2 < g.cols t then (last + 2) / 2 else g.segs t - 1

/-- Lines of row `k`, and its last line (R167). -/
def ProgCfg.lastLine (g : ProgCfg) (k : Nat) : Nat := min ((k + 1) * g.h) g.hgt - 1

/-- The capture line of row `k` (R167). -/
def ProgCfg.captureLine (g : ProgCfg) (k : Nat) : Nat :=
  let y := g.lastLine k
  if g.scale then min (g.active - 1) (ceilDiv ((y + 1) * g.active) g.hgt - 1 + 3) else y

/-! ### Fixed-cost forms (R246) -/

/-- Bit bound of a form: 1 fill, 2 fixed intra, 3 start. -/
def formBits (vvc : Bool) (form : Nat) : Nat :=
  if form = 1 then (if vvc then 96 else 24)
  else if form = 2 then (if vvc then 800 else 600)
  else (if vvc then 64 else 32)

/-! ### The band (R237) -/

/-- Columns of the band at position `i`: first, and one after the last. -/
def ProgCfg.bandLo (g : ProgCfg) (i : Nat) : Nat := i * g.wc / g.cycle
def ProgCfg.bandHi (g : ProgCfg) (i : Nat) : Nat := (i + 1) * g.wc / g.cycle

/-- The picture carries a band: ordinary pictures outside M4 (R254, R255, R269). -/
def PicSt.banded (q : PicSt) : Bool := q.kind == .ordinary && q.cfg.mode != 4

def PicSt.inBand (q : PicSt) (x : Nat) : Bool :=
  q.banded && q.cfg.bandLo q.pos ≤ x && x < q.cfg.bandHi q.pos

/-- The column immediately left of the band, when the band does not begin at column 0. -/
def PicSt.leftOfBand (q : PicSt) (x : Nat) : Bool := q.banded && x + 1 == q.cfg.bandLo q.pos

/-- Refreshed columns of the picture: those the band has crossed in the cycle. -/
def PicSt.refreshed (q : PicSt) : Nat := if q.banded then q.cfg.bandHi q.pos else 0

/-- The form that R248 gives a CTU at rung 7, which is also the one whose bound R269 reserves. -/
def PicSt.floorForm (q : PicSt) (x : Nat) : Nat :=
  if q.cfg.mode = 4 then 2
  else match q.kind with
    | .start => if q.cfg.vvc then 1 else 3
    | .ordinary => if q.inBand x || q.leftOfBand x then 2 else 1
    | _ => 1

/-- Floor bits of a CTU column (R269). -/
def PicSt.floorCtu (q : PicSt) (x : Nat) : Nat := formBits q.cfg.vvc (q.floorForm x)

/-- Floor φ of the columns `lo` to `hi` − 1 of one row. -/
def PicSt.floorCols (q : PicSt) (lo hi : Nat) : Nat :=
  (List.range (hi - lo)).foldl (fun s i => s + q.floorCtu (lo + i)) 0

/-- The row floor φ (R269). -/
def PicSt.phi (q : PicSt) : Nat := q.floorCols 0 q.cfg.wc

/-! ### Fugitive CTUs (R240 to R243) -/

/-- A CTU may be trusted neither as coded nor since. -/
def RefPic.bad (r : RefPic) (a : Nat) : Bool := r.fug.contains a || r.marked.contains a

/-- The reference at index 0: the picture before in decoding order (R233). -/
def prevRef (g : Prog) (q : PicSt) : Option RefPic := g.refs.find? (fun r => r.serial + 1 == q.serial)

/-- The reference list of a picture, index 0 first (R233, R254): the pictures before it that its list names. -/
def refList (g : Prog) (q : PicSt) : List RefPic :=
  (g.refs.filter (fun r => decide (r.serial < q.serial))).take q.deltas.length

/-- G of R242: the reach of the in-loop filters. -/
def ProgCfg.reach (g : ProgCfg) : Nat := if g.vvc then 16 else 4

/-- Every sample of the rectangle from (x0, y0) to (x1, y1), both within the picture, is clean for a CU of picture `q` that
lies in its refreshed area, or does not (R242). A sample within G of a fugitive CTU is one whose surroundings of G samples each
way meet that CTU. -/
def rectClean (q : PicSt) (r : RefPic) (inside : Bool) (x0 y0 x1 y1 : Nat) : Bool :=
  let g := q.cfg
  let u0 := (x0 - g.reach) / g.h
  let v0 := (y0 - g.reach) / g.h
  let u1 := min (g.wc - 1) ((x1 + g.reach) / g.h)
  let v1 := min (g.rows - 1) ((y1 + g.reach) / g.h)
  (List.range (v1 + 1 - v0)).all (fun i => (List.range (u1 + 1 - u0)).all (fun j => !r.bad ((v0 + i) * g.wc + (u0 + j)))) &&
    (!inside || (r.cycleId == q.cycleId && decide (x1 + g.reach < r.refreshed * g.h)))

/-- The footprint of a prediction block of `w` by `h` samples at (x, y) under a vector in quarter samples, each position
clamped into the picture: x0, y0, x1, y1 (R243). Chroma is fractional where its own grid does not hold the vector. -/
def footprint (g : ProgCfg) (x y w h : Nat) (mvx mvy : Int) : Nat × Nat × Nat × Nat :=
  let fx := !(decide (mvx % (4 * g.subW : Nat) = 0))
  let fy := !(decide (mvy % (4 * g.subH : Nat) = 0))
  let before (f : Bool) : Int := if f then 4 else 0
  let after (f : Bool) : Int := if f then 5 else 0
  let px : Int := (x : Int) + mvx / 4
  let py : Int := (y : Int) + mvy / 4
  (clampi (px - before fx) 0 (g.w - 1), clampi (py - before fy) 0 (g.hc - 1),
    clampi (px + (w : Int) - 1 + after fx) 0 (g.w - 1), clampi (py + (h : Int) - 1 + after fy) 0 (g.hc - 1))

/-- The footprint of a vector lies wholly in clean samples of the reference (R243). -/
def vectorClean (q : PicSt) (r : RefPic) (x y w h : Nat) (mvx mvy : Int) : Bool :=
  let (x0, y0, x1, y1) := footprint q.cfg x y w h mvx mvy
  rectClean q r (decide (x / q.cfg.h < q.refreshed)) x0 y0 x1 y1

/-- Columns of the CTU in column `x`, and coded lines of those of row `y`. -/
def ProgCfg.ctuW (g : ProgCfg) (x : Nat) : Nat := min g.h (g.w - x * g.h)
def ProgCfg.ctuH (g : ProgCfg) (y : Nat) : Nat := min g.h (g.hc - y * g.h)

/-- The fill footprint of the CTU at (x, y), its own area in the picture before, is clean (R243, R248). -/
def fillClean (g : Prog) (q : PicSt) (x y : Nat) : Bool :=
  match prevRef g q with
  | none => false
  | some r => vectorClean q r (x * q.cfg.h) (y * q.cfg.h) (q.cfg.ctuW x) (q.cfg.ctuH y) 0 0

/-! ### What a searched CTU may be (R233, R244, R245, R247) -/

/-- What a rung allows: search range, references searched, inter candidates and intra modes fully evaluated, smallest CU. -/
structure Effort where
  rangeX : Nat
  rangeY : Nat
  refs : Nat
  inters : Nat
  intras : Nat
  least : Nat
  deriving DecidableEq, Repr

/-- The effort ladder (R247). -/
def effort (g : ProgCfg) (rung : Nat) : Effort :=
  let m (n : Nat) : Nat := if g.mode = 4 then 2 * n else n
  let cu (hevc vvc : Nat) : Nat := if g.vvc then vvc else hevc
  match rung with
  | 0 => ⟨256, 128, g.refs, 8, m 8, cu 8 4⟩
  | 1 => ⟨192, 96, g.refs, 6, m 6, cu 8 4⟩
  | 2 => ⟨128, 64, g.refs, 5, m 5, cu 8 8⟩
  | 3 => ⟨96, 48, 2, 4, m 4, cu 16 16⟩
  | 4 => ⟨64, 32, 2, 3, m 3, cu 16 16⟩
  | 5 => ⟨32, 16, 1, 2, m 2, cu 32 32⟩
  | 6 => ⟨16, 8, 1, 1, 2, cu 32 64⟩
  | _ => ⟨0, 0, 0, 0, 0, cu 64 128⟩

/-- A transform tool is one that the codec's encoder uses (R233) and that the rung searches (R247). -/
def toolOk (vvc : Bool) (rung : Nat) (t : TxTool) : Bool :=
  match t with
  | .dct => true
  | .transformSkip => !vvc
  | .signHiding => !vvc
  | .jointCbCr => vvc
  | .rdoq => decide (rung ≤ 4)
  | .mts => vvc && decide (rung ≤ 1)
  | .lfnst => vvc && decide (rung ≤ 3)
  | .depQuant => vvc && decide (rung ≤ 2)

/-- Rectangles (x, y, w, h) tile an area of `w` by `h`: each lies in it, no two overlap, and their areas add up. -/
def tilesArea (l : List (Nat × Nat × Nat × Nat)) (w h : Nat) : Bool :=
  let apart (a b : Nat × Nat × Nat × Nat) : Bool :=
    decide (a.1 + a.2.2.1 ≤ b.1) || decide (b.1 + b.2.2.1 ≤ a.1) ||
      decide (a.2.1 + a.2.2.2 ≤ b.2.1) || decide (b.2.1 + b.2.2.2 ≤ a.2.1)
  l.all (fun a => decide (a.1 + a.2.2.1 ≤ w) && decide (a.2.1 + a.2.2.2 ≤ h)) &&
    decide (l.foldl (fun s a => s + a.2.2.1 * a.2.2.2) 0 = w * h) &&
    (List.range l.length).all (fun i => (l.drop (i + 1)).all (apart (l.getD i (0, 0, 0, 0))))

/-- The partition of a coding unit (R233): in VVC one prediction unit; in HEVC one, two halves, four quarters of an intra 8×8,
or, at rungs 0 to 2, a quarter and the rest. -/
def partsOk (vvc : Bool) (rung : Nat) (u : CodingUnit) : Bool :=
  let n := u.units.length
  let intra := u.units.all (fun p => match p.pred with
    | .intra _ _ => true
    | _ => false)
  let side (a : Nat) (s : Nat) : Bool := a == s || a == s / 2 || (rung ≤ 2 && s ≥ 16 && (a == s / 4 || a == 3 * s / 4))
  tilesArea (u.units.map (fun p => (p.x - u.x, p.y - u.y, p.w, p.h))) u.w u.h &&
    u.units.all (fun p => decide (u.x ≤ p.x) && decide (u.y ≤ p.y)) &&
    (n == 1 || (!vvc && n == 4 && intra && u.w == 8 && u.units.all (fun p => p.w == 4 && p.h == 4)) ||
      (!vvc && n == 2 && !intra && u.units.all (fun p => (p.w == u.w && side p.h u.h) || (p.h == u.h && side p.w u.w))))

/-- The size of a coding unit: square from 8 to 64 in HEVC, sides from 4 to 128 in VVC, and no smaller than the rung allows;
transform blocks from 4 to 32 or 64. -/
def sizeOk (vvc : Bool) (e : Effort) (u : CodingUnit) : Bool :=
  let pow (s : Nat) : Bool := [4, 8, 16, 32, 64, 128].contains s
  pow u.w && pow u.h && decide (e.least ≤ u.w) && decide (e.least ≤ u.h) &&
    (vvc || (u.w == u.h && decide (8 ≤ u.w) && decide (u.w ≤ 64) && u.x % u.w == 0 && u.y % u.h == 0)) &&
    decide (4 ≤ u.tbMin) && decide (u.tbMin ≤ u.tbMax) && decide (u.tbMax ≤ if vvc then 64 else 32)

/-- An intra unit depends on no sample that R244 shuts out. HEVC with one tile column: where its above-right samples lie
outside the refreshed area that it lies in, luma modes DC, 10 and 26 alone, and chroma that comes to one of them. VVC: a unit at
the left edge of its CTU reads the CTU to the left, which must not be fugitive. -/
def intraOk (q : PicSt) (x y rung : Nat) (p : PredUnit) (luma chroma : Nat) : Bool :=
  let g := q.cfg
  let edge := q.refreshed * g.h
  let plain (m : Nat) : Bool := m == 1 || m == 10 || m == 26
  decide (luma < if g.vvc then 67 else 35) && (rung != 6 || g.mode == 4 || decide (luma ≤ 1)) &&
    (if g.mode = 4 then true
     else if g.vvc then
      p.x != 0 || x == 0 || g.colLo (g.tileOf x) == x || !q.fug.contains (y * g.wc + x - 1)
     else g.tiles != 1 || decide (q.refreshed ≤ x) || decide (g.w ≤ edge) || decide (x * g.h + p.x + 2 * p.w ≤ edge) ||
      (plain luma && plain chroma))

/-- An inter unit: a reference that is searched, a vector within range unless it is merged, history-based and pairwise
candidates in VVC alone, and a clean footprint (R233, R243, R247). -/
def interOk (g : Prog) (q : PicSt) (e : Effort) (x y : Nat) (p : PredUnit) (ref : Nat) (mvx mvy : Int)
    (merge : Option MergeSource) : Bool :=
  let range := decide (mvx.natAbs ≤ 4 * e.rangeX) && decide (mvy.natAbs ≤ 4 * e.rangeY)
  let source := match merge with
    | none => range
    | some .history => q.cfg.vvc
    | some .pairwise => q.cfg.vvc
    | _ => true
  decide (ref < e.refs) && source &&
    (match (refList g q)[ref]? with
     | some r => vectorClean q r (x * q.cfg.h + p.x) (y * q.cfg.h + p.y) p.w p.h mvx mvy
     | none => false)

/-- The coding units that the search chose for the CTU at (x, y) are a legal coding of it: they tile it, keep to the limits of
the codec and of the rung, and predict from trusted samples alone. A band CTU, and every CTU in M4, is intra (R237, R255). -/
def legalCtu (g : Prog) (q : PicSt) (x y rung : Nat) (cus : List CodingUnit) : Bool :=
  let e := effort q.cfg rung
  let vvc := q.cfg.vvc
  tilesArea (cus.map (fun u => (u.x, u.y, u.w, u.h))) (q.cfg.ctuW x) (q.cfg.ctuH y) &&
    cus.all (fun u => sizeOk vvc e u && partsOk vvc rung u && u.tools.all (toolOk vvc rung) &&
      decide (u.inters ≤ e.inters) && decide (u.intras ≤ e.intras) &&
      u.units.all (fun p =>
        match p.pred with
        | .intra l k => !u.skip && intraOk q x y rung p l k
        | .inter ref mvx mvy m => (!u.skip || m.isSome) && q.cfg.mode != 4 && !q.inBand x && interOk g q e x y p ref mvx mvy m))

/-! ### How one CTU is coded -/

/-- How one CTU is coded: form (0 searched), fugitive, capped. -/
structure Coding where
  form : Nat
  fug : Bool
  capped : Bool
  deriving DecidableEq, Repr

/-- The rung-7 form of a CTU, fast or fugitive as R248 and R240 state. -/
def rung7 (g : Prog) (q : PicSt) (x y : Nat) (capped : Bool) : Coding :=
  let f := q.floorForm x
  ⟨f, q.cfg.mode != 4 && f == 1 && !fillClean g q x y, capped⟩

/-- The coding of the CTU at (x, y) (R240, R241, R248, R250, R251, R254, R255, R276). `held`: the row holds a held line;
`emerg`: an emergency was declared before the coding began; `unread`: a failing read, of the source when `src`; `tally`: the
bits of the coding that the search chose. -/
def chooseCoding (g : Prog) (q : PicSt) (x y rung headroom tally : Nat) (held emerg unread src : Bool) (r : CtuResult) :
    Coding :=
  let legal := legalCtu g q x y rung r.cus
  if q.cfg.mode = 4 then
    if unread then ⟨if src then 3 else 2, false, false⟩
    else if held || emerg || rung == 7 || q.floorOnly || !legal then ⟨2, false, false⟩
    else if headroom < tally then ⟨2, false, true⟩
    else ⟨0, false, false⟩
  else
    let was := match prevRef g q with
      | some p => p.fug.contains (y * q.cfg.wc + x)
      | none => false
    if q.kind != .ordinary then ⟨q.floorForm x, true, false⟩
    else if unread || held || emerg then ⟨1, true, false⟩
    else if was && !q.inBand x then ⟨1, true, false⟩
    else if rung = 7 then rung7 g q x y false
    else if !legal then ⟨1, true, false⟩
    else if headroom < tally then rung7 g q x y true
    else ⟨0, false, false⟩

/-- The smallest set of blocks that the implicit split at the picture edge leaves of a block (R246): quarters in HEVC, and in VVC
halves where it runs over one edge alone (PRESUMED, log entry 91). -/
def splitArea (vvc : Bool) (w h : Nat) : Nat → Nat × Nat × Nat × Nat → List (Nat × Nat × Nat × Nat)
  | 0, _ => []
  | n + 1, (x, y, bw, bh) =>
    if w ≤ x ∨ h ≤ y then []
    else if x + bw ≤ w ∧ y + bh ≤ h then [(x, y, bw, bh)]
    else if vvc ∧ x + bw ≤ w then
      splitArea vvc w h n (x, y, bw, bh / 2) ++ splitArea vvc w h n (x, y + bh / 2, bw, bh / 2)
    else if vvc ∧ y + bh ≤ h then
      splitArea vvc w h n (x, y, bw / 2, bh) ++ splitArea vvc w h n (x + bw / 2, y, bw / 2, bh)
    else
      splitArea vvc w h n (x, y, bw / 2, bh / 2) ++ splitArea vvc w h n (x + bw / 2, y, bw / 2, bh / 2) ++
        splitArea vvc w h n (x, y + bh / 2, bw / 2, bh / 2) ++ splitArea vvc w h n (x + bw / 2, y + bh / 2, bw / 2, bh / 2)

/-- The coding units of the CTU at (x, y) in a fixed-cost form (R246): fill has zero motion and reference index 0, skipped but
where a VVC list holds no such candidate; the others are intra DC with the largest transform blocks. -/
def formCus (g : ProgCfg) (x y form : Nat) (skip : Bool) : List CodingUnit :=
  (splitArea g.vvc (g.ctuW x) (g.ctuH y) 8 (0, 0, g.h, g.h)).map (fun b =>
    let (bx, by_, w, h) := b
    let skip := form == 1 && (skip || !g.vvc)
    { x := bx, y := by_, w := w, h := h, skip := skip, tbMin := min 32 w, tbMax := min (if g.vvc then 64 else 32) w
      units := [⟨bx, by_, w, h, if form = 1 then .inter 0 0 0 (if skip then some .zero else none) else .intra 1 1⟩] })

/-! ### Reconstruction buffers (R252, R253, R257) -/

/-- The address lies in a rendition's composed buffers (a source read, R255). -/
def isSourceRead (c : Chan) (g : ProgCfg) (a : Nat) : Bool :=
  let base := c.get (Reg.CMP_REN_OUT_ADDR g.ren) * 4096
  decide (base ≤ a) && decide (a < base + 2 * (g.w * g.hgt * 6))

/-- Memory port of the CTU engines. -/
def encPort : Nat := 2

/-- A failing read of a CTU (R252): the error is logged, the reference marked, FUGITIVE_REF posted at most 16 times per
programme per picture, and the CTU counted. -/
def ctuMemErr (c : Chan) (p : Nat) (q : PicSt) (x a cls : Nat) (newly : Bool) : Chan :=
  let c := memFail (memBreak c (beatOf a) cls) (beatOf a) encPort cls
  if q.cfg.mode = 4 then c
  else
    let c := if newly then c.bump (Reg.ENC_PCOUNT_FUGREF p) else c
    if q.fugEvents < 16 then
      (c.modProg p (fun g => { g with pics := g.pics.map (fun y =>
        if y.serial = q.serial then { y with fugEvents := y.fugEvents + 1 } else y) })).post 0x0402 .enc q.count x
    else c

/-! ### The configuration of a programme -/

/-- The enabled programmes' audio streams (R293). -/
def audioCfgs (c : Chan) (p : Nat) : List AudioCfg :=
  if c.get (Reg.PKT_PCFG_FORM p) = 1 then
    ((List.range 4).filter (fun k => c.flag (Reg.PKT_PAUD_EN p k))).map (fun k =>
      { k := k, port := c.get (Reg.PKT_PAUD_PORT p k), channels := 2 * (c.get (Reg.PKT_PAUD_COUNT p k) + 1)
        first := c.get (Reg.PKT_PAUD_FIRST p k), pid := c.get (Reg.PKT_PAUD_PID p k) })
  else []

/-- T_ent and T_pk of the admission cost model. -/
def tEnt (vvc : Bool) : Nat := if vvc then 24 else 16
def tPk (form : Nat) : Nat := if form = 1 then 18 else 10

/-- T_cmp of a programme's rendition. -/
def tCmp (c : Chan) (x : Nat) (scaled : Bool) : Nat :=
  4 + 2 * ((List.range 7).filter (fun l => bitAt (c.get (Reg.CMP_CTX_CFG_LAYERS x)) l)).length + (if scaled then 3 else 0)

/-- Rung factors f(r) in ten-thousandths. -/
def rungFactor (m4 : Bool) (r : Nat) : Nat :=
  if m4 then [7000, 6600, 6100, 5500, 4800, 4000, 3000, 1250].getD r 1250
  else [10000, 9600, 9000, 8200, 7200, 6000, 4500, 625].getD r 625

/-- c₀ in nanoseconds. -/
def ctuCost (vvc : Bool) : Nat := if vvc then 65536 else 16384

/-- The configuration of programme `p` as the active copies give it; `tctu` and κ come from the admission figures. -/
def progCfg (c : Chan) (p tctu kappa : Nat) : ProgCfg :=
  let r := c.get (Reg.ENC_PCFG_REN p)
  let x := c.get (Reg.CMP_REN_CFG_CTX r)
  let (w, hgt) := renSize c r
  let vvc := c.flag (Reg.ENC_PCFG_CODEC p)
  let h := if vvc then 128 else 64
  { mode := c.mode, vvc := vvc, w := w, hgt := hgt
    depth := c.get (Reg.CMP_REN_CFG_DEPTH r), chroma := c.get (Reg.CMP_REN_CFG_CHROMA r), ren := r, ctx := x
    src := c.get (Reg.CMP_CTX_CFG_SRC x), scale := c.flag (Reg.CMP_REN_CFG_SCALE r)
    h := h, wc := ceilDiv w h, rows := ceilDiv hgt h, tiles := c.get (Reg.ENC_PCFG_TILECOLS p)
    refs := c.get (Reg.ENC_PCFG_REFS p), profile := c.get (Reg.ENC_PCFG_PROFILE p), tier := c.flag (Reg.ENC_PCFG_TIER p)
    level := c.get (Reg.ENC_PCFG_LEVEL p), prim := c.get (Reg.ENC_PVUI_PRIM p), trans := c.get (Reg.ENC_PVUI_TRANS p)
    matrix := c.get (Reg.ENC_PVUI_MATRIX p), full := c.flag (Reg.ENC_PVUI_FULL p), cycle := c.get (Reg.ENC_PBAND_CYCLE p), hash := c.get (Reg.ENC_PBAND_HASH p)
    aud := c.flag (Reg.ENC_PBAND_AUD p)
    core := c.get (Reg.SCH_PTIME_CORE p), extra := c.get (Reg.SCH_PTIME_EXTRA p), plan := c.get (Reg.SCH_PTIME_PLAN p)
    prio := c.get (Reg.SCH_PTIME_PRIO p), tctu := tctu, tcmp := tCmp c x (c.flag (Reg.CMP_REN_CFG_SCALE r))
    rate := c.get (Reg.RCT_PRATE_RATE p), rateMax := c.get (Reg.RCT_PRATEMAX_RATE p), size := c.get (Reg.RCT_PCPB_SIZE p)
    init := c.get (Reg.RCT_PINIT_INIT p), cbr := c.flag (Reg.RCT_PCFG_CBR p), stretch := c.get (Reg.RCT_PCFG_STRETCH p)
    emin := c.get (Reg.RCT_PCFG_EMIN p), qpMin := c.geti (Reg.RCT_PQP_QPMIN p), qpMax := c.geti (Reg.RCT_PQP_QPMAX p)
    kappa := kappa, form := c.get (Reg.PKT_PCFG_FORM p), pathA := c.flag (Reg.PKT_PCFG_PATHA p)
    pathB := c.flag (Reg.PKT_PCFG_PATHB p), ring := c.flag (Reg.PKT_PCFG_RING p), maxPay := c.get (Reg.PKT_PCFG_MAXPAY p)
    sid := c.get (Reg.PKT_PSTREAM_SID p), pmt := c.get (Reg.PKT_PPID_PMT p), video := c.get (Reg.PKT_PPID_VIDEO p)
    audio := audioCfgs c p
    num := c.get Reg.CAP_RASTER_RATE_NUM, den := c.get Reg.CAP_RASTER_RATE_DEN
    total := c.get Reg.CAP_RASTER_LINES_TOTAL, active := c.get Reg.CAP_RASTER_LINES_ACTIVE
    verify := bitAt (c.get Reg.SCH_MODE_VERIFY) p }

end Sys2Proof.Machine
end

