-- ==== Sys2Proof/Machine/Rate.lean ====
section
/-! DEFINITION. Rate control (10_rate_control.md): the ledger (R261 to R265), overhead, targets, allowances (R268 to
R277), emergencies (R278), QP (R279, R280). -/

namespace Sys2Proof.Machine

/-! ### The ledger (R259, R261) -/

/-- Rs in bits per second. -/
def ProgCfg.rs (g : ProgCfg) : Nat := g.rateMax * 64

/-- CPB size B in bits. -/
def ProgCfg.cpb (g : ProgCfg) : Nat := g.size * 16

/-- d0bits. -/
def ProgCfg.d0bits (g : ProgCfg) : Nat := g.rs * g.init / 90000

/-- a(n) at a rate in bits per second. -/
def arrive (g : ProgCfg) (bps n : Nat) : Nat := bps * g.den * n / g.num - bps * g.den * (n - 1) / g.num

/-- lim(n) from lim(n − 1) and the bits taken for picture n − 1. -/
def limNext (g : ProgCfg) (n : Nat) (lim used : Int) : Int :=
  let l := lim - used + (arrive g g.rs n : Int)
  if g.cbr then l else min l (g.d0bits : Int)

/-- lmin(n). -/
def lminOf (g : ProgCfg) (n : Nat) (lim : Int) : Int :=
  if g.cbr then lim + (arrive g g.rs (n + 1) : Int) - (g.cpb : Int) else 0

/-- U(n − 1) of an open picture (R264). -/
def boundOf (q : PicSt) : Int :=
  let s : Int := ((q.overBits + q.closedBits + q.openBits : Nat) : Int)
  if q.cfg.cbr then max s (lminOf q.cfg q.n q.lim + 56) else s

/-- Tp(n) (R268). -/
def targetOf (g : ProgCfg) (n : Nat) (lim : Int) : Int :=
  let ar : Int := (arrive g (g.rate * 64) (n + 1) : Int)
  min (max (ar + (lim - (g.d0bits : Int)) / 8) (lminOf g n lim)) lim

/-- Header charge h of a row (R270). -/
def ProgCfg.hdr (g : ProgCfg) : Nat := if g.vvc then 128 + 32 * (g.tiles - 1) else 160 * g.tiles

/-- Header charge of one tile column (R274). -/
def ProgCfg.hdrCol (g : ProgCfg) (t : Nat) : Nat := if g.vvc then (if t = 0 then g.hdr else 0) else 160

/-- The floor reserve Φ(n, k) (R271). -/
def PicSt.reserve (q : PicSt) (k : Nat) : Nat := (q.cfg.rows - k) * (q.phi + q.cfg.hdr)

/-- The row cap κ (R273); `m` programmes share the most loaded coder. τ = DEN / (NUM × TOTAL). -/
def kappaOf (g : ProgCfg) (m : Nat) : Nat :=
  6000000000 * tEnt g.vvc * g.den * g.tiles / (g.num * g.total * m)

/-- The picture belongs to the programme's own stream, not to one that a commit has ended or restarted. -/
def Prog.isCurrent (g : Prog) (q : PicSt) : Bool :=
  g.on && (match g.streams with
    | s :: _ => s.id == q.stream
    | [] => false)

/-- Recompute every limit after a change of b (R264), oldest picture first, from the picture before; a ledger starts
anew where n is 0. -/
def relimitFrom (q : PicSt) : List PicSt → List PicSt
  | [] => []
  | r :: rest =>
    let r' : PicSt :=
      if r.n = 0 ∨ r.stream ≠ q.stream then r
      else
        let l := limNext r.cfg r.n q.lim q.used
        { r with lim := l, lmin := lminOf r.cfg r.n l }
    r' :: relimitFrom r' rest

def relimit (l : List PicSt) : List PicSt :=
  match l with
  | [] => []
  | q :: rest => q :: relimitFrom q rest

/-! ### A picture is given its limit and target (R264, R268) -/

/-- The newest picture that the ledger of a stream runs on from. -/
def Prog.lastOf (g : Prog) (stream : Nat) : Option PicSt := (g.pics.filter (fun q => q.stream == stream)).getLast?

/-- Limit and number of a new picture in its ledger; the picture before fixes U if it is still open. -/
def ledgerOf (g : Prog) (cfg : ProgCfg) (stream : Nat) : Nat × Int × Prog :=
  match g.lastOf stream with
  | none => (0, (cfg.d0bits : Int), g)
  | some q =>
    let u := if q.closed then q.used else boundOf q
    (q.n + 1, limNext cfg (q.n + 1) q.lim u, g.modPic q.serial (fun q => { q with used := u }))

/-! ### QP (R279, R280) -/

/-- floor(64 × log2(a / b)) for a, b ≥ 1. -/
def log2x64 (a b : Nat) : Int :=
  let x := a ^ 64
  let y := b ^ 64
  if y ≤ x then ((Nat.log2 (x / y) : Nat) : Int)
  else
    let q := ceilDiv y x
    Int.neg (((if q ≤ 1 then 0 else Nat.log2 (q - 1) + 1 : Nat)) : Int)

/-- β[r] (R279). -/
def beta (r : Nat) : Int := ([0, 0, 0, 1, 1, 2, 3] : List Int).getD r 3

/-- qp_base of row `k` with target `t` (R279). -/
def qpBase (g : Prog) (cfg : ProgCfg) (k t : Nat) : Int :=
  match g.qpRows.find? (fun r => r.row == k) with
  | none => (cfg.qpMin + cfg.qpMax) / 2
  | some r => r.qp - beta r.rung + (6 * log2x64 (max 1 r.tally) (max 1 t) + 32) / 64

/-- The QP of a CTU (R280): `spent` and `done` of its tile column's earlier CTUs, `t` the column's target. -/
def ctuQp (cfg : ProgCfg) (base : Int) (rung spent done ctus t : Nat) : Int :=
  let d : Int := (spent : Int) - ((t * done / max 1 ctus : Nat) : Int)
  let adj := max (-3) (min 3 ((16 * d).tdiv (max 1 t : Nat)))
  max cfg.qpMin (min cfg.qpMax (base + beta rung + adj))

/-! ### Allowances (R272, R274, R276) -/

/-- Allowance of tile column `t` of a row. -/
def allowCol (q : PicSt) (r : RowSt) (t : Nat) : Nat :=
  q.floorCols (q.cfg.colLo t) (q.cfg.colHi t) + q.cfg.hdrCol t + r.x * q.cfg.cols t / q.cfg.wc

/-- Target of tile column `t` of a row. -/
def targetCol (q : PicSt) (r : RowSt) (t : Nat) : Nat :=
  q.floorCols (q.cfg.colLo t) (q.cfg.colHi t) + r.e * q.cfg.cols t / q.cfg.wc

/-- A budget emergency is declared for a picture at the release of row `k` (R278). -/
def declareEmergency (c : Chan) (p : Nat) (q : PicSt) (k : Nat) (left : Int) : Chan :=
  let c := c.modProg p (fun g => g.modPic q.serial (fun q => { q with emergency := true }))
  let c : Chan := { c with sched := { c.sched with ctxs := c.sched.ctxs.map (fun e =>
    if e.2.key.prog = p ∧ e.2.key.pic = q.serial ∧ e.2.key.kind = 1 ∧ e.2.state = 5 then
      (e.1, { e.2 with preEmerg := true }) else e) } }
  (c.bump (Reg.RCT_PCOUNT_EMERG p)).post 0x0401 .rct (p * 2 ^ 24 + k) (patternOf 32 left)

/-- Row `k` receives its allowance and target (R272), its base QP (R279). -/
def rowAllowance (c : Chan) (p serial k : Nat) : Chan :=
  match (c.prog p).pic? serial with
  | none => c
  | some q =>
    let cfg := q.cfg
    let spent : Int := ((q.overBits + q.closedBits + q.openBits + q.reserve k : Nat) : Int)
    let fr := q.lim - spent
    let c := if !q.emergency && fr < ((cfg.emin * cfg.wc : Nat) : Int) then
        declareEmergency c p q k (q.lim - ((q.overBits + q.closedBits + q.openBits : Nat) : Int)) else c
    let emerg := ((c.prog p).pic? serial).any (·.emergency)
    let e := (max 0 (q.target - spent)).toNat / (cfg.rows - k)
    let phi := q.phi
    let f := fr.toNat
    let x := if emerg then 0
      else min f (min (cfg.stretch * f / (4 * (cfg.rows - k))) (cfg.kappa - phi - cfg.hdr))
    let a := phi + cfg.hdr + x
    let base := qpBase (c.prog p) cfg k (phi + e)
    let c := c.modProg p (fun g => (g.modRow serial k (fun r => { r with
      allow := a, x := x, e := e, qpBase := base, emerg := emerg })).modPic serial (fun q => { q with
      openBits := q.openBits + a }))
    ((c.seti (Reg.RCT_PFREE_VALUE p) fr).seti (Reg.RCT_PROW_QPBASE p) base).set (Reg.RCT_PROW_ROW p) k

/-- The picture registers of the newest picture whose row 0 is released. -/
def showPicture (c : Chan) (p : Nat) (q : PicSt) : Chan :=
  ((c.seti (Reg.RCT_PLIMIT_VALUE p) q.lim).seti (Reg.RCT_PTARGET_VALUE p) q.target).seti (Reg.RCT_PLMIN_VALUE p) q.lmin

/-- Filler bits of a picture that closes with `b` bits (R265). -/
def fillerBits (q : PicSt) (b : Nat) : Nat :=
  let lmin := lminOf q.cfg q.n q.lim
  if q.cfg.cbr ∧ (b : Int) < lmin then max 56 (8 * ceilDiv ((lmin - (b : Int)).toNat) 8) else 0

/-- What a row spent once it is packed: every byte of its slice NAL units, headers and CTUs (R260, R275, R277). -/
def RowSt.bits (r : RowSt) : Nat := 8 * r.body.length

/-- A row closes (R277): what it spent takes the place of its allowance. -/
def closeRow (c : Chan) (p serial k : Nat) : Chan :=
  match (c.prog p).row? serial k with
  | none => c
  | some r =>
    c.modProg p (fun g => g.modPic serial (fun q => { q with
      closedBits := q.closedBits + r.bits, openBits := q.openBits - r.allow, rowsClosed := q.rowsClosed + 1 }))

/-- A picture closes (R264): limits of the pictures after it are recomputed, the closed totals shown. -/
def closePicture (c : Chan) (p serial : Nat) : Chan :=
  match (c.prog p).pic? serial with
  | none => c
  | some q =>
    let b := 8 * q.head.length + q.closedBits + q.filler + 8 * q.tail.length
    let c := c.modProg p (fun g =>
      let g := g.modPic serial (fun q => { q with closed := true, bits := b, used := (b : Int) })
      { g with pics := relimit g.pics })
    if (c.prog p).isCurrent q then
      let c := ((c.inc (Reg.RCT_PBITS_COUNT p) b).set (Reg.RCT_PLAST_VALUE p) b).set (Reg.RCT_PFILLER_VALUE p) q.filler
      match (c.prog p).pics.getLast? with
      | some n => showPicture c p n
      | none => c
    else c

end Sys2Proof.Machine
end

