-- ==== Sys2Proof/Machine/Recon.lean ====
section
/-! DEFINITION. Reconstruction (R228, R246, R257): what the engines write into the reconstruction buffers, the area of a CTU
in a buffer with its checksum (R315), and the planes of a decoded picture for its hash (R236). Coded samples that the picture
content decides are free values. -/

namespace Sys2Proof.Machine

/-- Base of reconstruction buffer `b` of programme `p` (R257), and of its verification buffer `b` (R314). -/
def reconBase (c : Chan) (p : Nat) (g : ProgCfg) (b : Nat) : Nat := c.get (Reg.ENC_PRECON_ADDR p) * 4096 + b * g.reconBytes
def verifyBase (c : Chan) (p : Nat) (g : ProgCfg) (b : Nat) : Nat := c.get (Reg.DEC_VBUF_ADDR p) * 4096 + b * g.reconBytes

/-- Address of the pixel word at (x, y) of a buffer. -/
def pixelAddr (g : ProgCfg) (base x y : Nat) : Nat := base + (y * g.w + x) * 6

/-- Luma samples inside a fill CTU that deblocking may alter at an edge shared with a coded CTU (R246, end). -/
def ProgCfg.deblock (g : ProgCfg) : Nat := if g.vvc then 7 else 3

/-- The form of a coded CTU of a picture, by address; none if it is not coded yet. -/
def formOf (g : Prog) (serial a : Nat) : Option Nat :=
  ((g.rows.filter (fun r => r.serial == serial)).findSome? (fun r => r.ctus.find? (fun k => k.addr == a))).map (·.form)

/-- The pixel of 1 << (DEPTH − 1) in every component, MSB-aligned, chroma at the subsampled positions alone (R219, R246). -/
def greyPixel (g : ProgCfg) (x y : Nat) : Pixel :=
  let k := if x % g.subW = 0 ∧ y % g.subH = 0 then 0x8000 else 0
  ⟨0x8000, k, k⟩

/-- Write `w` pixel words of free bytes at (x, y). -/
def writeFree (c : Chan) (base : Nat) (g : ProgCfg) (x y w : Nat) : Chan :=
  (memWrite c (pixelAddr g base x y) 3 (c.freeBytes (w * 6))).draw

/-- Line `i` of the CTU at (x, y) in the fill form: the co-located line of reference index 0, but for the samples at edges that
it shares with coded CTUs. A start picture of VVC copies the picture that is generated for POC −1, a first bench picture one
that the bench unit does not hold (R254). -/
def fillLine (c : Chan) (p : Nat) (q : PicSt) (x y i : Nat) (left top : Bool) : List Byte :=
  let g := q.cfg
  let w := g.ctuW x
  let free := c.freeBytes (w * 6)
  let src : List Byte := match prevRef (c.prog p) q with
    | some r => c.load (pixelAddr g (reconBase c p g r.buffer) (x * g.h) (y * g.h + i)) (w * 6)
    | none => if q.kind = .start then (List.range w).flatMap (fun j => (greyPixel g (x * g.h + j) (y * g.h + i)).bytes) else free
  let n := if top && i < g.deblock then w else if left then min w g.deblock else 0
  free.take (n * 6) ++ src.drop (n * 6)

/-- The engine writes the reconstruction of a CTU in `form` and its side field (R246, R257), and deblocking alters what it may
of fill CTUs beside it. -/
def writeRecon (c : Chan) (p : Nat) (q : PicSt) (x y form : Nat) : Chan :=
  let g := q.cfg
  let base := reconBase c p g q.buffer
  let at_ (u v : Nat) : Option Nat := formOf (c.prog p) q.serial (v * g.wc + u)
  let w := g.ctuW x
  let n := g.ctuH y
  let coded (f : Option Nat) : Bool := f.any (· != 1)
  let c := forN n (fun i c =>
    let line : List Byte :=
      if form = 1 then fillLine c p q x y i (x != 0 && coded (at_ (x - 1) y)) (y != 0 && coded (at_ x (y - 1)))
      else if form = 3 ∧ g.mode ≠ 4 then (List.range w).flatMap (fun j => (greyPixel g (x * g.h + j) (y * g.h + i)).bytes)
      else c.freeBytes (w * 6)
    (memWrite c (pixelAddr g base (x * g.h) (y * g.h + i)) 3 line).draw) c
  let c := if form ≠ 1 ∧ x ≠ 0 ∧ at_ (x - 1) y = some 1 then
      forN n (fun i c => writeFree c base g (x * g.h - g.deblock) (y * g.h + i) g.deblock) c
    else c
  let c := if form ≠ 1 ∧ y ≠ 0 ∧ at_ x (y - 1) = some 1 then
      forN g.deblock (fun i c => writeFree c base g (x * g.h) (y * g.h - g.deblock + i) w) c
    else c
  let bw := ceilDiv g.w 16
  forN (ceilDiv n 16) (fun i c =>
    (memWrite c (base + g.w * g.hc * 6 + ((y * g.h / 16 + i) * bw + x * g.h / 16) * 128) 3
      (c.freeBytes (ceilDiv w 16 * 128))).draw) c

/-- The pixel words of a CTU's area in a buffer, clipped to the coded picture, line by line. -/
def ctuArea (c : Chan) (g : ProgCfg) (base a : Nat) : List (List Byte) :=
  let x := a % max 1 g.wc
  let y := a / max 1 g.wc
  (List.range (g.ctuH y)).map (fun i => c.load (pixelAddr g base (x * g.h) (y * g.h + i)) (g.ctuW x * 6))

/-- The three components of the picture of `w` by `h` pixel words at `base`, at a bit depth. -/
def planesAt (c : Chan) (base w h subW subH depth : Nat) : List Plane :=
  let line (y : Nat) : List Pixel := pixelsOf w (c.load (base + y * w * 6) (w * 6))
  let plane (k sw sh : Nat) : Plane :=
    { width := ceilDiv w sw
      samples := ((List.range h).filter (fun y => y % sh == 0)).flatMap (fun y =>
        let l := line y
        ((List.range w).filter (fun x => x % sw == 0)).map (fun x => (l.getD x ⟨0, 0, 0⟩).comp k / 2 ^ (16 - depth))) }
  [plane 0 1 1, plane 1 subW subH, plane 2 subW subH]

/-- The three components of a decoded picture (R236, item 6). -/
def planesOf (c : Chan) (p : Nat) (q : PicSt) : List Plane :=
  let g := q.cfg
  planesAt c (reconBase c p g q.buffer) g.w g.hc g.subW g.subH g.depth

/-- The checksum of an area of `h` lines of pixel words (R315). -/
def areaCheck (lines : List (List Byte)) : Nat :=
  crc32 (lines.flatMap (fun l => (pixelsOf (l.length / 6) l).flatMap Pixel.crcBytes))

/-- The CTU reconstruction checksum of a CTU in a buffer (R315). -/
def ctuCheck (c : Chan) (g : ProgCfg) (base a : Nat) : Nat := areaCheck (ctuArea c g base a)

end Sys2Proof.Machine
end

