-- ==== Sys2Proof/Machine/Transport.lean ====
section
/-! DEFINITION. The transport stream of a programme (R288 to R294): transport packets, PAT and PMT, video and audio PES
packets. Layouts of ISO/IEC 13818-1 and SMPTE ST 302M that the specification names without repeating them are PRESUMED
(log entry 30). -/

namespace Sys2Proof.Machine

/-- The 90 kHz and 27 MHz values of a device time in 2⁻¹⁶ ns (R291). -/
def clock90 (t : Nat) : Nat := t * 9 / (100000 * 65536) % 2 ^ 33
def clock27 (t : Nat) : Nat := t * 27 / (1000 * 65536)

/-- The six bytes of a PCR. -/
def pcrBytes (t : Nat) : List Byte :=
  let v := clock27 t
  bytesBE 6 (v / 300 % 2 ^ 33 * 2 ^ 15 + 63 * 2 ^ 9 + v % 300)

/-- A transport stream being built: packets so far, packets per Ubnen-S packet, the group that has a PCR already. -/
structure Ts where
  pkts : List (List Byte) := []
  cap : Nat
  video : Nat
  cc : List (Nat × Nat)
  disc : List Nat
  pcrGroup : Option Nat := none
  deriving DecidableEq, Repr

/-- Continuity counter of the next packet of a PID. -/
def ccOf (l : List (Nat × Nat)) (pid : Nat) : Nat := ((l.find? (fun e => e.1 == pid)).map (·.2)).getD 0

def ccSet (l : List (Nat × Nat)) (pid v : Nat) : List (Nat × Nat) := (pid, v) :: l.filter (fun e => e.1 != pid)

/-- The next packet of a PID carries a PCR: the first video packet of its Ubnen-S packet (R292). -/
def Ts.wantsPcr (s : Ts) (pid : Nat) : Bool := pid == s.video && s.pcrGroup != some (s.pkts.length / s.cap)

/-- Payload bytes that the next packet of a PID can carry. -/
def Ts.room (s : Ts) (pid : Nat) : Nat :=
  if s.wantsPcr pid then 176 else if s.disc.contains pid then 182 else 184

/-- Append one transport packet of 188 bytes with the payload given (at most `room`); the rest is adaptation-field
stuffing. PCR bytes are filled in as the packet leaves. -/
def Ts.put (s : Ts) (pid : Nat) (start : Bool) (pay : List Byte) : Ts :=
  let pcr := s.wantsPcr pid
  let disc := s.disc.contains pid
  let m := if pcr then 8 else if disc then 2 else 0
  let stuff := 184 - m - pay.length
  let flags : Byte := BitVec.ofNat 8 (b2n disc * 0x80 + b2n pcr * 0x10)
  let af : List Byte :=
    if m > 0 then
      [BitVec.ofNat 8 (m - 1 + stuff), flags] ++ (if pcr then List.replicate 6 0#8 else []) ++ List.replicate stuff 0xFF#8
    else if stuff = 0 then []
    else if stuff = 1 then [0#8]
    else [BitVec.ofNat 8 (stuff - 1), 0#8] ++ List.replicate (stuff - 2) 0xFF#8
  let n := ccOf s.cc pid
  let cc := if pay.isEmpty then (n + 15) % 16 else n
  let afc := (if af.isEmpty then 0 else 2) + (if pay.isEmpty then 0 else 1)
  let head : List Byte := [0x47#8, BitVec.ofNat 8 (b2n start * 64 + pid / 256), BitVec.ofNat 8 (pid % 256),
    BitVec.ofNat 8 (afc * 16 + cc)]
  { s with
    pcrGroup := if pcr then some (s.pkts.length / s.cap) else s.pcrGroup
    pkts := s.pkts ++ [head ++ af ++ pay]
    cc := if pay.isEmpty then s.cc else ccSet s.cc pid ((n + 1) % 16)
    disc := s.disc.filter (· != pid) }

/-- Packets that carry a run of bytes of one PID; `k` bounds their number. -/
def Ts.carry : Nat → Ts → Nat → Bool → List Byte → Ts
  | 0, s, _, _, _ => s
  | k + 1, s, pid, start, bs =>
    match bs with
    | [] => s
    | _ =>
      let n := s.room pid
      Ts.carry k (s.put pid start (bs.take n)) pid false (bs.drop n)

/-- A section in its own transport packet, after a pointer field of zero. -/
def Ts.section_ (s : Ts) (pid : Nat) (bs : List Byte) : Ts :=
  let b := 0#8 :: bs
  s.put pid true (b ++ List.replicate (s.room pid - b.length) 0xFF#8)

/-- A PSI section: table, the bytes between the length and the CRC, CRC-32. -/
def psiSection (table : Nat) (body : List Byte) : List Byte :=
  let s := bytesBE 1 table ++ bytesBE 2 (0xB000 + body.length + 4) ++ body
  s ++ bytesBE 4 (crc32Mpeg s)

/-- The PAT (R288). -/
def patSection (g : ProgCfg) (ver : Nat) : List Byte :=
  psiSection 0 (bytesBE 2 g.sid ++ bytesBE 1 (0xC1 + 2 * ver) ++ [0#8, 0#8] ++ bytesBE 2 1 ++ bytesBE 2 (0xE000 + g.pmt))

/-- The PMT (R288). -/
def pmtSection (g : ProgCfg) (ver : Nat) : List Byte :=
  let video := bytesBE 1 (if g.vvc then 0x33 else 0x24) ++ bytesBE 2 (0xE000 + g.video) ++ bytesBE 2 0xF000
  let audio := g.audio.map (fun a =>
    bytesBE 1 6 ++ bytesBE 2 (0xE000 + a.pid) ++ bytesBE 2 0xF006 ++ bytesBE 2 0x0504 ++ bytesBE 4 0x42535344)
  psiSection 2 (bytesBE 2 1 ++ bytesBE 1 (0xC1 + 2 * ver) ++ [0#8, 0#8] ++ bytesBE 2 (0xE000 + g.video) ++
    bytesBE 2 0xF000 ++ video ++ audio.flatten)

/-- The five bytes of a PTS. -/
def ptsBytes (v : Nat) : List Byte :=
  [BitVec.ofNat 8 (0x21 + bitsOf v 30 3 * 2), BitVec.ofNat 8 (bitsOf v 22 8), BitVec.ofNat 8 (1 + bitsOf v 15 7 * 2),
    BitVec.ofNat 8 (bitsOf v 7 8), BitVec.ofNat 8 (1 + bitsOf v 0 7 * 2)]

/-- A PES header with a PTS alone (R290). -/
def pesHeader (sid len pts : Nat) : List Byte :=
  bytesBE 3 1 ++ bytesBE 1 sid ++ bytesBE 2 len ++ [0x84#8, 0x80#8, 5#8] ++ ptsBytes pts

/-- PTSDLY (R291). -/
def ptsDelay (g : ProgCfg) : Nat :=
  ceilDiv (90000 * (g.active + (g.core + g.extra) * g.h) * g.den) (g.num * g.total) + g.init

/-- Bits of a number, least significant first. -/
def lsbBits (w x : Nat) : List Bool := (List.range w).map (bitAt x)

/-- The ST 302M payload of the samples given, oldest first, each with the words of its channels (R293). -/
def st302 (a : AudioCfg) (samples : List (List Word)) : List Byte :=
  let n := samples.length * a.channels * 28 / 8
  let bits := samples.flatMap (fun w => (List.range a.channels).flatMap (fun i =>
    lsbBits 24 ((w.getD i 0#32).toNat / 256) ++ [false, false, false, false]))
  bytesBE 4 (n * 2 ^ 16 + (a.channels / 2 - 1) * 2 ^ 14 + 2 * 2 ^ 4) ++ packBits n bits

/-- The stamped frames of an audio stream's port that fall within the frame period from `lo` up to `hi` (R293, R395). -/
def audioFrames (c : Chan) (a : AudioCfg) (lo hi : Int) : List AudStamp :=
  audStamps c a.port lo hi (2 ^ c.get (Reg.AUD_SIZE_SLOG2 a.port 0)) (c.side a.port 0).frames

/-- The audio PES of one stream for the frame period from `lo` up to `hi` (R293), if the port delivered a sample: its samples are
found in the port's ring by the INDEX and MASK of each stamp (R395), so that a lost word shows as R397 says. -/
def audioPes (c : Chan) (g : ProgCfg) (a : AudioCfg) (lo hi : Int) : Option (List Byte) :=
  match audioFrames c a lo hi with
  | [] => none
  | s :: l =>
    let pay := st302 a ((s :: l).map (fun s => (List.range a.channels).map (fun i => audSlotWord c a.port s (a.first + i))))
    some (pesHeader 0xBD (pay.length + 8) ((clock90 s.time + ptsDelay g) % 2 ^ 33) ++ pay)

/-- The packer reads the stamps and words of a picture's audio through its port of the memory (R293, R408). -/
def audioReads (c : Chan) (g : ProgCfg) (lo hi : Int) : Chan :=
  g.audio.foldl (fun c a => (audioFrames c a lo hi).foldl (fun c s =>
    memRead c (audWordAddr c a.port 0 s.index) (4 * (maskSlots s.mask).length) 4) c) c

/-- Device time in 2⁻¹⁶ ns as a natural number. -/
def natTime (t : Int) : Nat := t.toNat

/-- The transport packets of row `k` of a picture whose elementary bytes are `bs` (R289 to R294). -/
def rowTs (c : Chan) (q : PicSt) (k : Nat) (bs : List Byte) (psi : Bool) (st : Stream) : Ts :=
  let g := q.cfg
  let s : Ts := { cap := min (g.maxPay / 188) 43, video := g.video, cc := st.cc, disc := st.discPids }
  if k = 0 then
    let s := if psi then (s.section_ 0 (patSection g st.psiVer)).section_ g.pmt (pmtSection g st.psiVer) else s
    let v := pesHeader 0xE0 0 ((clock90 (natTime q.t0) + ptsDelay g) % 2 ^ 33) ++ bs
    let s := Ts.carry (v.length + 1) s g.video true v
    g.audio.foldl (fun s a =>
      match audioPes c g a q.tprev q.t0 with
      | some b => Ts.carry (b.length + 1) s a.pid true b
      | none => s) s
  else Ts.carry (bs.length + 1) s g.video false bs

/-- Fill in the PCRs of a payload of whole transport packets (R292): `at_` is the device time at which a byte of the Ubnen-S
packet leaves, `i` the first transport packet's place in the packet. The last bit of program_clock_reference_base stands in
byte 10 of its transport packet. -/
def stampPcr (at_ : Nat → Nat) : Nat → Nat → List Byte → List Byte
  | 0, _, _ => []
  | n + 1, i, bs =>
    let p := bs.take 188
    let has := decide (2 ≤ (p.getD 3 0#8).toNat / 16 % 4) && bitAt (p.getD 5 0#8).toNat 4 && decide (1 ≤ (p.getD 4 0#8).toNat)
    let p := if has then p.take 6 ++ pcrBytes (at_ (32 + 188 * i + 10)) ++ p.drop 12 else p
    p ++ stampPcr at_ n (i + 1) (bs.drop 188)

end Sys2Proof.Machine
end

