-- ==== Sys2Proof/Machine/Packer.lean ====
section
/-! DEFINITION. Ubnen-S packets and their departure (11_stream_output.md): R286, R287, R292, R295 to R304, R310 to R312,
and the scorecard that departures lead to (R426, R428). -/

namespace Sys2Proof.Machine

/-- The bytes of a packet that leaves at device time `t` (R295, R310). -/
def Packet.bytes (k : Packet) : List Byte :=
  let body := bytesBE 1 (0x10 + k.typ) ++ bytesBE 1 k.flags ++ bytesBE 2 k.sid ++ bytesBE 4 k.seq ++
    bytesBE 12 (time96 k.time) ++ bytesBE 2 k.payload.length ++ bytesBE 1 k.epoch ++ [0#8] ++ bytesBE 4 k.picture ++
    bytesBE 4 k.due ++ k.payload
  body ++ bytesBE 4 (crc32 body)

/-- Payloads of a run of bytes in packets of at most `n` bytes; at least one packet. `k` bounds their number. -/
def chunks : Nat → Nat → List Byte → List (List Byte)
  | 0, _, bs => [bs]
  | k + 1, n, bs => if bs.length ≤ n then [bs] else bs.take n :: chunks k n (bs.drop n)

/-! ### Streams -/

def Prog.stream? (g : Prog) (id : Nat) : Option Stream := g.streams.find? (fun s => s.id == id)

def Prog.modStream (g : Prog) (id : Nat) (f : Stream → Stream) : Prog :=
  { g with streams := g.streams.map (fun s => if s.id = id then f s else s) }

/-- Show the newest stream's numbering (PKT_PSTAT, PKT_PSEQ). -/
def showStream (c : Chan) (p : Nat) : Chan :=
  match (c.prog p).streams with
  | s :: _ => (c.set (Reg.PKT_PSTAT_EPOCH p) s.epoch).set (Reg.PKT_PSEQ_NEXT p) s.seq
  | [] => c

/-- Rate of a path's lanes in units of 10⁶ baud (14, "Code groups and columns"). -/
def laneBaud (code : Nat) : Nat := [0, 1250, 3125, 6250, 12500, 16000].getD code 16000

/-- Time in 2⁻¹⁶ ns that `n` columns take, ten bits each on lanes of a rate code, with the markers of four columns that come in
every 4,096 from where the path stands in that period (R363). -/
def columnTime (rate phase n : Nat) : Nat := (n + 4 * ((n + phase) / 4092)) * 10000 * 65536 / laneBaud rate

/-- Columns of a packet of `n` payload bytes on two lanes (R369, R380): START, the body with its pad, END, IDLE. -/
def packetColumns (n : Nat) : Nat := 3 + ceilDiv (36 + n) 2

/-- Rate code of the lanes of a path. -/
def pathRate (c : Chan) (x : Nat) : Nat := c.get (Reg.LNK_SCFG_RATE (2 * x))

/-- A packet that begins to leave a path at device time `s`, as it is written while it leaves (R292, R297): TIME is that of
byte 0, two bytes leave with each column. -/
def stampPacket (rate phase s : Nat) (k : Packet) : Packet :=
  let at_ (i : Nat) : Nat := s + columnTime rate phase (1 + i / 2)
  { k with time := at_ 0, payload := if k.typ = 2 then stampPcr at_ (k.payload.length / 188) 0 k.payload else k.payload }

/-- The path's lanes send packets (R304, R371). -/
def pathUp (c : Chan) (x : Nat) : Bool := c.flag (if x = 0 then Reg.LNK_GSTAT_PATHA else Reg.LNK_GSTAT_PATHB)

/-- One path takes a released packet (R297 to R299): back to back behind those it has still to send, or `wait` after the release
if it has none; answers its TIME. A path that does not send packets loses it. -/
def pathSend (c : Chan) (p x wait phase : Nat) (k : Packet) : Chan × Nat :=
  let now := c.now
  if !pathUp c x then (c, now)
  else
    let y := c.paths.getD x {}
    let s := if now < y.busyUntil then y.busyUntil else now + wait
    let rate := pathRate c x
    let k := stampPacket rate phase s k
    let last := s + columnTime rate phase (packetColumns k.payload.length)
    let w := (k.time - now) / 65536
    let c := c.set (Reg.PKT_PATHSTAT_ACTIVE x) 1
    let c := if c.get (Reg.PKT_PWAIT_MAXWAIT p) < w then c.set (Reg.PKT_PWAIT_MAXWAIT p) w else c
    ({ c with paths := c.paths.modify x (fun y => { queue := y.queue ++ [⟨s, last, k, rate, phase⟩], busyUntil := last }) }, k.time)

/-- The columns of a packet on a path's two lanes (R362, R369), and those of one in progress that have left by `now`. -/
def Packet.columns (k : Packet) : List (List Sym) := packetSyms 2 k.bytes

def Sending.columnsBy (k : Sending) (now : Nat) : List (List Sym) :=
  let cols := k.pkt.columns
  cols.take ((List.range cols.length).filter (fun m => decide (k.first + columnTime k.rate k.phase (m + 1) ≤ now))).length

/-- What has left path `x` by now goes out. Where the path has stopped sending packets, the one in progress is cut off and those
behind it never leave (R304). -/
def pathFlush (x : Nat) (c : Chan) : Chan :=
  let now := c.now
  match (c.paths.getD x {}).queue with
  | [] => c
  | q =>
    let gone := q.takeWhile (fun k => decide (k.last ≤ now))
    let rest := q.drop gone.length
    let c := gone.foldl (fun c k => c.emit (.out (.packet c.num x k.pkt k.pkt.columns))) c
    if pathUp c x then
      { c.set (Reg.PKT_PATHSTAT_ACTIVE x) (b2n !rest.isEmpty) with
        paths := c.paths.modify x (fun y => { y with queue := rest }) }
    else
      let c := (rest.filter (fun k => decide (k.first ≤ now))).foldl (fun c k => c.emit (.out (.cut c.num x k.pkt.seq (k.columnsBy now)))) c
      { c.set (Reg.PKT_PATHSTAT_ACTIVE x) 0 with paths := c.paths.modify x (fun _ => {}) }

/-- What the paths and lanes of a unit that leaves RUN show: packets in progress are cut off (R304), and the transmitting lanes go
to electrical idle (R371). -/
def pathsCut (c : Chan) : List Output :=
  (List.range 2).flatMap (fun x => ((c.paths.getD x {}).queue.filter (fun k => decide (k.first ≤ c.now))).map
    (fun k => .cut c.num x k.pkt.seq (k.columnsBy c.now))) ++
  ((List.range 4).filter (fun k => c.get (Reg.LNK_SSTAT_SENDS k) != 0)).map (laneDrive c 0) ++
  (if laneOn c 20 && c.tim.lref then [tLaneDrive c 0] else [])

/-- The packer releases one packet of stream `id` of programme `p` to its outputs (R297, R298, R301, R310). Answers the
TIME that a scorecard records. -/
def releasePacket (c : Chan) (p id : Nat) (g : ProgCfg) (typ flags picture due : Nat) (pay : List Byte) : Chan × Nat :=
  match (c.prog p).stream? id with
  | none => (c, 0)
  | some s =>
    let now := c.now
    let k : Packet :=
      { typ := typ, flags := flags + (if s.disc then 0x80 else 0), sid := s.sid, seq := s.seq, time := now
        epoch := s.epoch, picture := picture % 2 ^ 32, due := due, payload := pay }
    -- an idle path begins within 8 lt, path B at most 20 ns after path A (R298, R299)
    let wait := Config.sendDelay c.num c.free % (g.ltNs 8 * 65536 + 1)
    let skew := Config.pathSkew c.num c.free % (20 * 65536 + 1)
    let phase := Config.markerPhase c.num c.free % 4092
    let host := stampPacket (pathRate c 0) phase now k
    let (c, ta) := if g.pathA then pathSend c p 0 wait phase k else (c, now)
    let (c, tb) := if g.pathB then pathSend c p 1 (wait + skew) phase k else (c, now)
    let c := if g.ring then c.emit (.hostPacket p (5 + p) host.bytes) else c
    let c := c.draw.inc (Reg.PKT_PPKTS_COUNT p)
    let c := c.modProg p (fun g => g.modStream id (fun s => { s with
      seq := (s.seq + 1) % 2 ^ 32, disc := false, sent := true, lastPic := picture }))
    let c := c.set (Reg.PKT_PSTAT_ONAIR p) 1
    (showStream c p, if g.pathA then ta else if g.pathB then tb else now)

/-- A stream that a commit has ended sends END after its last row, and is forgotten (R303); one that a restart has
replaced is only forgotten (R505). -/
def streamEnd (c : Chan) (p id : Nat) : Chan :=
  match (c.prog p).stream? id with
  | none => c
  | some s =>
    let g := c.prog p
    let newest := g.on && (g.streams.head?.map (·.id)) == some id
    -- the tick of its release, on the raster of its rows (R295, R505)
    let tick := ((c.rasterOf s.rid).map (·.tick)).getD c.tick
    if newest ∨ g.rows.any (fun r => !r.departed && (g.pic? r.serial).any (fun q => q.stream == id)) then c
    else
      let c := if s.end_ then (releasePacket c p id s.cfg 3 0 s.lastPic tick []).1 else c
      let c := c.modProg p (fun g => { g with streams := g.streams.filter (fun t => t.id != id) })
      if (c.prog p).streams.isEmpty then c.set (Reg.PKT_PSTAT_ONAIR p) 0 else c

/-! ### The scorecard (R426, R428) -/

/-- The programme record of a scorecard. -/
def scoreProg (c : Chan) (p : Nat) : ScoreProg :=
  let g := c.prog p
  match g.streams with
  | s :: _ =>
    if !g.on then {}
    else
      let base : ScoreProg := { enabled := true, epoch := s.epoch, sid := s.sid, psi := s.psiVer, params := g.params
                                seq := (s.first + 2 ^ 32 - 1) % 2 ^ 32 }
      match g.departed with
      | some d => { base with
          departed := true, seq := d.seq, depart := d.time, poc := d.poc, frame := d.frame, pos := d.pos
          pics := d.count, bits := d.bits, last := d.last }
      | none => base
  | [] => {}

/-- A layer record. -/
def scoreLayer (c : Chan) (i : Nat) : ScoreLayer :=
  match (c.layers.getD i {}).cur with
  | some s =>
    { addr := s.addr / 64 * 64 + 1, pos := patternOf 16 s.x + patternOf 16 s.y * 2 ^ 16, alpha := s.alpha
      frame := c.get (Reg.CMP_LSTAT_FRAME i) }
  | none => { frame := c.get (Reg.CMP_LSTAT_FRAME i) }

/-- RATIO (R428): device time per crystal cycle of 40 ns in 2⁻³² ns, the mean over the last whole crystal second; before the unit
has counted one, as the present frequency gives it. -/
def timRatio (c : Chan) : Nat :=
  if c.tim.age < 2 * secPeriods then
    (40 * 2 ^ 32 + 40 * 2 ^ 32 * (c.tim.freq + c.tim.extra) / (65536 * 25000000 * 1000000000)).toNat
  else ((c.tim.mark.1 - c.tim.mark.2) / (65536 * secPeriods)).toNat

/-- The scorecard of frame `f` (R428). -/
def scorecard (c : Chan) (f : Nat) : Scorecard :=
  let t0 : Int := match c.sched.raster with
    | some r => r.timeOf (tickOf f 0)
    | none => 0
  { unit := c.num, mode := c.mode, number := c.scored + 1, commit := c.get Reg.SCH_ACTIVE_NUM_NUM, frame := f % 65536
    tick := c.tick, time := c.now
    ratio := timRatio c
    freq := patternOf 32 (c.tim.freq / 25000000), offset := c.tim.offset, t0 := t0
    timState := c.get Reg.TIM_STAT_STATE + c.get Reg.TIM_STAT_SEL * 2 ^ 4
    progs := (List.range 8).map (scoreProg c), layers := (List.range 32).map (scoreLayer c)
    audio := (List.range 8).map (fun i =>
      { mask := c.get (Reg.AUD_MASK_CUR (i / 2) (i % 2)), state := c.get (Reg.AUD_STAT_STATE (i / 2) (i % 2))
        frames := c.get (Reg.AUD_FCOUNT_VALUE (i / 2) (i % 2)), words := c.get (Reg.AUD_WCOUNT_VALUE (i / 2) (i % 2)) }) }

/-- Take the scorecard of frame `f`. -/
def takeScorecard (c : Chan) (f : Nat) : Chan :=
  ({ c with scored := c.scored + 1 } : Chan).emit (.scorecard (scorecard c f))

/-- The LAST packet of a picture of frame `f` has departed: the scorecard follows if no other programme's picture of
that frame is still to depart (R426). None is taken for an old raster. -/
def scoreAfter (c : Chan) (f : Nat) : Chan :=
  let rid := (c.sched.raster.map (·.id))
  let waits := (List.range 8).any (fun p =>
    let g := c.prog p
    g.on && g.pics.any (fun q => q.frame == f && some q.rid == rid && g.isCurrent q &&
      (decide (q.rowsReleased < q.cfg.rows) || g.rows.any (fun r => r.serial == q.serial && !r.departed))))
  if 1 ≤ c.mode ∧ c.mode ≤ 6 ∧ ¬ waits then takeScorecard c f else c

/-! ### A row departs (R286, R297) -/

/-- FUGONLY: every CTU of the picture up to and including row `k` is fugitive (R296). -/
def fugOnly (q : PicSt) (k : Nat) : Bool :=
  let n := (k + 1) * q.cfg.wc
  decide ((q.fug.filter (· < n)).length = n)

/-- PAT and PMT head the first packet of the picture whose row 0 is `r` (R289): it is due 100 ms or more after the last PAT was
sent, or the picture is one of those that always carry them. -/
def wantsPsi (c : Chan) (q : PicSt) (r : RowSt) (s : Stream) : Bool :=
  let late := match s.lastPat with
    | some t => decide (((t + secUnits / 10 : Nat) : Int) ≤ c.timeOfTick r.rid r.due)
    | none => true
  late || q.kind == .start || q.kind == .bench || q.cycleStart

/-- The elementary bytes of a row: items 1 to 4 of the access unit with row 0, its slices, and with the last row filler and
suffix SEI (R236, R265, R286). -/
def rowBytes (q : PicSt) (r : RowSt) : List Byte :=
  (if r.row = 0 then q.head else []) ++ r.body ++
    (if r.row + 1 = q.cfg.rows then fillerNal q.cfg.vvc (q.filler / 8) ++ q.tail else [])

/-- b of a picture whose rows are all packed (R260). -/
def picBits (g : Prog) (q : PicSt) : Nat :=
  8 * q.head.length + q.closedBits + q.filler + 8 * q.tail.length +
    (g.rows.filter (fun r => r.serial == q.serial && r.packed && !r.retired)).foldl (fun s r => s + r.bits) 0

/-- The packets of row `k` depart (R297). -/
def departRow (c : Chan) (p serial k : Nat) : Chan :=
  match (c.prog p).pic? serial, (c.prog p).row? serial k with
  | some q, some r =>
    match (c.prog p).stream? q.stream with
    | none => c
    | some st =>
      let g := q.cfg
      let bs := rowBytes q r
      let ts := g.form = 1
      let psi := ts && k == 0 && wantsPsi c q r st
      let s := rowTs c q k bs psi st
      let now := c.now
      let c := if ts && k == 0 then audioReads c g q.tprev q.t0 else c
      let pays := if ts then chunks (s.pkts.length) (188 * s.cap) s.pkts.flatten else chunks bs.length g.maxPay bs
      let c := c.draw
      let c := if ts then c.modProg p (fun g => g.modStream q.stream (fun st => { st with
          cc := s.cc, discPids := s.disc })) else c
      let c := c.modProg p (fun g => { g.modStream q.stream (fun st => { st with lastVideo := now, rid := r.rid }) with
        params := if k = 0 ∧ ¬ q.sets.isEmpty then q.sets else g.params })
      let n := pays.length
      let lastRow := k + 1 == g.rows
      let x := (List.range n).foldl (fun (x : Chan × Nat) i =>
        let flags := b2n (fugOnly q k) * 0x40 + b2n (lastRow && i + 1 == n) * 0x20 + b2n (k == 0 && i == 0) * 0x10 +
          b2n (i == 0) * 0x08 + b2n r.overrun * 0x04
        let y := releasePacket x.1 p q.stream g (if ts then 2 else 1) flags q.poc r.due (pays.getD i [])
        -- the PAT heads the first packet
        if psi && i == 0 then (y.1.modProg p (fun g => g.modStream q.stream (fun st => { st with lastPat := some y.2 })), y.2)
        else y) (c, 0)
      let c := x.1.modProg p (fun g => g.modRow serial k (fun r => { r with departed := true }))
      let seq := (((c.prog p).stream? q.stream).map (·.seq)).getD 0
      let b := picBits (c.prog p) q
      let c := if lastRow ∧ (c.prog p).isCurrent q then
          let c := c.modProg p (fun g => { g with departed := some {
            poc := q.poc, frame := q.frame, pos := q.pos, count := q.count, last := b
            bits := c.get (Reg.RCT_PBITS_COUNT p) + (if q.closed then 0 else b), seq := (seq + 2 ^ 32 - 1) % 2 ^ 32, time := x.2 } })
          scoreAfter c q.frame
        else c
      streamEnd c p q.stream
  | _, _ => c

/-! ### Events at the packer -/

/-- PCR_ONLY_PACKET (R292): no video packet has been released for 20 ms. -/
def opPcrOnly (p : Nat) (c : Chan) : Chan :=
  let g := c.prog p
  match g.streams with
  | s :: _ =>
    if p < 8 ∧ g.on ∧ g.cfg.form = 1 ∧ s.sent ∧ s.lastVideo + secUnits / 50 ≤ c.now then
      let t : Ts := { cap := 1, video := g.cfg.video, cc := s.cc, disc := s.discPids }
      let t := t.put g.cfg.video false []
      let now := c.now
      let c := c.modProg p (fun g => g.modStream s.id (fun s => { s with discPids := t.disc, lastVideo := now }))
      (releasePacket c p s.id g.cfg 2 0 s.lastPic c.tick t.pkts.flatten).1
    else c
  | [] => c

/-- PATH_UNDERRUN (R300): a path runs dry inside the packet that it is sending, which ends in the abort form; the path goes on
with the next. -/
def opPathUnderrun (x : Nat) (c : Chan) : Chan :=
  let now := c.now
  match (c.paths.getD x {}).queue with
  | [] => c
  | k :: rest =>
    if k.first ≤ now ∧ now < k.last ∧ pathUp c x then
      let gone := k.columnsBy now ++ [[symAbort, symAbort]]
      let c := ((c.bump (Reg.PKT_PATHSTAT_UNDERRUN x)).post 0x0502 .pkt x 0).emit (.out (.abort c.num x k.pkt.seq gone))
      { c.set (Reg.PKT_PATHSTAT_ACTIVE x) (b2n !rest.isEmpty) with
        paths := c.paths.modify x (fun y => { y with queue := rest }) }
    else c

/-- A packet is dropped on the host ring of programme `p` (R311). -/
def pktDropped (p : Nat) (c : Chan) : Chan :=
  (c.bump (Reg.PKT_PDROP_COUNT p)).modProg p (fun g => { g with dropRun := g.dropRun + 1 })

/-- A packet lands on the host ring of programme `p` (R311): a run of drops is reported, at most once per millisecond. -/
def pktLanded (p : Nat) (c : Chan) : Chan :=
  let g := c.prog p
  let quiet := match g.dropTime with
    | some t => decide (t + msUnits ≤ c.now)
    | none => true
  if 0 < g.dropRun then
    if quiet then
      let now := c.now
      (c.modProg p (fun g => { g with dropRun := 0, dropTime := some now })).post 0x0501 .pkt (5 + p) g.dropRun
    else c
  else c

end Sys2Proof.Machine
end

