-- ==== Sys2Proof/Machine/Receiver.lean ====
section
/-! DEFINITION. Taking in streams (11_stream_output.md, "Receiving Ubnen-S"; 12_decoder_and_statistics.md, R320 to R323):
the Ubnen-S receiver, and the gathering of access units from its packets, from byte streams and from transport packets. -/

namespace Sys2Proof.Machine

/-! ### Stops (R326, R327) -/

/-- What LOCATOR names for offset `o` of an access unit. -/
def AccessUnit.locator (u : AccessUnit) (o : Nat) : Nat :=
  ((u.pieces.filter (fun e => e.1 ≤ o)).getLast?.map (·.2)).getD ((u.pieces.head?.map (·.2)).getD 0)

/-- Fill the stop record and post DECODER_STOPPED (R326). -/
def stopRecord (c : Chan) (s : StopCause) (picture locator role prog : Nat) : Chan :=
  let c := c.set (Reg.DEC_STOP_VALUE 0) picture
  let c := c.set (Reg.DEC_STOP_VALUE 1) (s.ctu % 2 ^ 16 + s.cls % 2 ^ 8 * 2 ^ 16 + s.cause % 2 ^ 8 * 2 ^ 24)
  let c := c.set (Reg.DEC_STOP_VALUE 2) s.offset
  let c := c.set (Reg.DEC_STOP_VALUE 3) locator
  let c := c.set (Reg.DEC_STOP_VALUE 4) (role + prog * 2 ^ 4)
  c.post 0x0602 .dec s.cause picture

/-- The role of the decoder in M5 and M6. -/
def decRole (c : Chan) : Nat := if c.mode = 5 then 2 else 3

/-- The decoder runs an external stream (R313). -/
def decActive (c : Chan) : Bool := c.mode == 5 || c.mode == 6

/-- The decoder stops (R326) while it handles access unit `u`. -/
def decStop (c : Chan) (s : StopCause) (u : AccessUnit) : Chan :=
  let o := if s.cls = 7 then u.bytes.length else s.offset
  let c := (c.set Reg.DEC_STAT_STATE 2)
  let c : Chan := { c with dec := { c.dec with leadMet := false } }
  stopRecord c { s with offset := o } (c.dec.pictures + 1) (u.locator o) (decRole c) 0

/-! ### The input buffer (R323) -/

/-- Bytes of the input buffer (R314). -/
def decSpace (c : Chan) : Nat := c.get Reg.DEC_DPBCFG_INSIZE * 2 ^ 20

/-- The pieces of HBM, address and count, that hold `n` bytes of the input buffer from place `i`: two where they run over its
end. -/
def decPlaces (c : Chan) (i n : Nat) : List (Nat × Nat) :=
  let base := c.get Reg.DEC_INBUF_ADDR * 4096
  let m := min n (decSpace c - i)
  [(base + i, m), (base, n - m)]

/-- Bytes held in the input buffer. -/
def decHeld (c : Chan) : Nat :=
  c.dec.units.foldl (fun s u => s + u.bytes.length) ((c.dec.open_.map (·.bytes.length)).getD 0)

/-- Bytes that the input buffer can still take. -/
def decRoom (c : Chan) : Nat := decSpace c - decHeld c

/-- The whole access unit in hand joins those that wait. -/
def decCloseUnit (c : Chan) : Chan :=
  match c.dec.open_ with
  | some u => { c with dec := { c.dec with units := c.dec.units ++ [u], open_ := none } }
  | none => c

/-- Bytes of the access unit in hand were lost (R327, INPUT_GAP), or bytes before the next one. -/
def decGap (c : Chan) : Chan :=
  match c.dec.open_ with
  | some u => { c with dec := { c.dec with open_ := some { u with gap := some (u.gap.getD u.bytes.length) } } }
  | none => { c with dec := { c.dec with lost := true } }

/-- The decoder leaves IDLE, in which the end of a stream put it, at new input (R321). -/
def decWake (c : Chan) : Chan :=
  match c.dec.ended with
  | some st =>
    let c := if c.get Reg.DEC_STAT_STATE = 0 then c.set Reg.DEC_STAT_STATE st else c
    { c with dec := { c.dec with ended := none } }
  | none => c

/-- Bytes of an access unit come in and go into the input buffer; `loc` is what a stop would name for them. Lane input that
finds the buffer full is lost and stops the decoder with OVERLOAD. -/
def decBytes (c : Chan) (bs : List Byte) (loc : Nat) (lane : Bool) : Chan :=
  if !decActive c then c
  else
    let c := decWake c
    if lane ∧ decRoom c < bs.length then
      let c := if c.get Reg.DEC_STAT_STATE = 2 then c
        else (decStop c ⟨0x0D, 7, (ofBytesLE (c.freeBytes 2)), 0⟩ (c.dec.open_.getD {})).draw
      decGap c
    else
      let u := c.dec.open_.getD { start := c.dec.fill, gap := if c.dec.lost then some 0 else none }
      let c := ((decPlaces c c.dec.fill bs.length).foldl
        (fun (e : Chan × List Byte) k => (memWrite e.1 k.1 5 (e.2.take k.2), e.2.drop k.2)) (c, bs)).1
      let u := { u with bytes := u.bytes ++ bs, pieces := u.pieces ++ [(u.bytes.length, loc)] }
      { c with dec := { c.dec with
          open_ := some u, lost := false, fill := (c.dec.fill + bs.length) % max 1 (decSpace c) } }

/-- A discontinuity (R322): an access unit partly received is discarded and counted; delivery waits for LEAD again. -/
def decDiscontinuity (c : Chan) : Chan :=
  if !decActive c then c
  else
    let c := if c.dec.open_.isSome then c.bump Reg.DEC_STAT_PARTIAL else c
    { c with dec := { c.dec with open_ := none, lost := false, leadMet := false, lastCc := none } }

/-- The stream has ended (R321): the decoder idles once what is in hand is decoded. -/
def decEnd (c : Chan) : Chan :=
  let c := decCloseUnit c
  let st := c.get Reg.DEC_STAT_STATE
  if c.dec.ended.isSome ∨ st = 2 then c
  else
    let c : Chan := { c with dec := { c.dec with ended := some st } }
    if c.dec.units.isEmpty then c.set Reg.DEC_STAT_STATE 0 else c

/-! ### Transport packets (R320, INFORM 1 and TYPE 2) -/

/-- Payload of a transport packet. -/
def tsPayload (k : List Byte) : List Byte :=
  let afc := (k.getD 3 0#8).toNat / 16 % 4
  if afc % 2 = 0 then []
  else if afc = 3 then k.drop (5 + (k.getD 4 0#8).toNat)
  else k.drop 4

/-- discontinuity_indicator of a transport packet. -/
def tsDisc (k : List Byte) : Bool :=
  decide (2 ≤ (k.getD 3 0#8).toNat / 16 % 4) && decide (1 ≤ (k.getD 4 0#8).toNat) && bitAt (k.getD 5 0#8).toNat 7

/-- Whole sections at the head of a run of bytes, and what is left; `n` bounds them. Stuffing ends them. -/
def sectionsOf : Nat → List Byte → List (List Byte) × List Byte
  | 0, s => ([], s)
  | n + 1, s =>
    let len := 3 + ofBytesBE ((s.drop 1).take 2) % 2 ^ 12
    if s.length < 3 ∨ s.headD 0#8 = 0xFF#8 ∨ s.length < len then ([], s)
    else
      let (l, r) := sectionsOf n (s.drop len)
      (s.take len :: l, r)

/-- A packet's payload joins the section that its PID gathers: the sections now whole, and the part that waits. A packet that
begins a section holds the end of the one before ahead of its pointer. -/
def gather (part : Option (List Byte)) (start : Bool) (pay : List Byte) : List (List Byte) × Option (List Byte) :=
  if start then
    let p := (pay.headD 0#8).toNat
    let old := match part with
      | some s => (sectionsOf 64 (s ++ (pay.drop 1).take p)).1
      | none => []
    let (l, r) := sectionsOf 64 (pay.drop (1 + p))
    (old ++ l, some r)
  else match part with
    | some s => let (l, r) := sectionsOf 64 (s ++ pay); (l, some r)
    | none => ([], none)

/-- A section in force of a table, with a CRC that checks. -/
def sectionOk (table : Nat) (s : List Byte) : Bool :=
  decide ((s.headD 0#8).toNat = table) && bitAt (s.getD 5 0#8).toNat 0 && decide (12 ≤ s.length) &&
    decide (crc32Mpeg (s.take (s.length - 4)) = ofBytesBE (s.drop (s.length - 4)))

/-- The PMT PID of the first programme of a PAT section; `n` bounds its entries. Programme number 0 names no programme. -/
def patFirst : Nat → List Byte → Option Nat
  | 0, _ => none
  | n + 1, s =>
    if s.length < 4 then none
    else if ofBytesBE (s.take 2) ≠ 0 then some (ofBytesBE ((s.drop 2).take 2) % 2 ^ 13)
    else patFirst n (s.drop 4)
def patPmt (s : List Byte) : Option Nat := patFirst 256 ((s.take (s.length - 4)).drop 8)

/-- Search of the PMT's entries; `n` bounds them. -/
def pmtVideo : Nat → List Byte → Option Nat
  | 0, _ => none
  | n + 1, s =>
    match s with
    | [] => none
    | t :: _ =>
      if t = 0x24#8 ∨ t = 0x33#8 then some (ofBytesBE ((s.drop 1).take 2) % 2 ^ 13)
      else pmtVideo n (s.drop (5 + ofBytesBE ((s.drop 3).take 2) % 2 ^ 12))

/-- The first entry of stream_type 0x24 or 0x33 in a PMT section. -/
def pmtVideoPid (s : List Byte) : Option Nat :=
  let info := ofBytesBE ((s.drop 10).take 2) % 2 ^ 12
  pmtVideo 256 ((s.take (s.length - 4)).drop (12 + info))

/-- The video PID in use: VPID, or the first of the PMT when VPID is 0x1FFF. -/
def decVideoPid (c : Chan) : Option Nat :=
  if c.get Reg.DEC_CFG_VPID = 0x1FFF then c.dec.videoPid else some (c.get Reg.DEC_CFG_VPID)

/-- A packet of the PAT or of the PMT. -/
def decPat (c : Chan) (start : Bool) (pay : List Byte) : Chan :=
  let (l, r) := gather c.dec.patPart start pay
  let pid := ((l.filter (sectionOk 0)).filterMap patPmt).head?
  let c : Chan := { c with dec := { c.dec with patPart := r } }
  if pid.isNone ∨ pid = c.dec.pmtPid then c
  else { c with dec := { c.dec with pmtPid := pid, pmtPart := none, videoPid := none } }
def decPmt (c : Chan) (start : Bool) (pay : List Byte) : Chan :=
  let (l, r) := gather c.dec.pmtPart start pay
  let c : Chan := { c with dec := { c.dec with pmtPart := r } }
  match (l.filter (sectionOk 2)).getLast? with
  | some s => { c with dec := { c.dec with videoPid := pmtVideoPid s } }
  | none => c

/-- One transport packet. discontinuity_indicator of any packet is a discontinuity (R322). A PES start on the video PID ends the
access unit before and begins one. A packet that repeats the continuity counter is a duplicate. -/
def decTsPacket (c : Chan) (k : List Byte) (loc : Nat) (lane : Bool) : Chan :=
  let pid := ofBytesBE ((k.drop 1).take 2) % 2 ^ 13
  let start := bitAt (k.getD 1 0#8).toNat 6
  let cc := (k.getD 3 0#8).toNat % 16
  let pay := tsPayload k
  let disc := tsDisc k
  let c := if disc then decDiscontinuity c else c
  if pid = 0 then decPat c start pay
  else if c.dec.pmtPid = some pid then decPmt c start pay
  else if decVideoPid c = some pid ∧ ¬ pay.isEmpty ∧ (disc ∨ c.dec.lastCc ≠ some cc) then
    let jump : Bool := match c.dec.lastCc with
      | some n => !disc && cc != (n + 1) % 16
      | none => false
    let c := if jump then decGap c else c
    let c : Chan := { c with dec := { c.dec with lastCc := some cc } }
    let c := if start then decCloseUnit c else c
    let es := if start then pay.drop (9 + (pay.getD 8 0#8).toNat) else pay
    let c : Chan := if start then { c with dec := { c.dec with lost := false } } else c
    if start ∨ c.dec.open_.isSome then decBytes c es loc lane else c
  else c

/-- Whole transport packets; `n` bounds them. -/
def decTs : Nat → Chan → List Byte → Nat → Bool → Chan
  | 0, c, _, _, _ => c
  | n + 1, c, bs, loc, lane =>
    if bs.length < 188 then c
    else decTs n (decTsPacket c (bs.take 188) loc lane) (bs.drop 188) loc lane

/-! ### The Ubnen-S receiver (R305 to R308) -/

/-- The packet of received bytes, if it passes R305. -/
def parsePacket (bs : List Byte) : Option Packet :=
  let b0 := (bs.getD 0 0#8).toNat
  let fld (a n : Nat) : Nat := ofBytesBE ((bs.drop a).take n)
  let len := fld 0x14 2
  let n := bs.length
  if n < 36 ∨ fld (n - 4) 4 ≠ crc32 (bs.take (n - 4)) ∨ b0 / 16 ≠ 1 ∨ b0 % 16 = 0 ∨ 3 < b0 % 16 ∨
      n ≠ 36 + len ∨ 8192 < len then none
  else some {
    typ := b0 % 16, flags := fld 1 1, sid := fld 2 2, seq := fld 4 4, time := timeOf96 (fld 8 12), epoch := fld 0x16 1
    picture := fld 0x18 4, due := fld 0x1C 4, payload := (bs.drop 32).take len }

/-- An accepted packet reaches the decoder. -/
def rxConsume (c : Chan) (k : Packet) (loc : Nat) (lane : Bool) : Chan :=
  if k.typ = 3 then decEnd c
  else
    -- the first packet of a picture: what was lost before it belonged to another (R296)
    let c : Chan := if bitAt k.flags 4 then { decCloseUnit c with dec := { (decCloseUnit c).dec with lost := false } } else c
    let c := if k.typ = 1 then decBytes c k.payload loc lane
      else decTs (k.payload.length / 188) c k.payload loc lane
    if bitAt k.flags 5 then decCloseUnit c else c

/-- Deliver what follows in SEQ order; `n` bounds the packets. -/
def rxDeliver : Nat → Chan → Bool → Chan
  | 0, c, _ => c
  | n + 1, c, lane =>
    match c.rx.waiting.find? (fun k => k.1.seq == c.rx.nextSeq) with
    | none => c
    | some (k, loc) =>
      let c : Chan := { c with rx := { c.rx with
        waiting := c.rx.waiting.filter (fun j => j.1.seq != k.seq), nextSeq := (k.seq + 1) % 2 ^ 32 } }
      rxDeliver n (rxConsume c k loc lane) lane

/-- Deliver past the first run of missing numbers, counting them lost (R307). -/
def rxSkip (c : Chan) (lane : Bool) : Chan :=
  match c.rx.missing with
  | [] => c
  | (lo, n, _) :: rest =>
    let c : Chan := { c with rx := { c.rx with missing := rest, nextSeq := (lo + n) % 2 ^ 32, lost := c.rx.lost + n } }
    rxDeliver (c.rx.waiting.length) (decGap c) lane

/-- Deliver everything of an epoch before the next begins; `n` bounds the runs of missing numbers. -/
def rxFlush : Nat → Chan → Bool → Chan
  | 0, c, _ => c
  | n + 1, c, lane => if c.rx.missing.isEmpty then c else rxFlush n (rxSkip c lane) lane

/-- A missing number has arrived: it leaves its run. -/
def rxFill (l : List (Nat × Nat × Nat)) (seq : Nat) : List (Nat × Nat × Nat) :=
  l.flatMap (fun (lo, n, t) =>
    let i := (seq + 2 ^ 32 - lo) % 2 ^ 32
    if i < n then
      (if i = 0 then [] else [(lo, i, t)]) ++ (if i + 1 = n then [] else [((seq + 1) % 2 ^ 32, n - i - 1, t)])
    else [(lo, n, t)])

/-- restart (R306), then the signal of R308. -/
def rxRestart (c : Chan) (k : Packet) (loc : Nat) (lane : Bool) : Chan :=
  let c := rxFlush c.rx.missing.length c lane
  let now := c.now
  let c : Chan := { c with rx := { c.rx with
    known := true, epoch := k.epoch, high := k.seq, seen := [k.seq], heard := now, waiting := []
    missing := [], nextSeq := (k.seq + 1) % 2 ^ 32 } }
  rxConsume (decDiscontinuity c) k loc lane

/-- A packet that passes R305 and whose STREAM_ID is SID (R306, R321). -/
def rxPacket (c : Chan) (k : Packet) (loc : Nat) (lane : Bool) : Chan :=
  let st := c.rx
  let now := c.now
  let known := st.known && decide (now ≤ st.heard + 2 * secUnits)
  let de := (k.epoch + 256 - st.epoch) % 256
  let d := signedOf 32 ((k.seq + 2 ^ 32 - st.high) % 2 ^ 32)
  if !known then rxRestart c k loc lane
  else if 128 ≤ de then c
  else if de ≠ 0 then rxRestart c k loc lane
  else if 0 < d then
    let gap := d.toNat - 1
    let seen := (k.seq :: st.seen).filter (fun s => decide ((k.seq + 2 ^ 32 - s) % 2 ^ 32 < 4096))
    let c : Chan := { c with rx := { st with
      high := k.seq, seen := seen, heard := now, waiting := st.waiting ++ [(k, loc)]
      missing := if gap = 0 then st.missing else st.missing ++ [((st.high + 1) % 2 ^ 32, gap, now)] } }
    rxDeliver (c.rx.waiting.length) c lane
  else if -4096 < d then
    if st.seen.contains k.seq then c
    else
      let waits := st.missing.any (fun (lo, n, _) => decide ((k.seq + 2 ^ 32 - lo) % 2 ^ 32 < n))
      let c : Chan := { c with rx := { st with
        seen := k.seq :: st.seen, heard := now, missing := rxFill st.missing k.seq
        waiting := if waits then st.waiting ++ [(k, loc)] else st.waiting } }
      rxDeliver (c.rx.waiting.length) c lane
  else c

/-- The receiver takes in one Ubnen-S packet (R321). -/
def rxTake (c : Chan) (bs : List Byte) (loc : Nat) (lane : Bool) : Chan :=
  match parsePacket bs with
  | none => c
  | some k =>
    if k.sid ≠ c.get Reg.DEC_LANES_SID then c.bump Reg.DEC_STAT_FOREIGN
    else rxPacket c k loc lane

/-- The bytes of an Ubnen-S packet that lanes carried (R369, R370): undamaged, not cut off, 36 + LENGTH bytes and the zero pad. -/
def laneBytes (b : RxBody) : Option (List Byte) :=
  let n := 36 + ofBytesBE ((b.bytes.drop 0x14).take 2)
  if b.head ∨ b.rest ∨ b.cut ∨ b.bytes.length ≠ n + n % 2 ∨ (b.bytes.drop n).any (· != 0#8) then none
  else some (b.bytes.take n)

/-- UBNEN_S_RECEIVE (R306): a packet arrives on the lane group that is one of the receiver's paths. -/
def opUbnenS (k : ColumnRun) (c : Chan) : Chan :=
  let b := (runBody c k).bind laneBytes
  let c := countViolations k c
  match b with
  | some bs =>
    if decActive c ∧ c.flag Reg.DEC_CFG_INPATH ∧ k.group < 4 ∧ groupUp c k.group ∧
        (c.get Reg.DEC_LANES_GROUPA = k.group ∨ c.get Reg.DEC_LANES_GROUPB = k.group) then
      rxTake c bs (ofBytesBE ((bs.drop 4).take 4)) true
    else c
  | none => c

/-- Deliver past the runs of missing numbers whose hold time has ended; `n` bounds them. -/
def rxExpire : Nat → Chan → Bool → Chan
  | 0, c, _ => c
  | n + 1, c, lane =>
    match c.rx.missing with
    | (_, _, t) :: _ =>
      if t + c.get Reg.DEC_HOLD * 65536000 ≤ c.now then rxExpire n (rxSkip c lane) lane else c
    | [] => c

/-- HOLD_EXPIRY (R307): the numbers whose hold time, DEC_HOLD µs, has ended are delivered past. -/
def opHoldExpiry (c : Chan) : Chan :=
  if decActive c then rxExpire c.rx.missing.length c (c.flag Reg.DEC_CFG_INPATH) else c

/-- The bytes of a ring-4 descriptor come in (R320): `last` and `disc` are bits 0 and 1 of its PARAM, `rseq` its number. -/
def decRing (bs : List Byte) (last disc : Bool) (rseq : Nat) (c : Chan) : Chan :=
  if decActive c ∧ ¬ c.flag Reg.DEC_CFG_INPATH then
    let c := if disc then decDiscontinuity c else c
    let f := c.get Reg.DEC_CFG_INFORM
    if f = 0 then
      let c := decBytes c bs rseq false
      if last then decCloseUnit c else c
    else if f = 1 then decTs (bs.length / 188) c bs rseq false
    else rxTake c bs rseq false
  else c

end Sys2Proof.Machine
end

