-- ==== Sys2Proof/Machine/Decoder.lean ====
section
/-! DEFINITION. The decoder (12_decoder_and_statistics.md): verification (R315 to R318, R330), decoding of external streams
(R319, R324 to R329), and the statistics exporter (R331 to R335). -/

namespace Sys2Proof.Machine

/-! ### Statistics records (R331 to R335) -/

/-- Record n bytes of a number from a list of measurements, saturating. -/
def measLE (n : Nat) (l : List Nat) (i : Nat) : List Byte := bytesLE n (min (l.getD i 0) (2 ^ (8 * n) - 1))

/-- A prediction unit is coded intra, or from a merge candidate. -/
def PredUnit.isIntra (p : PredUnit) : Bool := match p.pred with
  | .intra _ _ => true
  | .inter _ _ _ _ => false
def PredUnit.isMerge (p : PredUnit) : Bool := match p.pred with
  | .inter _ _ _ (some _) => true
  | _ => false

/-- AREA of a CTU (R332): its 4×4 luma blocks coded as intra, skip, merge without skip, other inter. -/
def areaOf (cus : List CodingUnit) : List Nat :=
  let sum (f : CodingUnit → PredUnit → Bool) : Nat :=
    cus.foldl (fun s u => u.units.foldl (fun s p => if f u p then s + p.w * p.h / 16 else s) s) 0
  [sum (fun _ p => PredUnit.isIntra p), sum (fun u p => u.skip && !PredUnit.isIntra p),
    sum (fun u p => !u.skip && PredUnit.isMerge p),
    sum (fun u p => !u.skip && !PredUnit.isIntra p && !PredUnit.isMerge p)]

/-- A CTU record of a programme (R332). -/
def ctuRecord (q : PicSt) (k : CtuRec) : List Byte :=
  let st := b2n k.fug + b2n k.band * 2 + b2n k.refreshed * 4 + b2n k.capped * 8 + b2n k.held * 16 + b2n k.emerg * 32 +
    b2n k.memErr * 64
  let area := areaOf k.cus
  bytesLE 4 q.count ++ bytesLE 2 k.addr ++ bytesLE 1 st ++ bytesLE 1 (k.rung % 8 + k.form % 4 * 16) ++ bytesLE 4 k.tally ++
    bytesLE 1 (patternOf 8 k.qp) ++ [0#8] ++ bytesLE 2 (min k.cus.length 65535) ++ measLE 2 area 0 ++ measLE 2 area 1 ++
    measLE 2 area 2 ++ measLE 2 area 3 ++ measLE 4 k.meas 0 ++ measLE 4 k.meas 1 ++ measLE 8 k.meas 2 ++
    measLE 8 k.meas 3 ++ bytesLE 4 k.start ++ bytesLE 1 k.engine ++ bytesLE 1 k.tile ++ bytesLE 2 k.row ++
    List.replicate 8 0#8

/-- The block of a coded CTU whose top-left luma sample is at (x, y) of it (R334). MERGE is set of a skipped unit too. -/
def blockOf (cus : List CodingUnit) (x y : Nat) : MvBlock :=
  let covers (px py w h : Nat) : Bool := decide (px ≤ x) && decide (x < px + w) && decide (py ≤ y) && decide (y < py + h)
  match cus.find? (fun u => covers u.x u.y u.w u.h) with
  | none => {}
  | some u =>
    match u.units.find? (fun p => covers p.x p.y p.w p.h) with
    | none => {}
    | some p =>
      match p.pred with
      | .intra _ _ => { intra := true }
      | .inter ref mvx mvy m => { skip := u.skip, merge := m.isSome, ref := ref, mvx := mvx, mvy := mvy }

/-- The first six bytes of a motion-vector entry (R334). -/
def entryBytes (b : MvBlock) (fug : Bool) : List Byte :=
  let mv (v : Int) : List Byte := bytesLE 2 (patternOf 16 (max (-32768) (min 32767 v)))
  let kind := b2n b.intra + b2n b.skip * 2 + b2n b.merge * 4 + b2n b.bi * 8 + b2n fug * 16
  (if b.intra then bytesLE 5 0 else mv b.mvx ++ mv b.mvy ++ bytesLE 1 (b.ref % 16 + b2n b.l1 * 16)) ++ bytesLE 1 kind

/-- The motion-vector entries of a row (R334). SAD16 is a free value: the samples of a prediction are not stated. -/
def mvEntries (c : Chan) (q : PicSt) (r : RowSt) : List Byte :=
  let g := q.cfg
  let bw := ceilDiv g.w 16
  (List.range (bw * ceilDiv (g.ctuH r.row) 16)).flatMap (fun i =>
    let x := i % bw * 16
    let y := i / bw * 16
    let sad (b : MvBlock) : List Byte := if b.intra then [0#8, 0#8] else (c.freeBytes (2 * i + 2)).drop (2 * i)
    match r.ctus.find? (fun k => k.addr == r.row * g.wc + x / g.h) with
    | some k => let b := blockOf k.cus (x % g.h) y; entryBytes b k.fug ++ sad b
    | none => entryBytes {} false ++ sad {})

/-- The exporter writes row `k` of a picture (R331): CTU records to ring 13 + 2p, entries to ring 14 + 2p. -/
def statsRow (c : Chan) (p serial k : Nat) : Chan :=
  match (c.prog p).pic? serial, (c.prog p).row? serial k with
  | some q, some r =>
    if r.statsDone then c
    else
      let c := if bitAt (c.get Reg.DEC_SCFG_STATS) p then
          c.emit (.record (13 + 2 * p) ((r.ctus.map (ctuRecord q)).flatten))
        else c
      let c := if bitAt (c.get Reg.DEC_SCFG_MVF) p then c.draw.emit (.record (14 + 2 * p) (mvEntries c q r)) else c
      c.modProg p (fun g => g.modRow serial k (fun r => { r with statsDone := true }))
  | _, _ => c

/-- A statistics row finds no descriptor (R335): `n` records or entries are dropped with it. -/
def statDropped (p : Nat) (mv : Bool) (n : Nat) (c : Chan) : Chan :=
  let c := c.bump (if mv then Reg.DEC_SDROP_MVF p else Reg.DEC_SDROP_STATS p)
  c.modProg p (fun g => if mv then { g with mvRun := g.mvRun + n } else { g with statRun := g.statRun + n })

/-- A statistics row lands (R335): a run of drops is reported, at most once per millisecond. -/
def statLanded (p : Nat) (mv : Bool) (c : Chan) : Chan :=
  let g := c.prog p
  let run := if mv then g.mvRun else g.statRun
  let quiet : Bool := match if mv then g.mvTime else g.statTime with
    | some t => decide (t + msUnits ≤ c.now)
    | none => true
  if 0 < run ∧ quiet then
    let now := c.now
    (c.modProg p (fun g => if mv then { g with mvRun := 0, mvTime := some now }
      else { g with statRun := 0, statTime := some now })).post 0x0603 .dec (if mv then 14 + 2 * p else 13 + 2 * p) run
  else c

/-! ### Verification (R315 to R318, R330) -/

/-- The encoder's map of fugitive CTUs of a picture: those coded so, and those that an uncorrectable read has marked since. -/
def fugMap (g : Prog) (q : PicSt) : List Nat :=
  match g.refs.find? (fun r => r.serial == q.serial) with
  | some r => r.fug ++ r.marked
  | none => q.fug

/-- CTUs of row `k` that the decoder compares (R316): neither fugitive in the encoder's map nor beside a fugitive one. -/
def comparedCtus (g : Prog) (q : PicSt) (k : Nat) : List Nat :=
  let wc := q.cfg.wc
  let fug := fugMap g q
  ((List.range wc).filter (fun x =>
    (List.range 9).all (fun i =>
      let u := x + i % 3
      let v := k + i / 3
      u == 0 || v == 0 || wc < u || !fug.contains ((v - 1) * wc + (u - 1))))).map (fun x => k * wc + x)

/-- The decoder's reconstruction of row `k` is final: it goes into the verification buffer of the picture (R314). It is the
encoder's, but where `differ` (raster CTU address, byte of its area, value) says otherwise. -/
def verifyStore (c : Chan) (p : Nat) (q : PicSt) (k : Nat) (differ : List (Nat × Nat × Byte)) : Chan :=
  let g := q.cfg
  forN g.wc (fun x c =>
    let a := k * g.wc + x
    let mine := differ.filter (fun d => d.1 == a)
    let n := g.ctuW x * 6
    forN (g.ctuH k) (fun i c =>
      let at_ (base : Nat) : Nat := pixelAddr g base (x * g.h) (k * g.h + i)
      let line := c.load (at_ (reconBase c p g q.buffer)) n
      let line := (mine.filter (fun d => d.2.1 / n == i)).foldl (fun l d => l.set (d.2.1 % n) d.2.2) line
      memWrite c (at_ (verifyBase c p g q.buffer)) 5 line) c) c

/-- The checksums of the CTUs of row `k` are compared (R315, R316, R318): CTUs compared and CTUs that failed are counted, the
first of a picture posts VERIFY_MISMATCH. -/
def verifyCompare (c : Chan) (p serial : Nat) (q : PicSt) (k : Nat) : Chan :=
  let cmp := comparedCtus (c.prog p) q k
  let bad := cmp.filter (fun a =>
    ctuCheck c q.cfg (reconBase c p q.cfg q.buffer) a != ctuCheck c q.cfg (verifyBase c p q.cfg q.buffer) a)
  let c := (c.bump (Reg.DEC_VCMP_COUNT p) cmp.length).bump (Reg.DEC_VMIS_COUNT p) bad.length
  match bad with
  | [] => c
  | a :: _ =>
    if ((c.prog p).pic? serial).any (·.mismatched) then c
    else (c.modProg p (fun g => g.modPic serial (fun q => { q with mismatched := true }))).post 0x0601 .dec q.count a

/-- The VERIFY task of row `k` completes. In-loop filters make the row above final, and row k too if it is the last: those are
compared. `stop`: a stop of the verification, after which nothing of the picture is reported. -/
def verifyRow (c : Chan) (p serial k : Nat) (r : TaskResult) : Chan :=
  match (c.prog p).pic? serial with
  | none => c
  | some q =>
    let waits := (c.prog p).verifyWait
    let wake := waits && k == 0 && (q.cycleStart || q.cfg.mode == 4)
    let c := if wake then c.modProg p (fun g => { g with verifyWait := false }) else c
    if (waits && !wake) || q.noVerify then c
    else match r.stop with
      | some s =>
        let c := c.modProg p (fun g => { g.modPic serial (fun q => { q with noVerify := true }) with verifyWait := true })
        stopRecord c s q.count 0 1 p
      | none =>
        let rows := (if 0 < k then [k - 1] else []) ++ (if k + 1 = q.cfg.rows then [k] else [])
        rows.foldl (fun c j => verifyCompare (verifyStore c p q j r.differ) p serial q j) c

/-! ### What an access unit holds (R319, R326 to R329) -/

/-- What the NAL units of an access unit tell, up to the first stop: parameter sets, the parameter set of its picture, what kind
of picture it is, recovery_poc_cnt of a recovery point message, and the picture hash message (NAL unit, bytes left, payload). -/
structure Scan where
  seqs : List SeqSet := []
  pics : List PicSet := []
  stop : Option StopCause := none
  pps : Option PicSet := none
  slice : Bool := false
  irap : Bool := false
  idr : Bool := false
  rasl : Bool := false
  gdr : Bool := false
  recovery : Option Int := none
  hash : Option (Nal × Nat × List Byte) := none
  deriving DecidableEq, Repr

/-- A coded size that R319 does not admit, with the place of the element: the size a standard forbids, or one beyond MAXW × MAXH
or 8,192 × 4,320. -/
def sizeStop (maxW maxH : Nat) (n : Nal) (s : CodedSize) (wide high : Nat) : Option StopCause :=
  if s.w = 0 then some ⟨0x01, 2, 0xFFFF, n.offset wide⟩
  else if min maxW 8192 < s.w then some ⟨0x02, 2, 0xFFFF, n.offset wide⟩
  else if s.h = 0 then some ⟨0x01, 2, 0xFFFF, n.offset high⟩
  else if min maxH 4320 < s.h then some ⟨0x02, 2, 0xFFFF, n.offset high⟩
  else none

/-- Parsing passes the end of a NAL unit. -/
def pastEnd (n : Nal) (cls : Nat) : StopCause := ⟨0x01, cls, 0xFFFF, n.pos + n.bytes.length - 1⟩

/-- A sequence parameter set is received. -/
def scanSps (vvc : Bool) (maxW maxH : Nat) (n : Nal) (s : Scan) : Scan :=
  match if vvc then readVvcSps n.bits else readHevcSps n.bits with
  | none => { s with stop := some (pastEnd n 2) }
  | some r =>
    match sizeStop maxW maxH n r.val.size r.wide r.high with
    | some e => { s with stop := some e }
    | none => { s with seqs := r.val :: s.seqs.filter (fun e => e.id != r.val.id) }

/-- A picture parameter set is received. -/
def scanPps (vvc : Bool) (maxW maxH : Nat) (n : Nal) (s : Scan) : Scan :=
  match readPps vvc n.bits with
  | none => { s with stop := some (pastEnd n 2) }
  | some r =>
    match r.val.size.bind (fun z => sizeStop maxW maxH n z r.wide r.high) with
    | some e => { s with stop := some e }
    | none => { s with pics := r.val :: s.pics.filter (fun e => e.id != r.val.id) }

/-- A picture header or slice header names the picture parameter set whose number begins the bits `bits`. -/
def scanPicture (n : Nal) (cls : Nat) (bits : Option (List Bool)) (s : Scan) : Scan :=
  match bits.bind (fun b => (readUe b).map (fun e => (b.length, e.1))) with
  | none => { s with stop := some (pastEnd n cls) }
  | some (rest, id) =>
    match s.pics.find? (fun e => e.id == id) with
    | some p =>
      if s.seqs.any (fun e => e.id == p.seq) then { s with pps := some p }
      else { s with stop := some ⟨0x03, cls, 0xFFFF, n.offset rest⟩ }
    | none => { s with stop := some ⟨0x03, cls, 0xFFFF, n.offset rest⟩ }

/-- One NAL unit: those of other layers are discarded, and SEI other than the picture hash and the recovery point does
nothing (R319). -/
def scanNal (vvc : Bool) (maxW maxH : Nat) (s : Scan) (n : Nal) : Scan :=
  let t := n.type vvc
  if s.stop.isSome then s
  else if n.bytes.length < 2 then { s with stop := some ⟨0x01, 1, 0xFFFF, n.pos⟩ }
  else if n.forbidden then { s with stop := some ⟨0x01, 1, 0xFFFF, n.pos⟩ }
  else if n.layer vvc ≠ 0 then s
  else if n.tid = 0 then { s with stop := some ⟨0x01, 1, 0xFFFF, n.pos + 1⟩ }
  else if t = (if vvc then 15 else 33) then scanSps vvc maxW maxH n s
  else if t = (if vvc then 16 else 34) then scanPps vvc maxW maxH n s
  else if t = (if vvc then 23 else 39) then
    { s with recovery := (((seiOf n.bytes.length n.rbsp).find? (fun e => !vvc && e.1 == 6)).map
        (fun e => recoveryOf e.2.1)) <|> s.recovery }
  else if t = (if vvc then 24 else 40) then
    { s with hash := (((seiOf n.bytes.length n.rbsp).find? (fun e => e.1 == 132)).map (fun e => (n, e.2.2, e.2.1))) <|> s.hash }
  else
    let s := if isSlice vvc t then { s with
        slice := true, irap := isIrap vvc t, idr := isIdr vvc t, rasl := isRasl vvc t, gdr := isGdr vvc t } else s
    match ppsRef vvc t n.bits with
    | some b => scanPicture n (if vvc then 4 else 5) b s
    | none => s

/-- The NAL units of an access unit. -/
def scanUnit (c : Chan) (vvc : Bool) (u : AccessUnit) : Scan :=
  (nalsOf u.bytes).foldl (scanNal vvc (c.get Reg.DEC_MAXSIZE_MAXW) (c.get Reg.DEC_MAXSIZE_MAXH))
    { seqs := c.dec.seqs, pics := c.dec.pics }

/-- A resume point (R328): an IRAP picture, in HEVC a picture with a recovery point SEI message, in VVC a GDR picture. -/
def Scan.resume (s : Scan) : Bool := s.slice && (s.irap || s.gdr || s.recovery.isSome)

/-- Coded size and chroma_format_idc of the picture. A picture of the sequence's own size has the sequence's window. -/
def Scan.size (s : Scan) : CodedSize × Nat :=
  let own (p : PicSet) (q : SeqSet) : CodedSize := match p.size with
    | some z => if z.w = q.size.w ∧ z.h = q.size.h then q.size else z
    | none => q.size
  match s.pps.bind (fun p => (s.seqs.find? (fun e => e.id == p.seq)).map (fun q => (own p q, q.chroma))) with
  | some z => z
  | none => (⟨0, 0, 0, 0, 0, 0⟩, 1)

/-- The stop that lies first in the access unit. -/
def firstStop (l : List (Option StopCause)) : Option StopCause :=
  l.foldl (fun a b => match a, b with
    | some x, some y => if y.offset < x.offset then some y else some x
    | none, y => y
    | x, none => x) none

/-! ### The decoded picture buffer (R314, R319, R324, R325) -/

/-- Luma columns and lines that one chroma sample covers, by chroma_format_idc. -/
def idcW (idc : Nat) : Nat := if idc = 1 ∨ idc = 2 then 2 else 1
def idcH (idc : Nat) : Nat := if idc = 1 then 2 else 1

/-- Bytes of a DPB buffer (R314), and the address of a picture's buffer, whose lines lie one after another. -/
def dpbBytes (c : Chan) : Nat := c.get Reg.DEC_MAXSIZE_MAXW * c.get Reg.DEC_MAXSIZE_MAXH * 13 / 2
def dpbBase (c : Chan) (b : Nat) : Nat := c.get Reg.DEC_DPB_ADDR * 4096 + b * dpbBytes c

/-- Line `y` of a decoded picture as pixel words (R219): free samples, MSB-aligned, chroma at the subsampled positions. -/
def decodedLine (c : Chan) (w idc depth y : Nat) : List Byte :=
  (List.range w).flatMap (fun x =>
    let v := ofBytesLE ((c.freeBytes (6 * x + 6)).drop (6 * x))
    let s (i : Nat) : Nat := bitsOf v (16 * i) depth * 2 ^ (16 - depth)
    let on := decide (x % idcW idc = 0 ∧ y % idcH idc = 0)
    Pixel.bytes ⟨s 0, if on then s 1 else 0, if on then s 2 else 0⟩)

/-- The lines of a picture within its conformance window, as pixel words. -/
def shownRows (c : Chan) (p : DpbPic) : List (List Pixel) :=
  let z := p.size
  let x0 := z.left * idcW p.chroma
  let y0 := z.top * idcH p.chroma
  let w := z.w - x0 - z.right * idcW p.chroma
  let h := z.h - y0 - z.bottom * idcH p.chroma
  (List.range h).map (fun y => pixelsOf w (c.load (dpbBase c p.buffer + ((y0 + y) * z.w + x0) * 6) (w * 6)))

/-- The picture for delivery (R324): in 4:2:0 each chroma line serves two luma lines, and chroma is upsampled along the line as in
step 2 of R194. -/
def shownPic (c : Chan) (p : DpbPic) : ShownPic :=
  let rows := shownRows c p
  let line (y : Nat) : List Pixel :=
    let l := List.zipWith (fun a b => (⟨a.c0, b.c1, b.c2⟩ : Pixel)) (rows.getD y []) (rows.getD (y - y % idcH p.chroma) [])
    if idcW p.chroma = 2 then fillChroma l else l
  { w := (rows.headD []).length, h := rows.length
    lines := (List.range rows.length).map (fun y => (line y).flatMap Pixel.bytes) }

/-- Output pictures enter the delivery queue as far as it has room (R324). -/
def decFill (c : Chan) : Chan :=
  let n := 4 - c.dec.queue.length
  let c : Chan := { c with dec := { c.dec with queue := c.dec.queue ++ c.dec.outs.take n, outs := c.dec.outs.drop n } }
  c.set Reg.DEC_STAT_QUEUE c.dec.queue.length

/-- One output picture (R324, R325): counted; in M6 its CRC-32 over the pixel words within its conformance window; in M5 passed
for delivery, but an unrecovered one only with RECOV (R329). A read that fails stops the decoder. -/
def decShow (u : AccessUnit) (c : Chan) (p : DpbPic) : Chan :=
  let n := p.size.w * p.size.h * 6
  if memReadFails c (dpbBase c p.buffer) n then decStop (memRead c (dpbBase c p.buffer) n 5) ⟨0x0B, 7, 0xFFFF, 0⟩ u
  else
    let c := memMoved (c.inc Reg.DEC_PICS_VALUE) 5 (dpbBase c p.buffer) n
    if c.mode = 6 then c.set Reg.DEC_PICCRC_VALUE (crc32 ((shownRows c p).flatMap (fun l => l.flatMap Pixel.crcBytes)))
    else if p.unrec && !c.flag Reg.DEC_CFG_RECOV then c
    else decFill { c with dec := { c.dec with outs := c.dec.outs ++ [shownPic c p] } }

/-- Pictures that neither wait for output nor are references leave the buffer. -/
def dpbTidy (c : Chan) : Chan := { c with dec := { c.dec with dpb := c.dec.dpb.filter (fun p => p.waiting || p.ref) } }

/-- The picture of least POC that waits for output is output. -/
def dpbOutput (u : AccessUnit) (c : Chan) : Chan :=
  let least := (c.dec.dpb.filter (·.waiting)).foldl (fun m p => match m with
    | some q => if p.poc < q.poc then some p else some q
    | none => some p) (none : Option DpbPic)
  match least with
  | none => c
  | some p =>
    let c := decShow u c p
    dpbTidy { c with dec := { c.dec with dpb := c.dec.dpb.map (fun q =>
      if q.buffer = p.buffer then { q with waiting := false } else q) } }

/-- Output of pictures while `need` says so of the buffer; `n` bounds them. A stop ends it. -/
def dpbBump (u : AccessUnit) (need : List DpbPic → Bool) : Nat → Chan → Chan
  | 0, c => c
  | n + 1, c =>
    if c.dec.dpb.any (·.waiting) && need c.dec.dpb && c.get Reg.DEC_STAT_STATE != 2 then
      dpbBump u need n (dpbOutput u c)
    else c

/-- More pictures wait than the sequence reorders, or one has waited for its latency. -/
def dpbMany (r : DecodeResult) (l : List DpbPic) : Bool :=
  decide (r.reorder < (l.filter (·.waiting)).length) ||
    (decide (0 < r.latency) && l.any (fun p => p.waiting && decide (r.latency ≤ p.waited)))

/-- The lowest buffer of the DPB that is free. -/
def dpbFree (c : Chan) : Nat := ((List.range 17).find? (fun b => c.dec.dpb.all (fun p => p.buffer != b))).getD 0

/-- A picture takes a buffer, and its lines are written there. -/
def dpbAdd (c : Chan) (p : DpbPic) (depth : Nat) (grey : Bool) : Chan :=
  let b := dpbFree c
  let z := p.size
  let c := forN z.h (fun y c =>
    let line := if grey then (List.range z.w).flatMap (fun x =>
        let k := if x % idcW p.chroma = 0 ∧ y % idcH p.chroma = 0 then 0x8000 else 0
        Pixel.bytes ⟨0x8000, k, k⟩)
      else decodedLine c z.w p.chroma depth y
    (memWrite c (dpbBase c b + y * z.w * 6) 5 line).draw) c
  { c with dec := { c.dec with dpb := c.dec.dpb ++ [{ p with buffer := b }] } }

/-! ### External streams (R319, R324 to R329) -/

/-- A record of a decoded CTU (R333). -/
def decodedRecord (picture a cols : Nat) (unrec : Bool) (k : DecodedCtu) : List Byte :=
  bytesLE 4 picture ++ bytesLE 2 a ++ bytesLE 1 0x80 ++ bytesLE 1 (b2n unrec * 64) ++ bytesLE 4 k.bits ++
    bytesLE 1 (patternOf 8 k.qp) ++ [0#8] ++ bytesLE 2 (min k.cus 65535) ++ measLE 2 k.area 0 ++ measLE 2 k.area 1 ++
    measLE 2 k.area 2 ++ measLE 2 k.area 3 ++ bytesLE 4 0 ++ bytesLE 4 k.act ++ bytesLE 8 0 ++ bytesLE 8 0 ++
    bytesLE 4 0 ++ bytesLE 1 0xFF ++ bytesLE 1 k.tile ++ bytesLE 2 (a / cols) ++ List.replicate 8 0#8

/-- Statistics of a decoded picture in M6 (R331, R333, R334), row by row of its CTUs of `r.size` samples; SAD16 is zero. -/
def decodedStats (c : Chan) (r : DecodeResult) (z : CodedSize) (unrec : Bool) : Chan :=
  let n := max 16 r.size
  let cols := max 1 (ceilDiv z.w n)
  let bw := ceilDiv z.w 16
  forN (ceilDiv z.h n) (fun k c =>
    let ctu (x : Nat) : DecodedCtu := r.ctus.getD (k * cols + x) {}
    let c := if bitAt (c.get Reg.DEC_SCFG_STATS) 0 then
        c.emit (.record 13 ((List.range cols).flatMap (fun x => decodedRecord c.dec.pictures (k * cols + x) cols unrec (ctu x))))
      else c
    if bitAt (c.get Reg.DEC_SCFG_MVF) 0 then
      c.emit (.record 14 ((List.range (bw * ceilDiv (min n (z.h - k * n)) 16)).flatMap (fun i =>
        let x := i % bw * 16
        entryBytes ((ctu (x / n)).blocks.getD (i / bw * (n / 16) + x % n / 16) {}) false ++ [0#8, 0#8])))
    else c) c

/-- A decoded picture hash message disagrees with the picture in buffer `b` (R326): the offset of the first element that
does. -/
def hashStop (c : Chan) (vvc : Bool) (depth b : Nat) (z : CodedSize) (idc : Nat) (m : Nal × Nat × List Byte) :
    Option StopCause :=
  let (n, rest, p) := m
  let method := (p.headD 0#8).toNat + 1
  let len := hashLen method
  let head := if vvc then 2 else 1
  let planes := planesAt c (dpbBase c b) z.w z.h (idcW idc) (idcH idc) depth
  ((List.range 3).find? (fun i =>
    decide (method ≤ 3) && planeHash method depth (planes.getD i ⟨0, []⟩) != (p.drop (head + i * len)).take len)).map (fun i =>
      ⟨0x0A, 3, 0xFFFF, n.offset (8 * (rest - (head + i * len)))⟩)

/-- A decoder that has decoded all of a stream that has ended idles (R321). -/
def decRest (c : Chan) : Chan :=
  if c.dec.units.isEmpty ∧ c.dec.ended.isSome ∧ c.get Reg.DEC_STAT_STATE ≠ 2 then c.set Reg.DEC_STAT_STATE 0 else c

/-- The picture of an access unit is decoded. `seek`: it is the resume point at which decoding begins. -/
def decPicture (r : DecodeResult) (s : Scan) (u : AccessUnit) (seek : Bool) (c : Chan) : Chan :=
  let (z, idc) := s.size
  let fresh := s.irap && (s.idr || seek)
  let target := if seek then
      (if s.idr then none else if s.gdr then some (r.poc + r.recovery) else s.recovery.map (r.poc + ·))
    else c.dec.recoverAt
  let unrec := target.any (fun t => decide (r.poc < t))
  -- an IRAP picture that begins a sequence: no picture before it is a reference
  let c := if fresh then
      let c : Chan := { c with dec := { c.dec with dpb := c.dec.dpb.map (fun p => { p with ref := false }) } }
      if r.noPrior then { c with dec := { c.dec with dpb := [] } }
      else dpbTidy (dpbBump u (fun _ => true) 17 c)
    else c
  let held (e : Int × Nat) : Option DpbPic := c.dec.dpb.find? (fun p => p.ref && p.poc == e.1)
  let missing := r.refs.filter (fun e => (held e).isNone)
  let resized := r.refs.find? (fun e => (held e).any (fun p => p.size.w != z.w || p.size.h != z.h))
  if c.get Reg.DEC_STAT_STATE = 2 then c
  else match missing, resized with
  | (_, o) :: _, none =>
    if unrec || seek then decPictureIn c z idc fresh target unrec missing else decStop c ⟨0x04, 5, 0xFFFF, o⟩ u
  | _, some (_, o) => decStop c ⟨0x02, 5, 0xFFFF, o⟩ u
  | [], none => decPictureIn c z idc fresh target unrec []
where
  /-- References are there: the picture takes its buffer, is decoded, and what is due is output. -/
  decPictureIn (c : Chan) (z : CodedSize) (idc : Nat) (fresh : Bool) (target : Option Int) (unrec : Bool)
      (missing : List (Int × Nat)) : Chan :=
    let c := dpbTidy { c with dec := { c.dec with dpb := c.dec.dpb.map (fun p =>
      { p with ref := p.ref && r.refs.any (fun e => e.1 == p.poc) }) } }
    let c := missing.foldl (fun c e =>
      dpbAdd c { buffer := 0, poc := e.1, size := z, chroma := idc, waiting := false, unrec := true } r.depth true) c
    let c := dpbBump u (fun l => dpbMany r l || decide (r.buffering ≤ l.length)) 17 c
    let cols := ceilDiv z.w (max 16 r.size)
    let b := dpbFree c
    if c.get Reg.DEC_STAT_STATE = 2 then c
    else if c.get Reg.DEC_DPBCFG_DPBN ≤ c.dec.dpb.length then decStop c ⟨0x07, 7, 0xFFFF, 0⟩ u
    else if r.ctus.length < cols * ceilDiv z.h (max 16 r.size) then decStop c ⟨0x08, 4, r.ctus.length, u.bytes.length⟩ u
    else
      let c : Chan := { c with dec := { c.dec with dpb := c.dec.dpb.map (fun p => { p with waited := p.waited + b2n p.waiting }) } }
      let c := dpbAdd c { buffer := 0, poc := r.poc, size := z, chroma := idc, waiting := r.output, unrec := unrec } r.depth false
      match if c.flag Reg.DEC_CFG_HASHCHK then s.hash.bind (hashStop c r.vvc r.depth b z idc) else none with
      | some e => decStop c e u
      | none =>
        let c := c.set Reg.DEC_STAT_STATE (if unrec then 4 else 1)
        let c : Chan := { c with dec := { c.dec with
          pictures := c.dec.pictures + 1, recoverAt := if unrec then target else none
          skipLeading := if s.irap then fresh && !s.idr else c.dec.skipLeading } }
        let c := dpbBump u (dpbMany r) 17 c
        if c.mode = 6 then decodedStats c r z unrec else c

/-- ACCESS_UNIT_DECODE (R325 to R329): the oldest access unit whose bytes are all in. A seeking decoder discards it unless it is
a resume point. -/
def opAccessUnit (r : DecodeResult) (c : Chan) : Chan :=
  let st := c.get Reg.DEC_STAT_STATE
  match c.dec.units with
  | [] => c
  | u :: rest =>
    if !decActive c ∨ st = 2 ∨ (c.mode = 5 ∧ (4 ≤ c.dec.queue.length ∨ ¬ c.dec.outs.isEmpty)) then c
    else
      let c : Chan := { c with dec := { c.dec with units := rest } }
      let s := scanUnit c r.vvc u
      if st = 3 ∧ ¬ s.resume then decRest c
      else if s.rasl ∧ c.dec.skipLeading then decRest c
      else
        let c : Chan := { c with dec := { c.dec with seqs := s.seqs, pics := s.pics } }
        let c := memFind c r.beats
        let reads := decPlaces c u.start u.bytes.length ++ r.reads
        let fails := reads.any (fun e => memReadFails c e.1 e.2)
        let c := reads.foldl (fun c e => memRead c e.1 e.2 5) c
        let gap := u.gap.map (fun o => (⟨0x09, 0, r.reached, o⟩ : StopCause))
        let parse := r.stop.filter (fun e => e.cause != 0x0A)
        let stop := if fails then firstStop [gap, s.stop] <|> some ⟨0x0B, 7, r.reached, 0⟩ else firstStop [gap, s.stop, parse]
        match stop with
        | some e => decStop c e u
        | none => decRest (if s.slice then decPicture r s u (st == 3) c else c)

/-- DECODER_STARVED (R323): the input has run dry inside an access unit for the LIMIT of DEC_TIMEOUT. The CTU at which the
decoder stands is a free value. -/
def opDecoderStarved (c : Chan) : Chan :=
  match c.dec.open_ with
  | some u =>
    if decActive c ∧ c.get Reg.DEC_STAT_STATE ≠ 2 ∧ c.dec.units.isEmpty then
      (decStop c ⟨0x0C, 7, ofBytesLE (c.freeBytes 2), 0⟩ u).draw
    else c
  | none => c

/-- The write of DEC_CTL with RESUME (R328): nothing unless STATE is STOPPED. -/
def actDecCtl (v : Nat) (c : Chan) : Chan :=
  if bitAt v 0 ∧ c.get Reg.DEC_STAT_STATE = 2 then
    let c := (c.set Reg.DEC_STAT_STATE 3).set Reg.DEC_STAT_QUEUE 0
    { c with dec := { c.dec with queue := [], outs := [], dpb := [], leadMet := false, recoverAt := none } }
  else c

/-- A frame boundary in M5 (R324): the head of the delivery queue becomes S0's picture of frame `f`, its lines placed in
the source's buffer. -/
def decDeliver (c : Chan) (f : Nat) : Chan :=
  if c.mode ≠ 5 then c
  else
    let met := c.dec.leadMet || decide (c.get Reg.DEC_CFG_LEAD ≤ c.dec.queue.length)
    match c.dec.queue with
    | p :: rest =>
      if met then
        let c := forN p.h (fun l c => memWrite c (srcLineAddr c 0 f l) 5 (p.lines.getD l [])) c
        let c : Chan := { c with dec := { c.dec with queue := rest, leadMet := true } }
        (decFill c).modSource 0 (fun s => { s with decFrame := some (f, p.w, p.h) })
      else c
    | [] => c

/-- What a commit does to the decoder (R336): any change of a DEC staged field, or of the mode, empties buffers and queue
and makes the decoder seek in M5 and M6; in any other mode it is idle. A stop record held is kept. After any commit LEAD
pictures gather again (R324). `changed`: some DEC staged field takes another value. -/
def decCommit (o c : Chan) (changed : Bool) : Chan :=
  if !decActive c then
    { (c.set Reg.DEC_STAT_STATE 0).set Reg.DEC_STAT_QUEUE 0 with dec := {}, rx := {} }
  else if changed ∨ o.mode ≠ c.mode then
    let c := ((c.set Reg.DEC_STAT_STATE 3).set Reg.DEC_STAT_QUEUE 0).set Reg.DEC_PICS_VALUE 0
    { c with dec := {}, rx := {} }
  else { c.set Reg.DEC_PICS_VALUE 0 with dec := { c.dec with leadMet := false } }

end Sys2Proof.Machine
end

