-- ==== Sys2Proof/Machine/Sched.lean ====
section
/-! DEFINITION. Tasks, contexts and dispatch (07_line_time_and_scheduler.md): R171 to R187, R505, R506, with what each
kind of task does when it completes (08, 09, 10, 11, 12). -/

namespace Sys2Proof.Machine

/-! ### Contexts -/

def Chan.ctx? (c : Chan) (i : Nat) : Option Ctx := (c.sched.ctxs.find? (fun e => e.1 == i)).map (·.2)

def Chan.modCtx (c : Chan) (i : Nat) (f : Ctx → Ctx) : Chan :=
  { c with sched := { c.sched with ctxs := c.sched.ctxs.map (fun e => if e.1 = i then (e.1, f e.2) else e) } }

/-- A task is not complete: its context is not done, or it still waits for one (R174, R317). -/
def Chan.isOpen (c : Chan) (k : TaskKey) : Bool :=
  c.sched.ctxs.any (fun e => e.2.key == k && e.2.state != 6) || c.sched.waiting.contains (k.prog, k.pic, k.row) ||
    (k.kind == 4 && c.sched.verifies.contains (k.prog, k.pic, k.row))

/-- Executor numbers (07, "Tasks and contexts"). -/
def execOf (g : ProgCfg) (k : TaskKey) (engine : Nat) : Nat :=
  if k.kind = 0 then 0x20 + g.ctx
  else if k.kind = 1 then engine
  else if k.kind = 2 then 0x10 + g.coder k.prog k.tile
  else if k.kind = 3 then 0x30
  else 0x40

/-- Worst-case run time in ns of `n` CTUs at a rung. -/
def ctuNs (g : ProgCfg) (rung n : Nat) : Nat := n * ctuCost g.vvc * rungFactor (g.mode == 4) rung / 10000

/-- Keys of the tasks released with a row, in the order in which their contexts are taken; VERIFY is released when the row
retires (R317). A row of M5 has a DECODE task (07, "Tasks and contexts"). -/
def rowKeys (p : Nat) (q : PicSt) (k : Nat) : List TaskKey :=
  let g := q.cfg
  [⟨p, q.serial, k, 0, 0, 0⟩] ++
    (List.range g.tiles).flatMap (fun t => (List.range (g.segs t)).map (fun j => ⟨p, q.serial, k, 1, t, j⟩)) ++
    (List.range g.tiles).map (fun t => ⟨p, q.serial, k, 2, t, 0⟩) ++ [⟨p, q.serial, k, 3, 0, 0⟩] ++
    (if g.mode = 5 then [⟨p, q.serial, k, 5, 0, 0⟩] else [])

/-- The row before in the programme's decoding order: picture and row. -/
def rowBefore (g : Prog) (q : PicSt) (k : Nat) : Option (Nat × Nat) :=
  if 0 < k then some (q.serial, k - 1)
  else (g.pics.find? (fun r => r.serial + 1 == q.serial)).map (fun r => (r.serial, r.cfg.rows - 1))

/-- What a task waits for (R171, R173, R317): its row's composition, the segments of R171, the order of ENTROPY, PACK and
VERIFY tasks, and of those of the decoder. -/
def depsOf (c : Chan) (q : PicSt) (k : TaskKey) : List TaskKey :=
  let g := q.cfg
  let pg := c.prog k.prog
  let before (kind tile : Nat) : List TaskKey :=
    match rowBefore pg q k.row with
    | some (s, r) => [⟨k.prog, s, r, kind, tile, 0⟩]
    | none => []
  let l : List TaskKey :=
    if k.kind = 0 then []
    else if k.kind = 1 then
      [{ k with kind := 0, tile := 0, seg := 0 }] ++ (if k.seg = 0 then [] else [{ k with seg := k.seg - 1 }]) ++
        (if k.row = 0 then [] else [{ k with row := k.row - 1, seg := g.segAbove k.tile k.seg }])
    else if k.kind = 2 then (List.range (g.segs k.tile)).map (fun j => { k with kind := 1, seg := j }) ++ before 2 k.tile
    else if k.kind = 3 then (List.range g.tiles).map (fun t => { k with kind := 2, tile := t }) ++ before 3 0
    else before k.kind 0
  l.filter c.isOpen

/-- A new context of a row released at tick `release` (R172). -/
def newCtx (c : Chan) (q : PicSt) (r : RowSt) (k : TaskKey) : Ctx :=
  let g := q.cfg
  let sub (d : Nat) : Nat := ltSub r.core d g.total
  let te := tEnt g.vvc
  let tp := tPk g.form
  let engine := g.native k.tile k.row
  let x := g.colLo k.tile + 2 * k.seg
  let n := min 2 (g.colHi k.tile - x)
  let due := if k.kind = 0 then sub (2 + te + tp + g.tctu) else if k.kind = 1 then sub (te + tp)
    else if k.kind = 2 then sub tp else if k.kind = 3 then r.core else ltAdd r.core g.total g.total
  { key := k, state := 1, due := due, release := r.release, deps := depsOf c q k
    affinity := if k.kind = 1 ∧ ¬ c.flag Reg.SCH_DISPATCH_MODE then 2 ^ engine else 0
    cost := if k.kind = 1 then ctuNs g 0 n else if k.kind = 0 then g.ltNs g.tcmp else if k.kind = 2 then g.ltNs te
      else if k.kind = 3 then g.ltNs tp else Config.freeNat c.num c.free % 2 ^ 32
    first := if k.kind = 1 then k.row * g.wc + x else 0, count := if k.kind = 1 then n else 0
    engine := engine, exec := execOf g k engine, rid := r.rid }

/-- Contexts of the pool that rows may use: 256 of the 12,288 are reserved for BACKGROUND (R174). -/
def rowPool : Nat := 12032

/-- Contexts in use: those whose tasks are not complete (R174). One whose task is complete is free for another task, and
shows DONE until then or until its completion is dated. -/
def ctxUsed (c : Chan) : Nat := (c.sched.ctxs.filter (fun e => e.2.state != 6)).length

/-- The lowest free contexts. -/
def freeCtxs (c : Chan) (n : Nat) : List Nat :=
  ((List.range rowPool).filter (fun i => !(c.sched.ctxs.any (fun e => e.1 == i && e.2.state != 6)))).take n

/-- Take contexts for the tasks `ks` of a row; answers none if the pool cannot supply them. -/
def allocKeys (c : Chan) (q : PicSt) (r : RowSt) (ks : List TaskKey) : Option Chan :=
  if rowPool < ctxUsed c + ks.length then none
  else
    let c := ((freeCtxs c ks.length).zip ks).foldl (fun c (i, k) =>
      let x := newCtx c q r k
      ({ c with sched := { c.sched with ctxs := c.sched.ctxs.filter (fun e => e.1 != i) ++ [(i, x)] } } : Chan)) c
    let used := ctxUsed c
    some (if c.get Reg.SCH_CTX_STAT_PEAK < used then c.draw.set Reg.SCH_CTX_STAT_PEAK used else c.draw)

/-- VERIFY tasks that are not running give up their contexts: they delay no other task (R317). -/
def yieldVerify (c : Chan) : Chan :=
  let back := c.sched.ctxs.filter (fun e => e.2.key.kind == 4 && decide (e.2.state < 5))
  { c with sched := { c.sched with
      ctxs := c.sched.ctxs.filter (fun e => !(e.2.key.kind == 4 && decide (e.2.state < 5)))
      verifies := back.map (fun e => (e.2.key.prog, e.2.key.pic, e.2.key.row)) ++ c.sched.verifies } }

/-- Take the contexts of a released row; answers none if the pool cannot supply them. -/
def allocRow (c : Chan) (p : Nat) (q : PicSt) (r : RowSt) : Option Chan :=
  let ks := rowKeys p q r.row
  match allocKeys c q r ks with
  | some c => some c
  | none => allocKeys (yieldVerify c) q r ks

/-- VERIFY tasks that are released take contexts, oldest first, as far as the pool goes; `n` bounds them (R317). -/
def takeVerify : Nat → Chan → Chan
  | 0, c => c
  | n + 1, c =>
    match c.sched.verifies with
    | [] => c
    | (p, s, k) :: rest =>
      let d : Chan := { c with sched := { c.sched with verifies := rest } }
      match (c.prog p).pic? s, (c.prog p).row? s k with
      | some q, some r =>
        match allocKeys d q r [⟨p, s, k, 4, 0, 0⟩] with
        | some c => takeVerify n c
        | none => c
      | _, _ => takeVerify n d

/-- Contexts of a release that waited go onto their delay list; their release tick has arrived (R174, R175). -/
def opContextFreed (c : Chan) : Chan :=
  match c.sched.waiting with
  | [] => c
  | (p, s, k) :: rest =>
    match (c.prog p).pic? s, (c.prog p).row? s k with
    | some q, some r =>
      match allocRow { c with sched := { c.sched with waiting := rest } } p q r with
      | some c => c
      | none => c
    | _, _ => { c with sched := { c.sched with waiting := rest } }

/-! ### Order of lists (R179, R181) -/

/-- `a` comes before `b` on a ready list. -/
def ctxBefore (c : Chan) (a b : Nat × Ctx) : Bool :=
  if c.flag Reg.SCH_DISPATCH_MODE then
    let pa := (c.prog a.2.key.prog).cfg.prio
    let pb := (c.prog b.2.key.prog).cfg.prio
    if pa ≠ pb then decide (pb < pa)
    else if a.2.readyAt ≠ b.2.readyAt then decide (a.2.readyAt < b.2.readyAt)
    else decide (a.1 < b.1)
  else
    let ta := c.timeOfTick a.2.rid a.2.due
    let tb := c.timeOfTick b.2.rid b.2.due
    if ta ≠ tb then decide (ta < tb)
    else if a.2.key.prog = b.2.key.prog ∧ a.2.key.row ≠ b.2.key.row then decide (a.2.key.row < b.2.key.row)
    else if a.2.key.prog ≠ b.2.key.prog then decide (a.2.key.prog < b.2.key.prog)
    else decide (a.1 < b.1)

/-- The first of a list under an order. -/
def firstBy {α : Type} (before : α → α → Bool) : List α → Option α
  | [] => none
  | a :: l =>
    match firstBy before l with
    | none => some a
    | some b => if before b a then some b else some a

/-- READY contexts of an executor other than an engine. -/
def readyOf (c : Chan) (exec : Nat) : List (Nat × Ctx) :=
  c.sched.ctxs.filter (fun e => e.2.state == 3 && e.2.key.kind != 1 && e.2.exec == exec)

/-- The running task's key of an engine. -/
def runKey (c : Chan) (e : Nat) : Option TaskKey :=
  ((c.sched.engines.getD e {}).run.bind c.ctx?).map (·.key)

/-- Segments that may enter an on-deck slot of engine `e` (R182): those listed on it (in Zaoth 2400 dispatch, on the one
list), with every dependency met but those that the running task will meet. -/
def candidates (c : Chan) (e : Nat) : List (Nat × Ctx) :=
  let zaoth := c.flag Reg.SCH_DISPATCH_MODE
  let run := runKey c e
  c.sched.ctxs.filter (fun x =>
    x.2.key.kind == 1 && (zaoth || x.2.engine == e) &&
      (x.2.state == 3 || (x.2.state == 2 && x.2.deps.all (fun d => some d == run))))

/-! ### The effort ladder (R183 to R187) -/

/-- The effective rung for the next entry to slot 1 (R184). -/
def effRung (c : Chan) (plan offset : Nat) : Nat := max (min 7 (plan + offset)) (c.get Reg.HKP_THERM_CEIL)

/-- The effective rung of programme `p`. -/
def progRung (c : Chan) (p : Nat) : Nat := effRung c (c.prog p).cfg.plan (c.prog p).offset

/-- Show a programme's slip registers. -/
def showSlip (c : Chan) (p : Nat) : Chan :=
  let g := c.prog p
  (((c.set (Reg.SCH_PSLIP_SLIP p) (min g.slip 65535)).set (Reg.SCH_PSLIP_RUNG p) (progRung c p)).set
    (Reg.SCH_PSLIP_OFFSET p) g.offset).set (Reg.SCH_PSLIP_CEIL p) (c.get Reg.HKP_THERM_CEIL)

/-- The catch-up offset becomes `o`; a change of the effective rung is posted with cause 0 (R186). -/
def setOffset (c : Chan) (p o : Nat) : Chan :=
  let old := progRung c p
  let c := c.modProg p (fun g => { g with offset := o })
  let new := progRung c p
  showSlip (if old ≠ new then c.post 0x0403 .enc new 0 else c) p

/-- The thermal ceiling of the unit becomes `v` (R447): EFFORT_CEILING with cause 1 for each programme whose effective
rung it alters; tasks that enter slot 1 afterwards take it. -/
def setCeiling (v : Nat) (c : Chan) : Chan :=
  if c.get Reg.HKP_THERM_CEIL = v then c
  else
    let o := c
    let c := c.set Reg.HKP_THERM_CEIL v
    forN 8 (fun p c =>
      showSlip (if (c.prog p).on ∧ progRung o p ≠ progRung c p then c.post 0x0403 .enc (progRung c p) 1 else c) p) c

/-! ### Engines (R180, R182) -/

def Chan.modEngine (c : Chan) (e : Nat) (f : Engine → Engine) : Chan :=
  { c with sched := { c.sched with engines := c.sched.engines.modify e f } }

/-- A segment enters slot 1: its effective rung is fixed (R184); the segments of a held row run at rung 7 (R190, R250), and
so do those of a picture coded at rung 7 throughout (R255). -/
def enterSlot1 (c : Chan) (e i : Nat) : Chan :=
  match c.ctx? i with
  | none => c
  | some x =>
    let g := c.prog x.key.prog
    let q := g.pic? x.key.pic
    let held := (g.row? x.key.pic x.key.row).any (·.held)
    let rung := if held || q.any (·.floorOnly) then 7
      else effRung c (q.elim g.cfg.plan (·.cfg.plan)) g.offset
    let cost := ctuNs (q.elim g.cfg (·.cfg)) rung x.count
    (c.modCtx i (fun x => { x with state := 4, rung := rung, engine := e, exec := e, cost := cost })).modEngine e
      (fun y => { y with slot1 := some i })

/-- Slot 1 begins to run and slot 2 moves up (R182). -/
def startNext (c : Chan) (e : Nat) : Chan :=
  let y := c.sched.engines.getD e {}
  match y.slot1 with
  | none => c
  | some i =>
    let t := c.tick
    let c := (c.modCtx i (fun x => { x with state := 5, started := t })).modEngine e (fun _ => { run := some i })
    match y.slot2 with
    | some j => enterSlot1 c e j
    | none => c

/-- The candidate that an engine takes next: the first of its list (R179, R181). -/
def pickFor (c : Chan) (e : Nat) : Option (Nat × Ctx) := firstBy (ctxBefore c) (candidates c e)

/-- The earlier due time first, in the order of the list among equals (R182). -/
def dueBefore (c : Chan) (a b : Nat × Ctx) : Bool :=
  let ta := c.timeOfTick a.2.rid a.2.due
  let tb := c.timeOfTick b.2.rid b.2.due
  if ta ≠ tb then decide (ta < tb) else ctxBefore c a b

/-- An engine with an empty slot 1 fills it from its candidates. -/
def fillSlot1 (c : Chan) (e : Nat) : Chan :=
  if (c.sched.engines.getD e {}).slot1.isSome then c
  else match pickFor c e with
    | some x => enterSlot1 c e x.1
    | none => c

/-- A free engine runs what slot 1 holds, or the first of its list. -/
def fillRun (c : Chan) (e : Nat) : Chan :=
  if (c.sched.engines.getD e {}).run.isSome then c else startNext (fillSlot1 c e) e

/-- A segment goes to slot 2. -/
def enterSlot2 (c : Chan) (e i : Nat) : Chan :=
  (c.modCtx i (fun y => { y with state := 4, engine := e, exec := e })).modEngine e (fun y => { y with slot2 := some i })

/-- Slot 2 is filled behind slot 1; a READY task with an earlier due time displaces what is there, which returns to its
list (R182). -/
def fillSlot2 (c : Chan) (e : Nat) : Chan :=
  let y := c.sched.engines.getD e {}
  if y.slot1.isNone then c
  else match y.slot2 with
    | none =>
      match pickFor c e with
      | some x => enterSlot2 c e x.1
      | none => c
    | some j =>
      match c.ctx? j, firstBy (dueBefore c) ((candidates c e).filter (fun x => x.2.state == 3)) with
      | some z, some x =>
        if c.timeOfTick x.2.rid x.2.due < c.timeOfTick z.rid z.due then
          enterSlot2 (c.modCtx j (fun z => { z with state := if z.deps.isEmpty then 3 else 2 })) e x.1
        else c
      | _, _ => c

/-- With STEAL, an engine with nothing listed and nothing on deck takes the earliest first segment of another engine's
list, and with it the rest of that row in its tile column (R180). -/
def stealEngine (c : Chan) (e : Nat) : Chan :=
  let y := c.sched.engines.getD e {}
  if c.flag Reg.SCH_DISPATCH_MODE ∨ ¬ c.flag Reg.SCH_DISPATCH_STEAL ∨ y.slot1.isSome ∨ y.slot2.isSome ∨
      c.sched.ctxs.any (fun x => x.2.key.kind == 1 && x.2.engine == e && x.2.state == 3) then c
  else
    let l := c.sched.ctxs.filter (fun x => x.2.key.kind == 1 && x.2.state == 3 && x.2.key.seg == 0 && x.2.engine != e)
    match firstBy (ctxBefore c) l with
    | none => c
    | some x =>
      let k := x.2.key
      let c : Chan := { c with sched := { c.sched with ctxs := c.sched.ctxs.map (fun z =>
        if z.2.key.kind = 1 ∧ z.2.key.prog = k.prog ∧ z.2.key.pic = k.pic ∧ z.2.key.row = k.row ∧ z.2.key.tile = k.tile ∧
            z.2.state ≠ 6 then (z.1, { z.2 with engine := e, exec := e }) else z) } }
      fillSlot2 (fillSlot1 (fillRun c e) e) e

/-- Fill one executor other than an engine (R506). -/
def fillOther (c : Chan) (exec : Nat) : Chan :=
  if c.sched.others.any (fun e => e.1 == exec) then c
  else match firstBy (ctxBefore c) (readyOf c exec) with
    | none => c
    | some x =>
      let t := c.tick
      let c := c.modCtx x.1 (fun y => { y with state := 5, started := t })
      { c with sched := { c.sched with others := c.sched.others ++ [(exec, x.1)] } }

/-- Step 5 of R176: free engines first, then the slots of each, then stealing and the other executors. -/
def fillAll (c : Chan) : Chan :=
  let c := takeVerify c.sched.verifies.length c
  let c := forN 16 (fun e c => fillRun c e) c
  let c := forN 16 (fun e c => fillSlot1 c e) c
  let c := forN 16 (fun e c => fillSlot2 c e) c
  let c := forN 16 (fun e c => stealEngine c e) c
  ((List.range 4).map (0x10 + ·) ++ (List.range 4).map (0x20 + ·) ++ [0x30, 0x40]).foldl fillOther c

/-! ### What completion of each kind does -/

/-- The compositor writes the lines of a rendition up to `last` (R219). -/
def renderTo (c : Chan) (r f last : Nat) : Chan :=
  let y := c.rens.getD r {}
  let c : Chan := if y.started && y.frame == f then c
    else { c with rens := c.rens.modify r (fun _ => { started := true, frame := f }) }
  let from_ := (c.rens.getD r {}).lines
  forN (last + 1 - from_) (fun i c =>
    let l := from_ + i
    let held := renHeld c r l
    let c := renderLine c r f l
    { c with rens := c.rens.modify r (fun y => { y with
      lines := l + 1, held := if held then y.held ++ [l] else y.held }) }) c

/-- COMPOSE of a row: composed lines up to its capture line, its rendition lines, and whether any of them is held
(R167, R219, R250). -/
def composeRow (c : Chan) (p serial k : Nat) (lut : List (Nat × Nat × Nat × Nat)) : Chan :=
  match (c.prog p).pic? serial, (c.prog p).row? serial k with
  | some q, some r =>
    if r.rendered then c
    else
      let g := q.cfg
      let c := composeTo c g.ctx q.frame (g.captureLine k) lut
      let c := renderTo c g.ren q.frame (g.lastLine k)
      let held := (c.rens.getD g.ren {}).held.any (fun l => k * g.h ≤ l && l ≤ g.lastLine k)
      let c := c.modProg p (fun g => g.modRow serial k (fun r => { r with rendered := true, held := held }))
      if held ∧ g.mode ≠ 4 then c.bump (Reg.ENC_PCOUNT_FILLROWS p) else c
  | _, _ => c

/-- Before a commit takes effect, what the compositor still owes the rows released is done under the configuration
before (R505). -/
def composeRows (c : Chan) : Chan :=
  forN 8 (fun p c => (c.prog p).rows.foldl (fun c r => composeRow c p r.serial r.row []) c) (composeFinish c)

/-- The first failing beat among the rendition lines that a CTU reads, with its class. The lines that the coded picture adds
repeat the rendition's last line (R228). -/
def sourceFails (c : Chan) (q : PicSt) (x y : Nat) : Option (Nat × Nat) :=
  let g := q.cfg
  ((List.range (g.ctuH y)).flatMap (fun i =>
    memBad c (renLineAddr c g.ren q.frame (min (y * g.h + i) (g.hgt - 1)) + x * g.h * 6) (g.ctuW x * 6))).head?

/-- One CTU is coded (R240, R275, R276, R280). -/
def codeCtu (c : Chan) (p : Nat) (x : Ctx) (i : Nat) (res : CtuResult) : Chan :=
  match (c.prog p).pic? x.key.pic, (c.prog p).row? x.key.pic x.key.row with
  | some q, some r =>
    let g := q.cfg
    let a := x.first + i
    let col := a % g.wc
    let t := x.key.tile
    let mine := r.ctus.filter (fun k => k.tile == t)
    let spent := mine.foldl (fun s k => s + k.tally) 0
    let rest := q.floorCols (col + 1) (g.colHi t)
    let headroom := allowCol q r t - g.hdrCol t - spent - rest
    let err := match sourceFails c q col x.key.row with
      | some e => some e
      | none => res.memErr
    -- what the search's coding adds to its NAL unit (R275)
    let z := zerosAfter 0 (mine.flatMap (·.data))
    let words := if col + 1 = (if g.vvc then g.wc else g.colHi t) then res.zeroWords else 0
    let tally := tallyOf z res.data words
    let emerg := q.emergency && (r.emerg || !x.preEmerg || !(i == 0 || res.begun))
    let src := err.any (fun e => isSourceRead c g e.1)
    let k := chooseCoding (c.prog p) q col x.key.row x.rung headroom tally r.held emerg err.isSome src res
    let was := chooseCoding (c.prog p) q col x.key.row x.rung headroom tally r.held emerg false false res
    let c := memMoved c encPort 0 (g.h * g.h * 6)
    let c := match err with
      | some e => ctuMemErr c p q a e.1 e.2 (!was.fug)
      | none => c
    let data := if k.form = 0 then res.data else fitForm z (formBits g.vvc k.form) res.formData
    let words := if k.form = 0 then words else 0
    let qp := if k.form = 2 ∨ k.form = 3 then (if g.vvc then 63 else 51)
      else ctuQp g r.qpBase x.rung spent mine.length (g.cols t) (targetCol q r t)
    let cr : CtuRec :=
      { addr := a, fug := k.fug, band := q.inBand col, refreshed := decide (col < q.refreshed), capped := k.capped
        held := r.held, emerg := emerg, memErr := err.isSome, rung := x.rung, form := k.form
        tally := tallyOf z data words, data := data, zeroWords := words, qp := qp
        cus := if k.form = 0 then res.cus else formCus g col x.key.row k.form res.formSkip
        engine := x.exec, tile := t, start := x.started, row := x.key.row, meas := res.meas }
    let c := if k.capped then c.bump (Reg.RCT_PCOUNT_CAPPED p) else c
    let c := c.inc (Reg.ENC_CE_CTUS_COUNT x.exec)
    let w := min g.h (g.w - col * g.h)
    let c : Chan := { c with luma := c.luma + w * (g.lastLine x.key.row + 1 - x.key.row * g.h) }
    let c := writeRecon c p q col x.key.row k.form
    let c := c.modProg p (fun g =>
      let g := g.modRow x.key.pic x.key.row (fun r => { r with ctus := r.ctus ++ [cr] })
      let g := g.modPic x.key.pic (fun q => { q with coded := q.coded + 1, fug := if k.fug then q.fug ++ [a] else q.fug })
      if k.fug then g.modRef x.key.pic (fun r => { r with fug := r.fug ++ [a] }) else g)
    -- the picture is coded whole
    if q.coded + 1 = g.wc * g.rows ∧ (c.prog p).isCurrent q then
      let n := q.fug.length + b2n k.fug
      (((c.set (Reg.ENC_PSTAT_POS p) q.pos).set (Reg.ENC_PSTAT_FUGITIVE p) n).set (Reg.ENC_PPOC_POC p) (q.poc % 2 ^ 32)).set
        (Reg.ENC_PPICS_COUNT p) q.count
    else c
  | _, _ => c

/-- PACK of a row: its slice NAL units are formed (R231), the last row of a picture ends in the decoded picture hash (R236) and
may have filler before it (R265), and a row past its due tick departs at once (R187). -/
def packRow (c : Chan) (x : Ctx) : Chan :=
  let p := x.key.prog
  match (c.prog p).pic? x.key.pic with
  | none => c
  | some q =>
    let c := c.modProg p (fun g => g.modRow x.key.pic x.key.row (fun y => { y with
      body := rowNals q x.key.row ((List.range q.cfg.tiles).map (fun t => y.ctus.filter (fun k => k.tile == t)))
      packed := true }))
    let c := if x.key.row + 1 = q.cfg.rows then
        let tail := if q.cfg.hash = 0 then [] else hashNal q.cfg (planesOf c p q)
        let q : PicSt := { q with filler := 0, tail := tail }
        let f := fillerBits q (picBits (c.prog p) q)
        c.modProg p (fun g => g.modPic x.key.pic (fun q => { q with filler := f, tail := tail }))
      else c
    match (c.prog p).row? x.key.pic x.key.row with
    | some y => if y.overrun then departRow c p x.key.pic x.key.row else c
    | none => c

/-- The tick at which what completes now is dated (R177). -/
def nextTick (c : Chan) (rid : Nat) : Nat :=
  match c.rasterOf rid with
  | some r => r.next.tick
  | none => 0

/-- The task in context `i` is done: dependants unblock (R178), it is dated at the next tick of its raster (R177), and its
context is free (R174). -/
def finishCtx (c : Chan) (i : Nat) (x : Ctx) : Chan :=
  let late := decide (c.timeOfTick x.rid x.due < c.timeOfTick x.rid (nextTick c x.rid))
  let ticks := c.ticks
  let k := x.key
  { c with sched := { c.sched with
    packs := if k.kind = 3 then c.sched.packs ++ [(x.rid, k.prog, k.pic, k.row)] else c.sched.packs
    ctxs := c.sched.ctxs.map (fun e =>
    if e.1 = i then (e.1, { e.2 with state := 6, late := late })
    else
      let d := e.2.deps.filter (· != x.key)
      if e.2.state = 2 ∧ d.isEmpty then (e.1, { e.2 with deps := d, state := 3, readyAt := ticks })
      else (e.1, { e.2 with deps := d })) } }

/-- TASK_COMPLETE (R177, R178, R182): the task that an executor runs is finished. -/
def opTaskComplete (exec : Nat) (r : TaskResult) (c : Chan) : Chan :=
  let run := if exec < 16 then (c.sched.engines.getD exec {}).run
    else (c.sched.others.find? (fun e => e.1 == exec)).map (·.2)
  match run with
  | none => c
  | some i =>
    match c.ctx? i with
    | none => c
    | some x =>
      let c := memFind c r.beats
      let k := x.key
      let c := if k.kind = 0 then composeRow c k.prog k.pic k.row r.lut
        else if k.kind = 1 then forN x.count (fun j c => codeCtu c k.prog x j (r.ctus.getD j {})) c
        else if k.kind = 3 then packRow c x
        else if k.kind = 4 then verifyRow c k.prog k.pic k.row r
        else c
      let c := finishCtx c i x
      if exec < 16 then startNext (c.modEngine exec (fun y => { y with run := none })) exec
      else { c with sched := { c.sched with others := c.sched.others.filter (fun e => e.1 != exec) } }

/-! ### The line tick (R176) -/

/-- Rows of every programme on raster `rid` that are due at tick `t`, in programme order (R297). -/
def dueRows (c : Chan) (rid t : Nat) : List (Nat × Nat × Nat) :=
  (List.range 8).flatMap (fun p =>
    ((c.prog p).rows.filter (fun r => r.rid == rid && r.due == t && !r.departed)).map (fun r => (p, r.serial, r.row)))

/-- A row not retired at its due tick is in overrun (R187): the offset is 7 − P until the slip returns to zero. -/
def rowOverrun (c : Chan) (p serial k : Nat) : Chan :=
  let c := c.modProg p (fun g => { g.modRow serial k (fun r => { r with overrun := true }) with overrunRun := true })
  setOffset (c.bump (Reg.SCH_PLATE_OVERRUN p)) p (7 - (c.prog p).cfg.plan)

/-- Step 1: departures due at the tick. -/
def tickDepart (c : Chan) (rid t : Nat) : Chan :=
  (dueRows c rid t).foldl (fun c (p, s, k) =>
    match (c.prog p).row? s k with
    | some r => if r.packed then departRow c p s k else rowOverrun c p s k
    | none => c) c

/-- A new picture of programme `p` enters composition (R237, R238, R254, R255). -/
def newPicture (c : Chan) (p : Nat) (r : Raster) : Chan :=
  let g := c.prog p
  let cfg := g.cfg
  let m4 := cfg.mode == 4
  let kind : PicKind := match g.next with
    | some k => k
    | none => if g.freezeReq && !m4 then .freeze else .ordinary
  let pos := if m4 then 0
    else match kind with
      | .start => cfg.cycle - 1
      | .bench => cfg.cycle - 1
      | .freeze => g.nextPos
      | .ordinary => if g.cycleReq then 0 else g.nextPos
  let cs := !m4 && kind == .ordinary && pos == 0
  let nextPos := match kind with
    | .ordinary => (pos + 1) % max 1 cfg.cycle
    | _ => 0
  let cycleId := if cs then g.cycleId + 1 else g.cycleId
  let stream := (g.streams.head?.map (·.id)).getD 0
  -- an IDR picture has POC 0 (R235, R255)
  let poc := if m4 then 0 else g.nextPoc
  let list := g.refs.take cfg.refs
  let deltas := if m4 then []
    else match kind with
      | .start => if cfg.vvc then [1] else []
      | .bench => [g.benchDelta]
      | _ => list.map (fun r => poc - r.poc)
  let buffer := ((List.range (cfg.refs + 1)).find? (fun b => list.all (fun r => r.buffer != b))).getD 0
  let f := tickFrame r.tick
  let q : PicSt :=
    { serial := g.serial, cfg := cfg, stream := stream, rid := r.id, frame := f, kind := kind, pos := pos
      cycleStart := cs, cycleId := cycleId, poc := poc, count := g.nextCount, buffer := buffer, deltas := deltas
      floorOnly := m4 && g.next.isSome
      t0 := r.timeOf (tickOf f 0), tprev := r.timeOf (tickOf (f + 65535) 0) }
  let ref : RefPic :=
    { serial := g.serial, buffer := buffer, poc := poc, cycleId := cycleId, refreshed := q.refreshed }
  let c := c.modProg p (fun g => { g with
    pics := g.pics ++ [q], refs := (ref :: g.refs).take (cfg.refs + 3), serial := g.serial + 1, next := none
    freezeReq := false, cycleReq := false, nextPos := nextPos, cycleId := cycleId, nextPoc := g.nextPoc + 1
    nextCount := g.nextCount + 1 })
  c.set (Reg.ENC_PSTAT_STARTING p) 0

/-- Release of row `k` of programme `p`'s newest picture at tick `t` (R168, R170, R174). -/
def releaseRow (c : Chan) (p k : Nat) (r : Raster) : Chan :=
  let c := if k = 0 then newPicture c p r else c
  match (c.prog p).pics.getLast? with
  | none => c
  | some q =>
    let g := q.cfg
    let t := r.tick
    let row : RowSt :=
      { serial := q.serial, row := k, release := t, core := ltAdd t (g.core * g.h) r.total
        due := ltAdd t ((g.core + g.extra) * g.h) r.total, rid := r.id }
    let c := c.modProg p (fun g => { g with rows := g.rows ++ [row] }.modPic q.serial (fun q => { q with
      rowsReleased := q.rowsReleased + 1 }))
    match allocRow c p q row with
    | some c => c
    | none =>
      ({ c with sched := { c.sched with waiting := c.sched.waiting ++ [(p, q.serial, k)] } } : Chan).bump
        Reg.SCH_CTX_STAT_PSTALL

/-- Rows whose release tick is the tick: programme and row. -/
def releases (c : Chan) (r : Raster) : List (Nat × Nat) :=
  (List.range 8).flatMap (fun p =>
    let g := c.prog p
    if g.on then
      ((List.range g.cfg.rows).filter (fun k => g.cfg.captureLine k == tickLine r.tick)).map (fun k => (p, k))
    else [])

/-- A frame boundary (R139, R199, R208, R210, R222, R324): layers, regions, decoded pictures and sources. -/
def frameBoundary (c : Chan) (f : Nat) : Chan :=
  let c := forN 32 (fun i c => layerBoundary c (i / 8) (i % 8) f) c
  let c := forN 16 (fun r c => regionBoundary c r f) c
  let c := decDeliver c f
  forN 4 (fun s c => sourceBoundary c s) c

/-- Step 2: capture retires the tick's line, rows whose release tick it is are allocated. -/
def tickCapture (c : Chan) (r : Raster) (rel : List (Nat × Nat)) : Chan :=
  let f := tickFrame r.tick
  let l := tickLine r.tick
  let c := if l = 0 then frameBoundary c f else c
  let c := if l < r.active then forN 4 (fun s c => captureLine c s f l) c else c
  -- take point of frame-input rings, 64 lt before line 0 (R118)
  let c := if l + 64 = r.total then
      forN 4 (fun s c => if srcOn c s ∧ srcKind c s = 1 then c.emit (.take s ((f + 1) % 65536)) else c) c
    else c
  rel.foldl (fun c (p, k) => releaseRow c p k r) c

/-- Step 3: delay lists whose release tick has arrived. -/
def tickReady (c : Chan) : Chan :=
  let ticks := c.ticks
  { c with sched := { c.sched with ctxs := c.sched.ctxs.map (fun e =>
    if e.2.state = 1 then
      (if e.2.deps.isEmpty then (e.1, { e.2 with state := 3, readyAt := ticks }) else (e.1, { e.2 with state := 2 }))
    else e) } }

/-- When the row after `r` is due on its raster: in the same picture h lines later, else row 0 of the picture of the next frame. -/
def rowAfterDue (g : ProgCfg) (r : RowSt) : Nat :=
  ltAdd r.due (if r.row + 1 < g.rows then g.h else g.total - r.row * g.h) g.total

/-- Crystal periods from now to 4 × h × τ past the due time of the programme's oldest row that has not retired, or of the row that
follows `r` when every row has (R431). -/
def watchSpan (c : Chan) (p : Nat) (r : RowSt) : Nat :=
  let g := c.prog p
  let left : List Int := (g.rows.filter (fun x => !x.retired)).map (fun x => c.timeOfTick x.rid x.due)
  let due : Int := match left with
    | t :: l => l.foldl min t
    | [] => c.timeOfTick r.rid (rowAfterDue g.cfg r)
  let more : Nat := 4 * g.cfg.h * (g.cfg.den * secUnits) / (g.cfg.num * g.cfg.total)
  ceilDiv (due + more - c.now).toNat (40 * 65536)

/-- A row retires, dated at tick `t` (R173, R183 to R187, R277). -/
def retireRow (c : Chan) (p serial k t : Nat) : Chan :=
  match (c.prog p).pic? serial, (c.prog p).row? serial k with
  | some q, some r =>
    let g := q.cfg
    let was := (c.prog p).slip
    let slip := (max 0 (ltDiff t r.core g.total)).toNat
    let c := c.modProg p (fun g => { g.modRow serial k (fun r => { r with retired := true, slip := slip }) with slip := slip })
    let arg := p * 2 ^ 24 + k
    let c := if 0 < slip then
        let c := c.bump (Reg.SCH_PLATE_LATE p)
        let c := if c.get (Reg.SCH_PMAX_MAXSLIP p) < slip then c.set (Reg.SCH_PMAX_MAXSLIP p) (min slip 65535) else c
        if was = 0 ∨ r.overrun then c.post 0x0201 .sch arg slip else c
      else if 0 < was then c.post 0x0202 .sch arg 0 else c
    let c := if slip = 0 then c.modProg p (fun g => { g with overrunRun := false }) else c
    let off := if (c.prog p).overrunRun then 7 - g.plan
      else ceilDiv (slip * (7 - g.plan)) (max 1 (g.extra * g.h))
    let c := setOffset c p (min 7 off)
    -- the row's record for later base QPs (R279)
    let first := (r.ctus.find? (fun x => x.tile == 0))
    let n := r.ctus.length
    let c := if (first.map (·.rung)).getD 7 < 7 ∧ 0 < n then
        let sum := r.ctus.foldl (fun s x => s + x.qp) (0 : Int)
        let e : RowQp :=
          { row := k, qp := (2 * sum + (n : Int)) / (2 * (n : Int)), rung := (first.map (·.rung)).getD 0
            tally := r.ctus.foldl (fun s x => s + x.tally) 0 }
        c.modProg p (fun g => if g.isCurrent q then
          { g with qpRows := e :: g.qpRows.filter (fun x => x.row != k) } else g)
      else c
    let c := closeRow c p serial k
    let c := c.emit (.rowRetired p (watchSpan c p r))
    let c : Chan := if g.verify then { c with sched := { c.sched with verifies := c.sched.verifies ++ [(p, serial, k)] } } else c
    let last := k + 1 == g.rows
    let c := if 0 < k then statsRow c p serial (k - 1) else c
    if last then closePicture (statsRow c p serial k) p serial else c
  | _, _ => c

/-- Step 4, first half: completions dated at tick `t` of raster `rid`, in the order of their rows. -/
def tickDate (c : Chan) (rid t : Nat) : Chan :=
  let done := c.sched.packs.filter (fun e => e.1 == rid)
  let c : Chan := { c with sched := { c.sched with
    packs := c.sched.packs.filter (fun e => e.1 != rid)
    ctxs := c.sched.ctxs.filter (fun e => !(e.2.state == 6 && e.2.rid == rid)) } }
  (List.range 8).foldl (fun c p =>
    ((c.prog p).rows.filter (fun r => done.contains (rid, p, r.serial, r.row))).foldl
      (fun c r => retireRow c p r.serial r.row t) c) c

/-- The limit and target of a picture whose row 0 is released (R264, R268), and its overhead: the NAL units that go before its
slices, and the most that its hash can take (R270). -/
def fixLimit (c : Chan) (p : Nat) : Chan :=
  match (c.prog p).pics.getLast? with
  | none => c
  | some q =>
    let before := { c.prog p with pics := (c.prog p).pics.dropLast }
    let (n, lim, g) := ledgerOf before q.cfg q.stream
    let restart := q.kind == .start || q.kind == .bench
    let n := if restart then 0 else n
    let lim : Int := if restart then (q.cfg.d0bits : Int) else lim
    let q := { q with n := n, lim := lim, target := targetOf q.cfg n lim, lmin := lminOf q.cfg n lim }
    let g := if restart then { c.prog p with pics := (c.prog p).pics.dropLast, qpRows := [] } else g
    let head := headBytes q g.sets g.pps g.ppsDue g.lastBp
    let q := { q with
      head := head, overBits := 8 * (head.length + hashMost q.cfg)
      sets := if q.hasSets || g.ppsDue then g.sets ++ g.pps else [] }
    let g := { g with ppsDue := false, lastBp := if q.hasBp then q.n else g.lastBp }
    showPicture (c.modProg p (fun _ => { g with pics := g.pics ++ [q] })) p q

/-- Step 4, second half: limits, targets and allowances of what is released at the tick. -/
def tickBudget (c : Chan) (rel : List (Nat × Nat)) : Chan :=
  rel.foldl (fun c (p, k) =>
    let c := if k = 0 then fixLimit c p else c
    match (c.prog p).pics.getLast? with
    | some q => rowAllowance c p q.serial k
    | none => c) c

/-- Forget rows and pictures that nothing needs any more. The newest picture stays. -/
def tidyProg (c : Chan) (p : Nat) : Chan :=
  let live (s k : Nat) : Bool := c.sched.ctxs.any (fun e => e.2.key.prog == p && e.2.key.pic == s && e.2.key.row == k) ||
    c.sched.waiting.contains (p, s, k) || c.sched.verifies.contains (p, s, k)
  c.modProg p (fun g =>
    let newest := (g.pics.getLast?.map (·.serial)).getD 0
    let rows := g.rows.filter (fun r => !(r.departed && r.retired && r.statsDone) || live r.serial r.row)
    let pics := g.pics.filter (fun q => q.serial == newest || rows.any (fun r => r.serial == q.serial))
    { g with rows := rows, pics := pics })

/-- Old rasters whose rows have all departed are forgotten (R505). -/
def tidyRasters (c : Chan) : Chan :=
  let used (rid : Nat) : Bool := (List.range 8).any (fun p => (c.prog p).rows.any (fun r => r.rid == rid)) ||
    c.sched.ctxs.any (fun e => e.2.rid == rid)
  { c with sched := { c.sched with old := c.sched.old.filter (fun r => used r.id) } }

/-- A tick of the raster in force (R176). -/
def tickNow (c : Chan) (r0 : Raster) : Chan :=
  let r := r0.next
  let c : Chan := { c with ticks := c.ticks + 1, sched := { c.sched with raster := some r } }
  let c := c.inc Reg.SCH_TICKS_COUNT
  let c := tickDepart c r.id r.tick
  let rel := releases c r
  let c := tickCapture c r rel
  let c := tickReady c
  let c := tickDate c r.id r.tick
  let c := tickBudget c rel
  let c := fillAll c
  let c := forN 8 (fun p c => tidyProg c p) c
  -- with no programme on air the scorecard of the frame before is taken at line 0 (R426)
  if tickLine r.tick = 0 ∧ ¬ r0.pre ∧ c.mode ≤ 6 ∧ (List.range 8).all (fun p => !c.flag (Reg.PKT_PSTAT_ONAIR p)) then
    takeScorecard c ((tickFrame r.tick + 65535) % 65536)
  else c

/-- A tick of an old raster, for the rows that stay on it alone (R505). -/
def tickOld (c : Chan) (r0 : Raster) : Chan :=
  let r := r0.next
  let c : Chan := { c with sched := { c.sched with old := c.sched.old.map (fun x => if x.id = r.id then r else x) } }
  let c := tickDepart c r.id r.tick
  let c := tickReady c
  let c := tickDate c r.id r.tick
  let c := fillAll c
  tidyRasters (forN 8 (fun p c => tidyProg c p) c)

/-! ### ENC_PCTL (R254, R256) -/

/-- The write of ENC_PCTL: CYCLE and FREEZE act on the next picture to enter composition; neither acts in M4. -/
def actEncPctl (p v : Nat) (c : Chan) : Chan :=
  let g := c.prog p
  if g.on ∧ g.cfg.mode ≠ 4 then
    let c := c.modProg p (fun g => { g with
      cycleReq := g.cycleReq || bitAt v 0, freezeReq := g.freezeReq || bitAt v 1 })
    if bitAt v 1 then c.set (Reg.ENC_PSTAT_STARTING p) 1 else c
  else c

/-! ### Views of the scheduler in registers -/

/-- The order of a delay list (R175): release tick, due time, context index. -/
def delayBefore (c : Chan) (a b : Nat × Ctx) : Bool :=
  let ra := c.timeOfTick a.2.rid a.2.release
  let rb := c.timeOfTick b.2.rid b.2.release
  let ta := c.timeOfTick a.2.rid a.2.due
  let tb := c.timeOfTick b.2.rid b.2.due
  if ra ≠ rb then decide (ra < rb) else if ta ≠ tb then decide (ta < tb) else decide (a.1 < b.1)

/-- The delay list of a kind: COMPOSE, SEGMENT, ENTROPY and PACK, all others (R175). -/
def delayList (kind : Nat) : Nat := if kind < 2 then kind else if kind ≤ 3 then 2 else 3

/-- The kind of executor of a kind of task. -/
def execKind (kind : Nat) : Nat := if kind = 5 then 4 else kind

/-- NEXT of a context: the index after it in the same list, 0x3FFF at the end. A ready list belongs to one executor, in
Zaoth 2400 dispatch to one kind of executor (R179, R181). -/
def ctxNext (c : Chan) (i : Nat) (x : Ctx) : Nat :=
  let zaoth := c.flag Reg.SCH_DISPATCH_MODE
  let same := c.sched.ctxs.filter (fun e =>
    if x.state = 1 then e.2.state == 1 && delayList e.2.key.kind == delayList x.key.kind
    else e.2.state == 3 && (if zaoth then execKind e.2.key.kind == execKind x.key.kind else e.2.exec == x.exec))
  let before := if x.state = 1 then delayBefore c else ctxBefore c
  ((firstBy before (same.filter (before (i, x)))).map (·.1)).getD 0x3FFF

/-- Word `w` of entry `i` of the context table (07, "Tasks and contexts"). -/
def ctxWord (c : Chan) (i w : Nat) : Nat :=
  match c.ctx? i with
  | none => 0
  | some x =>
    if w = 0 then x.state + b2n x.late * 8 + x.key.kind * 16 + x.key.prog * 256 + x.rung * 4096 + x.key.row * 65536
    else if w = 1 then x.due
    else if w = 2 then x.release
    else if w = 3 then x.exec + x.affinity * 256 + min x.deps.length 255 * 2 ^ 24
    else if w = 4 then x.cost
    else if w = 5 then x.first + x.count * 65536
    else if w = 6 then (if x.state = 1 ∨ x.state = 3 then ctxNext c i x else 0x3FFF)
    else x.started

/-- ENC_CE_STAT of an engine. -/
def ceStat (c : Chan) (e : Nat) : Nat :=
  let y := c.sched.engines.getD e {}
  let deck := b2n y.slot1.isSome + b2n y.slot2.isSome
  match y.run.bind c.ctx? with
  | some x => 1 + x.key.prog * 16 + x.rung * 256 + deck * 4096 + x.key.row * 65536
  | none => deck * 4096

end Sys2Proof.Machine
end

