-- ==== Sys2Proof/Machine/Admission.lean ====
section
/-! DEFINITION. The admission check (R153): steps 3 to 15 over a candidate unit `n` whose active copies are the staged
ones, against the unit `o` as it runs. -/

namespace Sys2Proof.Machine

/-! ### Staged and active copies (R89, R91, R504) -/

/-- Bits of a word that belong to its staged copy: the writable fields of a staged register that are not live. -/
def stagedBits (fs : List FieldDef) (word : Nat) : Nat :=
  (fs.filter (fun f => f.acc == .rw && !f.live)).foldl (fun m f =>
    m + (2 ^ f.width - 1) * 2 ^ f.lo / 2 ^ (32 * word) % 2 ^ 32) 0

/-- The staged bits at a key of a unit's register file. -/
def stagedMask (k : Nat) : Nat :=
  if k < 2 ^ 32 then
    match unitHit k with
    | .reg _ _ _ w d => if d.staged then stagedBits d.fields w else 0
    | _ => 0
  else match unitHit (k / 2 ^ 32 - 1) with
    | .idx _ _ t =>
      if t.staged then
        ((t.fields.filter (fun f => f.1 == k % 16 && f.2.acc == .rw)).map (·.2)).foldl (fun m f =>
          m + (2 ^ f.width - 1) * 2 ^ f.lo) 0
      else 0
    | _ => 0

/-- Merge of a word: the bits under a mask from `a`, the others from `b`. -/
def mergeBits (mask : Nat) (a b : Word) : Word :=
  let m := BitVec.ofNat 32 mask
  (a &&& m) ||| (b &&& ~~~m)

/-- The copy of R91: every staged copy over its active copy. -/
def activate (c : Chan) : Chan :=
  let keys := (c.bank.staged.map (·.1)) ++ (c.bank.regs.map (·.1))
  let regs := keys.foldl (fun l k =>
    storeSet unitReset l k (mergeBits (stagedMask k) (storeGet unitReset c.bank.staged k) (storeGet unitReset l k)))
    c.bank.regs
  { c with bank := { c.bank with regs := regs } }

/-- The copy of a REVERT for the keys of one block: every active copy over its staged copy. -/
def revertBlock (c : Chan) (b : Block) : Chan :=
  let off (k : Nat) : Nat := if k < 2 ^ 32 then k else k / 2 ^ 32 - 1
  let keys := ((c.bank.staged.map (·.1)) ++ (c.bank.regs.map (·.1))).filter (fun k =>
    decide (b.base ≤ off k) && decide (off k < b.base + b.pages * 0x1000))
  let st := keys.foldl (fun l k =>
    storeSet unitReset l k (mergeBits (stagedMask k) (storeGet unitReset c.bank.regs k) (storeGet unitReset l k)))
    c.bank.staged
  { c with bank := { c.bank with staged := st } }

/-- DIRTY of a block: some staged copy differs from its active copy. -/
def blockDirty (c : Chan) (b : Block) : Bool :=
  let off (k : Nat) : Nat := if k < 2 ^ 32 then k else k / 2 ^ 32 - 1
  ((c.bank.staged.map (·.1)) ++ (c.bank.regs.map (·.1))).any (fun k =>
    decide (b.base ≤ off k) && decide (off k < b.base + b.pages * 0x1000) &&
      mergeBits (stagedMask k) (storeGet unitReset c.bank.staged k) 0#32 !=
        mergeBits (stagedMask k) (storeGet unitReset c.bank.regs k) 0#32)

/-! ### Verdicts -/

/-- A refusal (R148): code, kind and number of the element, and the offset of a zero field's register. -/
structure Verdict where
  code : Nat
  kind : Nat
  index : Nat
  off : Nat := 0
  deriving DecidableEq, Repr

/-- Refuse element `index` of `kind` when a condition holds. -/
def refuseIf (b : Bool) (code kind index : Nat) : Option Verdict := if b then some ⟨code, kind, index, 0⟩ else none

/-- The first refusal of a list. -/
def firstOf (l : List (Option Verdict)) : Option Verdict := l.findSome? id

def onSources (n : Chan) : List Nat := (List.range 4).filter (srcOn n)
def ctxOn (n : Chan) (x : Nat) : Bool := n.flag (Reg.CMP_CTX_CFG_EN x)
def onCtxs (n : Chan) : List Nat := (List.range 4).filter (ctxOn n)
def renOn (n : Chan) (r : Nat) : Bool := n.flag (Reg.CMP_REN_CFG_EN r)
def onRens (n : Chan) : List Nat := (List.range 8).filter (renOn n)
def progOn (n : Chan) (p : Nat) : Bool := n.flag (Reg.ENC_PCFG_EN p)
def onProgs (n : Chan) : List Nat := (List.range 8).filter (progOn n)
def onRegions (n : Chan) : List Nat := (List.range 16).filter (swOn n)

/-! ### Step 3: zero fields (R94, R143) -/

/-- The element that a zero field belongs to, if it is checked: none where the element is not enabled or the field is
not acted on. `m7`: the commit is into M7 (R143). -/
def zeroElement (n : Chan) (m7 : Bool) (b : Block) (d : RegDef) (page rep : Nat) : Option (Nat × Nat) :=
  match b with
  | .cap =>
    if m7 then none
    else if page = 0 then some (0, 0)
    else if srcOn n (page - 1) then some (1, page - 1) else none
  | .cmp =>
    if m7 then none
    else if 8 ≤ page ∧ page < 40 then
      let x := (page - 8) / 8
      let l := (page - 8) % 8
      if layerOn n x l ∧ (l ≠ 0 ∨ srcKind n (n.get (Reg.CMP_CTX_CFG_SRC x)) = 2) ∧
          (d.off ≠ 0x108 ∨ (n.flag (Reg.CMP_LCFG_SCALE (page - 8)) ∧ l < 6)) then some (2, x) else none
    else if 40 ≤ page ∧ page < 48 then
      if renOn n (page - 40) ∧ n.flag (Reg.CMP_REN_CFG_SCALE (page - 40)) then some (3, page - 40) else none
    else none
  | .enc | .rct | .pkt =>
    if m7 ∨ page = 0 ∨ ¬ progOn n (page - 1) then none
    else if n.mode = 4 ∧ b = .enc then none else some (4, page - 1)
  | .sch => if m7 ∨ ¬ progOn n rep then none else some (4, rep)
  | .dec => if n.mode = 5 ∨ n.mode = 6 then some (0, 0) else none
  | .mem => if page = 1 then some (7, rep) else some (0, 0)
  | _ => some (0, 0)

/-- The first zero field of the staged registers of a block. -/
def zeroIn (n : Chan) (m7 : Bool) (b : Block) : Option Verdict :=
  ((regsOf b).filter (fun d => d.staged && d.fields.any (fun f => f.zero && !f.live))).findSome? (fun d =>
    (List.range d.pages).findSome? (fun i => (List.range d.reps).findSome? (fun r =>
      let page := d.page + i
      let key := b.base + page * 0x1000 + d.off + r * d.stride
      if d.fields.any (fun f => f.zero && !f.live && decide (n.get ⟨key, f.lo, f.width⟩ = 0)) then
        (zeroElement n m7 b d page r).map (fun e => ⟨codeZERO_FIELD, e.1, e.2, key⟩)
      else none)))

/-- Zero fields that are checked only with an enable, or that are no plain fields of the register tables. -/
def zeroSpecial (n : Chan) (m7 : Bool) : Option Verdict :=
  let z (b : Bool) (kind index : Nat) (f : Fld) : Option Verdict :=
    if b && decide (n.get f = 0) then some ⟨codeZERO_FIELD, kind, index, f.key⟩ else none
  firstOf ([z (n.flag (Reg.TIM_REFCFG_EN 3)) 0 0 (Reg.TIM_REFCFG_PARAM 3),
      z (n.flag Reg.TIM_PTP_CFG_EN) 0 0 Reg.TIM_PTP_MAC_MAC, z (n.flag Reg.TIM_PTP_CFG_EN) 0 0 Reg.TIM_PTP_IP_IP] ++
    (if m7 then [] else
      (onCtxs n).map (fun x => z true 2 x (Reg.CMP_CTX_CFG_LAYERS x)) ++
      (onRegions n).map (fun r =>
        if bitsOf (swWord n r 2) 0 16 = 0 ∨ bitsOf (swWord n r 2) 16 16 = 0 then
          some ⟨codeZERO_FIELD, 2, swCtx n r, swIdx⟩ else none)))

def step3 (n : Chan) (m7 : Bool) : Option Verdict :=
  firstOf (unitBlocks.map (zeroIn n m7) ++ [zeroSpecial n m7])

/-! ### Steps 4 to 9 -/

/-- MODE (R136, R191, R203). -/
def step4 (n : Chan) : Option Verdict :=
  let m := n.mode
  firstOf ((onSources n).map (fun s =>
      let k := srcKind n s
      let ok := match k with
        | 0 => m == 1 || m == 4 || (m == 5 && s != 0)
        | 1 => m == 2
        | 2 => m == 3
        | _ => (m == 5 || m == 6) && s == 0
      refuseIf (!ok) 0x0100 1 s) ++
    (onCtxs n).map (fun x => refuseIf (m == 6) 0x0100 2 x) ++
    (onProgs n).map (fun p => refuseIf (m == 6) 0x0100 4 p) ++
    [refuseIf ((m == 5 || m == 6) && n.get Reg.SCH_MODE_VERIFY != 0) 0x0100 0 0])

/-- Slots of an audio stream. -/
def audSlots (first channels : Nat) : List Nat := (List.range channels).map (first + ·)

/-- The decoder takes its input from lanes in the committed mode (R321). -/
def decLanes (n : Chan) : Bool := (n.mode == 5 || n.mode == 6) && n.flag Reg.DEC_CFG_INPATH

/-- REFERENCE (R141, R293, R321; swatch regions; paths). -/
def step5 (o n : Chan) : Option Verdict :=
  let c := 0x0101
  firstOf ((onCtxs n).map (fun x => refuseIf (!srcOn n (n.get (Reg.CMP_CTX_CFG_SRC x))) c 2 x) ++
    (onRegions n).map (fun r =>
      refuseIf (!ctxOn n (swCtx n r) || (swLayer n r != 0 && !layerOn n (swCtx n r) (swLayer n r))) c 2 (swCtx n r)) ++
    (onRens n).map (fun r => refuseIf (!ctxOn n (n.get (Reg.CMP_REN_CFG_CTX r))) c 3 r) ++
    (onProgs n).map (fun p => refuseIf (!renOn n (n.get (Reg.ENC_PCFG_REN p))) c 4 p) ++
    (onProgs n).map (fun p => refuseIf ((n.flag (Reg.PKT_PCFG_PATHA p) && !n.flag Reg.PKT_PATH_ENA) ||
      (n.flag (Reg.PKT_PCFG_PATHB p) && !n.flag Reg.PKT_PATH_ENB)) c 4 p) ++
    (onProgs n).flatMap (fun p => (audioCfgs n p).map (fun a =>
      let has (mask : Nat) : Bool := (audSlots a.first a.channels).all (bitAt mask)
      let pend := match (o.side a.port 0).pendingMask with
        | some m => has m
        | none => true
      refuseIf (!n.flag (Reg.AUD_CFG_EN a.port 0) || !has (o.get (Reg.AUD_MASK_CUR a.port 0)) || !pend) c 6 a.port)) ++
    [refuseIf (decLanes n && n.get Reg.DEC_LANES_GROUPA == 7 && n.get Reg.DEC_LANES_GROUPB == 7) c 0 0])

/-- RASTER (R159). -/
def step6 (n : Chan) : Option Verdict :=
  let num := n.get Reg.CAP_RASTER_RATE_NUM
  let den := n.get Reg.CAP_RASTER_RATE_DEN
  let total := n.get Reg.CAP_RASTER_LINES_TOTAL
  refuseIf (decide (num * 1001 < 24000 * den) || decide (120 * den < num) ||
    decide (total < n.get Reg.CAP_RASTER_LINES_ACTIVE + 8) || decide (1080000 * den < num * total) ||
    decide (total ≤ n.get Reg.CAP_RASTER_PHASE_OFFSET)) 0x0102 0 0

/-- DELAY (R166). -/
def step7 (n : Chan) : Option Verdict :=
  firstOf ((onProgs n).map (fun p =>
    let g := progCfg n p 0 0
    refuseIf (decide (g.core < (if n.mode = 4 then 2 else 3)) || decide (15 < g.core) || decide (g.extra < 1) ||
      decide (4 < g.extra) || decide (g.rows < g.core + g.extra)) 0x0103 4 p))

/-- A level of a standard: general_level_idc, MaxLumaPs, MaxLumaSr, MaxBR and MaxCPB of Main and High tier in 1,000 bits,
slice segments per picture (HEVC) or tiles per access unit (VVC), tile columns (PRESUMED, log entry 12). -/
structure Level where
  idc : Nat
  ps : Nat
  sr : Nat
  brMain : Nat
  brHigh : Nat
  cpbMain : Nat
  cpbHigh : Nat
  pieces : Nat
  cols : Nat
  deriving DecidableEq, Repr

def hevcLimits : List Level := [
  ⟨30, 36864, 552960, 128, 0, 350, 0, 16, 1⟩, ⟨60, 122880, 3686400, 1500, 0, 1500, 0, 16, 1⟩,
  ⟨63, 245760, 7372800, 3000, 0, 3000, 0, 20, 1⟩, ⟨90, 552960, 16588800, 6000, 0, 6000, 0, 30, 2⟩,
  ⟨93, 983040, 33177600, 10000, 0, 10000, 0, 40, 3⟩, ⟨120, 2228224, 66846720, 12000, 30000, 12000, 30000, 75, 5⟩,
  ⟨123, 2228224, 133693440, 20000, 50000, 20000, 50000, 75, 5⟩,
  ⟨150, 8912896, 267386880, 25000, 100000, 25000, 100000, 200, 10⟩,
  ⟨153, 8912896, 534773760, 40000, 160000, 40000, 160000, 200, 10⟩,
  ⟨156, 8912896, 1069547520, 60000, 240000, 60000, 240000, 200, 10⟩,
  ⟨180, 35651584, 1069547520, 60000, 240000, 60000, 240000, 600, 20⟩,
  ⟨183, 35651584, 2139095040, 120000, 480000, 120000, 480000, 600, 20⟩,
  ⟨186, 35651584, 4278190080, 240000, 800000, 240000, 800000, 600, 20⟩]

def vvcLimits : List Level := [
  ⟨16, 36864, 552960, 128, 0, 350, 0, 1, 1⟩, ⟨32, 122880, 3686400, 1500, 0, 1500, 0, 1, 1⟩,
  ⟨35, 245760, 7372800, 3000, 0, 3000, 0, 1, 1⟩, ⟨48, 552960, 16588800, 6000, 0, 6000, 0, 4, 2⟩,
  ⟨51, 983040, 33177600, 10000, 0, 10000, 0, 9, 3⟩, ⟨64, 2228224, 66846720, 12000, 30000, 12000, 30000, 25, 5⟩,
  ⟨67, 2228224, 133693440, 20000, 50000, 20000, 50000, 25, 5⟩,
  ⟨80, 8912896, 267386880, 25000, 100000, 25000, 100000, 110, 10⟩,
  ⟨83, 8912896, 534773760, 40000, 160000, 40000, 160000, 110, 10⟩,
  ⟨86, 8912896, 1069547520, 60000, 240000, 60000, 240000, 110, 10⟩,
  ⟨96, 35651584, 1069547520, 80000, 240000, 80000, 240000, 440, 20⟩,
  ⟨99, 35651584, 2139095040, 120000, 480000, 120000, 480000, 440, 20⟩,
  ⟨102, 35651584, 4278190080, 180000, 800000, 180000, 800000, 440, 20⟩]

/-- NAL bit-rate and CPB factor of a profile in bits per unit (PRESUMED, log entry 12). -/
def nalFactor (vvc : Bool) (profile : Nat) : Nat :=
  if vvc then (if profile = 0 then 1100 else 2750)
  else [1100, 1100, 1650, 1833, 2200, 2200, 2750, 3300, 4400].getD profile 1100

/-- Chroma codes and depths that a profile allows (R225). CHROMA: 0 4:4:4, 1 4:2:2, 2 4:2:0. -/
def profileOk (vvc : Bool) (profile chroma depth mode : Nat) : Bool :=
  if vvc then (if profile = 0 then chroma == 2 else true) && (depth == 8 || depth == 10)
  else match profile with
    | 0 => chroma == 2 && depth == 8
    | 1 => chroma == 2 && (depth == 8 || depth == 10)
    | 2 => chroma == 2 && depth ≤ 12
    | 3 => chroma != 0 && (depth == 8 || depth == 10)
    | 4 => chroma != 0 && depth ≤ 12
    | 5 => depth == 8
    | 6 => depth == 8 || depth == 10
    | 7 => depth ≤ 12
    | _ => mode == 4

/-- The level of a programme among the standard's, at most 6.2 (R226). -/
def levelOf (n : Chan) (p : Nat) : Option Level :=
  (if n.flag (Reg.ENC_PCFG_CODEC p) then vvcLimits else hevcLimits).find? (fun l => l.idc == n.get (Reg.ENC_PCFG_LEVEL p))

/-- The level check of R226. -/
def levelOk (n : Chan) (p : Nat) (g : ProgCfg) : Bool :=
  match levelOf n p with
  | none => false
  | some l =>
    let high := n.flag (Reg.ENC_PCFG_TIER p)
    let hh := ceilDiv g.hgt 8 * 8
    let f := nalFactor g.vvc (n.get (Reg.ENC_PCFG_PROFILE p))
    let pieces := if g.vvc then g.rows * g.tiles else if g.tiles = 1 then g.rows else g.rows * g.tiles
    (!high || l.brHigh != 0) && decide (g.w * hh ≤ l.ps) && decide (g.w * g.w ≤ 8 * l.ps) && decide (hh * hh ≤ 8 * l.ps) &&
      decide (g.w * hh * g.num ≤ l.sr * g.den) && decide (g.rs ≤ (if high then l.brHigh else l.brMain) * f) &&
      decide (pieces ≤ l.pieces) && (!g.vvc || decide (g.tiles ≤ l.cols))

/-- CODEC (R225, R226, R239, R293). -/
def step8 (n : Chan) : Option Verdict :=
  firstOf ((onProgs n).map (fun p =>
    let g := progCfg n p 0 0
    let narrow := g.wc / g.tiles
    let b := ceilDiv g.wc (max 1 g.cycle)
    refuseIf (!profileOk g.vvc (n.get (Reg.ENC_PCFG_PROFILE p)) g.chroma g.depth n.mode || !levelOk n p g ||
      (n.mode != 4 && decide (narrow / 4 < b + 1)) || g.audio.any (fun a => n.flag (Reg.AUD_CFG_RATE a.port 0)))
      0x0104 4 p))

/-- STRUCTURE (R20, R136). -/
def step9 (n : Chan) : Option Verdict :=
  refuseIf ((onSources n).isEmpty || (n.mode ≤ 5 && (onProgs n).isEmpty)) 0x0105 0 0

/-! ### Step 10: pixel rates (R19, R314) -/

def pixelLimit : Nat := 3981312000

/-- Size of an enabled element's frame, per composited, coded and decoded figure. -/
def ctxLuma (n : Chan) (x : Nat) : Nat :=
  n.get (Reg.CAP_SRC_GEOM_WIDTH (n.get (Reg.CMP_CTX_CFG_SRC x))) * n.get Reg.CAP_RASTER_LINES_ACTIVE

def progLuma (n : Chan) (p : Nat) : Nat :=
  let (w, h) := renSize n (n.get (Reg.ENC_PCFG_REN p))
  w * h

/-- The size of a candidate's rendition uses the candidate's raster. -/
def candidate (o : Chan) : Chan :=
  let n := activate o
  { n with sched := { n.sched with raster := none } }

def progVerified (n : Chan) (p : Nat) : Bool := bitAt (n.get Reg.SCH_MODE_VERIFY) p

/-- Elements with their sizes; the first at which the running sum times the frame rate exceeds the limit. -/
def overRate (n : Chan) (kind : Nat) (l : List (Nat × Nat)) : Option Verdict :=
  let num := n.get Reg.CAP_RASTER_RATE_NUM
  let den := n.get Reg.CAP_RASTER_RATE_DEN
  (l.foldl (fun (x : Nat × Option Verdict) e =>
    let s := x.1 + e.2
    (s, if x.2.isNone && decide (pixelLimit * den < s * num) then some ⟨0x0106, kind, e.1, 0⟩ else x.2)) (0, none)).2

def compSizes (n : Chan) : List (Nat × Nat) := (onCtxs n).map (fun x => (x, ctxLuma n x))
def codedSizes (n : Chan) : List (Nat × Nat) := (onProgs n).map (fun p => (p, progLuma n p))
def decodedSizes (n : Chan) : List (Nat × Nat) :=
  if n.mode = 5 ∨ n.mode = 6 then [(0, n.get Reg.DEC_MAXSIZE_MAXW * n.get Reg.DEC_MAXSIZE_MAXH)]
  else ((onProgs n).filter (progVerified n)).map (fun p => (p, progLuma n p))

def step10 (n : Chan) : Option Verdict :=
  firstOf [overRate n 2 (compSizes n), overRate n 4 (codedSizes n),
    overRate n (if n.mode = 5 ∨ n.mode = 6 then 0 else 4) (decodedSizes n)]

/-- Mpixel/s of a list of sizes, truncated. -/
def mega (n : Chan) (l : List (Nat × Nat)) : Nat :=
  l.foldl (fun s e => s + e.2) 0 * n.get Reg.CAP_RASTER_RATE_NUM / (n.get Reg.CAP_RASTER_RATE_DEN * 1000000)

/-! ### Step 11: output (R21, R230, R284, R302) -/

/-- U_p × 176 × DEN in b/s (R284). -/
def payloadRate (g : ProgCfg) : Nat :=
  if g.form = 0 then g.rs * 176 * g.den
  else g.rs * 188 * g.den + 1504 * 176 * (g.rows + 4) * g.num +
    g.audio.foldl (fun s a => s + 1344000 * a.channels * 188 * g.den + 1504 * 176 * g.num) 0

/-- The largest payload of a packet (R287). -/
def maxPayload (g : ProgCfg) : Nat := if g.form = 0 then g.maxPay else min (g.maxPay / 188) 43 * 188

/-- K_p (R302). -/
def packetBound (g : ProgCfg) : Nat :=
  let v := if g.form = 0 then ceilDiv g.cpb 8
    else 188 * (ceilDiv g.cpb 1408 + g.rows + 4 +
      g.audio.foldl (fun s a => s + ceilDiv (168000 * a.channels * g.den) (g.num * 176) + 1) 0)
  g.rows + 4 + ceilDiv v (maxPayload g)

/-- Load of an entropy coder in b/s times 4 (R230): RATE_MAX × 64 / TILECOLS per tile column. -/
def coderLoad (n : Chan) (e : Nat) : Nat :=
  (onProgs n).foldl (fun s p =>
    let g := progCfg n p 0 0
    s + ((List.range g.tiles).filter (fun t => g.coder p t == e)).length * g.rs * (4 / g.tiles)) 0

def totalOutput (n : Chan) : Nat := (onProgs n).foldl (fun s p => s + payloadRate (progCfg n p 0 0)) 0

def step11 (n : Chan) : Option Verdict :=
  let den := n.get Reg.CAP_RASTER_RATE_DEN
  firstOf [refuseIf (decide (24000000000 * 176 * den < totalOutput n)) 0x0107 0 0,
    firstOf ((List.range 4).map (fun e => refuseIf (decide (24000000000 < coderLoad n e)) 0x0107 0 0)),
    firstOf ((onProgs n).map (fun p => refuseIf (decide (16000 < packetBound (progCfg n p 0 0))) 0x0107 4 p))]

/-! ### Step 12: lanes (R378 to R380) -/

def groupMembers (g : Nat) : List Nat := if g = 4 then List.range 16 else (List.range 4).map (4 * g + ·)

/-- The lanes of a group have the MODE mix and one RATE (R372, R378). -/
def groupMix (n : Chan) (g : Nat) (decoder : Bool) : Bool :=
  let l := groupMembers g
  if decoder then
    n.get (Reg.LNK_PCFG_MODE (4 * g)) == 2 && n.get (Reg.LNK_PCFG_MODE (4 * g + 1)) == 2 &&
      n.get (Reg.LNK_PCFG_MODE (4 * g + 2)) == 0 && n.get (Reg.LNK_PCFG_MODE (4 * g + 3)) == 0 &&
      n.get (Reg.LNK_PCFG_RATE (4 * g)) == n.get (Reg.LNK_PCFG_RATE (4 * g + 1))
  else l.all (fun k => n.get (Reg.LNK_PCFG_MODE k) == 1 &&
    n.get (Reg.LNK_PCFG_RATE k) == n.get (Reg.LNK_PCFG_RATE (l.headD 0)))

/-- The capacity check of R379: r × 10⁸ × τ columns, r in units of 10⁶ baud. -/
def sourceFits (n : Chan) (s g : Nat) : Bool :=
  let lanes := if g = 4 then 16 else 4
  let l := lineBytes (n.get (Reg.CAP_SRC_CFG_FORMAT s)) (srcWidth n s)
  let baud := laneBaud (n.get (Reg.LNK_PCFG_RATE ((groupMembers g).headD 0)))
  let cols := baud * 100000 * n.get Reg.CAP_RASTER_RATE_DEN * 4092 /
    (n.get Reg.CAP_RASTER_RATE_NUM * n.get Reg.CAP_RASTER_LINES_TOTAL * 4096)
  decide (3 + ceilDiv (20 + l) lanes + 2 ≤ cols)

/-- The capacity check of R380 for path `x`. -/
def pathFits (n : Chan) (x : Nat) : Bool :=
  let on (p : Nat) : Bool := if x = 0 then n.flag (Reg.PKT_PCFG_PATHA p) else n.flag (Reg.PKT_PCFG_PATHB p)
  let den := n.get Reg.CAP_RASTER_RATE_DEN
  -- both sides times 176 × DEN × 4096; each term rounded up
  let load := ((onProgs n).filter on).foldl (fun s p =>
    let g := progCfg n p 0 0
    let m := maxPayload g
    s + ceilDiv (payloadRate g * (m + 43) * 4096) m + 344 * g.rows * g.num * 176 * 4096) 0
  decide (load ≤ 16 * laneBaud (n.get (Reg.LNK_SCFG_RATE (2 * x))) * 100000 * 4092 * 176 * den)

def step12 (o n : Chan) : Option Verdict :=
  let c := 0x0108
  let users : List (Nat × Nat × Bool) :=
    ((onSources n).filter (fun s => srcKind n s == 0)).map (fun s => (s, n.get (Reg.CAP_SRC_CFG_GROUP s), false))
  let ga := n.get Reg.DEC_LANES_GROUPA
  let gb := n.get Reg.DEC_LANES_GROUPB
  let decs := if decLanes n then (if ga = 7 then [] else [ga]) ++ (if gb = 7 then [] else [gb]) else []
  let split := n.flag Reg.LNK_CFG_SPLIT
  let en (u : Chan) (x : Nat) : Bool := if x = 0 then u.flag Reg.PKT_PATH_ENA else u.flag Reg.PKT_PATH_ENB
  firstOf (users.map (fun u => refuseIf (users.any (fun v => v.1 != u.1 && v.2.1 == u.2.1) || decs.contains u.2.1 ||
      (split == (u.2.1 == 4)) || !groupMix n u.2.1 false || !sourceFits n u.1 u.2.1) c 1 u.1) ++
    decs.map (fun g => refuseIf ((decs.filter (· == g)).length != 1 || !split || !groupMix n g true) c 0 0) ++
    (List.range 2).map (fun x => refuseIf (en n x &&
      (n.get (Reg.LNK_SCFG_RATE (2 * x)) != n.get (Reg.LNK_SCFG_RATE (2 * x + 1)) ||
        (en o x && (n.get (Reg.LNK_SCFG_RATE (2 * x)) != o.get (Reg.LNK_SCFG_RATE (2 * x)) ||
          n.get (Reg.LNK_SCFG_RATE (2 * x + 1)) != o.get (Reg.LNK_SCFG_RATE (2 * x + 1)))) ||
        !pathFits n x)) c 5 x))

/-! ### Step 13: memory (R220, R258, R314, R395, R405, R406, R409) -/

/-- Surfaces of enabled elements: element kind and number, base, bytes. -/
def surfaces (n : Chan) : List (Nat × Nat × Nat × Nat) :=
  let a := n.get Reg.CAP_RASTER_LINES_ACTIVE
  ((onSources n).filter (fun s => srcKind n s != 2)).map (fun s =>
    (1, s, n.get (Reg.CAP_SRC_BUF_ADDR s) * 4096, 3 * (srcWidth n s * a * 6))) ++
  (onCtxs n).map (fun x => (2, x, n.get (Reg.CMP_CTX_OUT_ADDR x) * 4096, 2 * (ctxLuma n x * 6))) ++
  (onRens n).map (fun r =>
    let (w, h) := renSize n r
    (3, r, n.get (Reg.CMP_REN_OUT_ADDR r) * 4096, 2 * (w * h * 6))) ++
  (onProgs n).map (fun p =>
    (4, p, n.get (Reg.ENC_PRECON_ADDR p) * 4096, (n.get (Reg.ENC_PCFG_REFS p) + 1) * (progLuma n p * 13) / 2)) ++
  ((onProgs n).filter (progVerified n)).map (fun p =>
    (4, p, n.get (Reg.DEC_VBUF_ADDR p) * 4096, (n.get (Reg.ENC_PCFG_REFS p) + 1) * (progLuma n p * 13) / 2)) ++
  (if n.mode = 5 ∨ n.mode = 6 then
    [(0, 0, n.get Reg.DEC_DPB_ADDR * 4096,
        n.get Reg.DEC_DPBCFG_DPBN * (n.get Reg.DEC_MAXSIZE_MAXW * n.get Reg.DEC_MAXSIZE_MAXH * 13) / 2),
      (0, 0, n.get Reg.DEC_INBUF_ADDR * 4096, n.get Reg.DEC_DPBCFG_INSIZE * 2 ^ 20)]
   else []) ++
  (List.range 8).flatMap (fun i =>
    let j := i / 2
    let x := i % 2
    if n.flag (Reg.AUD_CFG_EN j x) then
      [(6, j, n.get (Reg.AUD_RING_ADDR j x) * 2 ^ (64 - (Reg.AUD_RING_ADDR j x).w), 4 * 2 ^ n.get (Reg.AUD_SIZE_LOG2 j x)),
        (6, j, n.get (Reg.AUD_STAMP_ADDR j x) * 2 ^ (64 - (Reg.AUD_STAMP_ADDR j x).w),
          32 * 2 ^ n.get (Reg.AUD_SIZE_SLOG2 j x))]
    else [])

/-- Need of port `p` times DEN × 2 in bytes per second (R409). -/
def portNeed (n : Chan) (p : Nat) : Nat :=
  let num := n.get Reg.CAP_RASTER_RATE_NUM
  let den := n.get Reg.CAP_RASTER_RATE_DEN
  let a := n.get Reg.CAP_RASTER_LINES_ACTIVE
  let sum (l : List Nat) : Nat := l.foldl (· + ·) 0
  let luma := sum ((onProgs n).map (progLuma n))
  match p with
  | 0 => 12 * num * sum (((onSources n).filter (fun s => srcKind n s != 2)).map (fun s => srcWidth n s * a)) +
      2 * den * sum ((List.range 8).map (fun i => if n.flag (Reg.AUD_CFG_EN (i / 2) (i % 2)) then
        96 * (if n.flag (Reg.AUD_CFG_RATE (i / 2) (i % 2)) then 96000 else 48000) else 0))
  | 1 => 2 * num * (sum ((onCtxs n).map (fun x =>
      let k := srcKind n (n.get (Reg.CMP_CTX_CFG_SRC x))
      let b (l : Nat) : Nat := layerBytes (n.get (Reg.CMP_LCFG_FORMAT (8 * x + l)))
      let l0 := if k = 2 then b 0 else 6
      (l0 + sum (((List.range 8).filter (fun l => l != 0 && layerOn n x l)).map b) + 6) * ctxLuma n x)) +
      sum ((onRens n).map (fun r =>
        let (w, h) := renSize n r
        6 * (w * h))))
  | 2 => 2 * num * sum ((onProgs n).map (fun q => (6 + 12 * n.get (Reg.ENC_PCFG_REFS q)) * progLuma n q))
  | 3 => 13 * num * luma
  | 4 => den * sum ((onProgs n).map (fun q => n.get (Reg.RCT_PRATEMAX_RATE q) * 64)) / 1 +
      2 * den * sum ((onProgs n).map (fun q => sum ((audioCfgs n q).map (fun s => 192000 * s.channels))))
  | 5 =>
    if n.mode = 5 ∨ n.mode = 6 then
      44 * num * (n.get Reg.DEC_MAXSIZE_MAXW * n.get Reg.DEC_MAXSIZE_MAXH) + 12000000000 * den
    else 44 * num * sum (((onProgs n).filter (progVerified n)).map (progLuma n))
  | 6 => 0
  | _ => 4000000000 * den

def step13 (o n : Chan) : Option Verdict :=
  let c := 0x0109
  let den := n.get Reg.CAP_RASTER_RATE_DEN
  let rate := (List.range 8).foldl (fun s p => s + n.get (Reg.MEM_REG_RATE p)) 0
  firstOf ((surfaces n).map (fun s => refuseIf (decide (hbmSize < s.2.2.1 + s.2.2.2)) c s.1 s.2.1) ++
    (onProgs n).flatMap (fun p => (audioCfgs n p).map (fun a =>
      let fs := if n.flag (Reg.AUD_CFG_RATE a.port 0) then 96000 else 48000
      refuseIf (decide (2 ^ n.get (Reg.AUD_SIZE_LOG2 a.port 0) <
        2 * 16 * ceilDiv (fs * den) (n.get Reg.CAP_RASTER_RATE_NUM))) c 6 a.port)) ++
    [refuseIf (mapChanges o n) c 0 0, refuseIf (o.mode == 7 && !o.flag Reg.MEM_STAT_INITDONE) c 0 0,
      refuseIf (decide (16320 < rate)) c 0 0] ++
    (List.range 8).map (fun p =>
      refuseIf (decide (n.get (Reg.MEM_REG_RATE p) * 64000000 * 2 * den < portNeed n p)) c 7 p))

/-! ### Steps 14 and 15 (R282, R189) -/

/-- The most programmes that share one of a programme's coders (R273). -/
def sharing (n : Chan) (p : Nat) : Nat :=
  let g := progCfg n p 0 0
  ((List.range g.tiles).map (fun t =>
    ((onProgs n).filter (fun q =>
      let h := progCfg n q 0 0
      (List.range h.tiles).any (fun u => h.coder q u == g.coder p t))).length)).foldl max 1

def progKappa (n : Chan) (p : Nat) : Nat := kappaOf (progCfg n p 0 0) (sharing n p)

/-- The floors of the rows that a programme's pictures can have: an ordinary picture at each cycle position, a start
picture, a fill picture. -/
def progPhis (g : ProgCfg) : List Nat :=
  let q (k : PicKind) (pos : Nat) : PicSt := { serial := 0, cfg := g, frame := 0, kind := k, pos := pos }
  if g.mode = 4 then [(q .ordinary 0).phi]
  else (List.range g.cycle).map (fun i => (q .ordinary i).phi) ++ [(q .start 0).phi, (q .freeze 0).phi]

def maxPhi (g : ProgCfg) : Nat := (progPhis g).foldl max 0

/-- Fmax (R282). -/
def progFmax (n : Chan) (p : Nat) : Nat :=
  let g := progCfg n p 0 0
  maxOver g + g.rows * (maxPhi g + g.hdr)

/-- The programme goes on unbroken across the commit (R150). -/
def progContinues (o n : Chan) (p : Nat) : Bool :=
  let same (f : Fld) : Bool := o.get f == n.get f
  o.mode == n.mode && o.mode != 7 && (o.prog p).on && progOn n p &&
    same Reg.CAP_RASTER_RATE_NUM && same Reg.CAP_RASTER_RATE_DEN && same Reg.CAP_RASTER_LINES_TOTAL &&
    same (Reg.ENC_PCFG_CODEC p) && same (Reg.ENC_PCFG_PROFILE p) && same (Reg.ENC_PCFG_TIER p) &&
    same (Reg.ENC_PCFG_LEVEL p) && same (Reg.SCH_PTIME_CORE p) && same (Reg.SCH_PTIME_EXTRA p) &&
    same (Reg.ENC_PBAND_CYCLE p) && same (Reg.PKT_PCFG_FORM p) && same (Reg.PKT_PSTREAM_SID p) &&
    renSize o (o.get (Reg.ENC_PCFG_REN p)) == renSize n (n.get (Reg.ENC_PCFG_REN p))

def step14 (o n : Chan) : Option Verdict :=
  firstOf ((onProgs n).map (fun p =>
    let g := progCfg n p 0 0
    let k := progKappa n p
    let pp := g.rs * g.den / g.num
    let cpbMax := match levelOf n p with
      | some l => (if n.flag (Reg.ENC_PCFG_TIER p) then l.cpbHigh else l.cpbMain) * nalFactor g.vvc (n.get (Reg.ENC_PCFG_PROFILE p))
      | none => 0
    let same (f : Fld) : Bool := o.get f == n.get f
    refuseIf ((g.cbr && g.rate != g.rateMax) || (!g.cbr && decide (g.rateMax < g.rate)) || decide (g.cpb < g.d0bits) ||
      (g.cbr && decide (g.cpb < ceilDiv (g.rs * g.den) g.num + 64)) || decide (cpbMax < g.cpb) ||
      decide (pp < progFmax n p) || decide (g.d0bits < progFmax n p) || decide (k < maxPhi g + g.hdr) ||
      decide (g.qpMax > if g.vvc then 63 else 51) || decide (g.qpMin < -6 * ((g.depth : Int) - 8)) ||
      decide (g.qpMin > g.qpMax) ||
      (progContinues o n p && !(same (Reg.RCT_PCFG_CBR p) && same (Reg.RCT_PRATEMAX_RATE p) && same (Reg.RCT_PCPB_SIZE p) &&
        same (Reg.RCT_PINIT_INIT p)))) 0x010A 4 p))

/-- ρ_q over the denominator 16 × 10¹³ × ACTIVE × DEN (R189). -/
def rhoNum (n : Chan) (q : Nat) : Nat :=
  let g := progCfg n q 0 0
  g.w * g.hgt * rungFactor (g.mode == 4) g.plan * 4 * g.num * g.total

def rhoDen (n : Chan) : Nat := 16 * 10 ^ 13 * n.get Reg.CAP_RASTER_LINES_ACTIVE * n.get Reg.CAP_RASTER_RATE_DEN

/-- tctu (R189); none if the other programmes leave no time. -/
def progTctu (n : Chan) (p : Nat) : Option Nat :=
  let g := progCfg n p 0 0
  let zaoth := n.flag Reg.SCH_DISPATCH_MODE
  let others := (onProgs n).filter (fun q => q != p &&
    (!zaoth || decide (g.prio ≤ n.get (Reg.SCH_PTIME_PRIO q))))
  let ro := others.foldl (fun s q => s + rhoNum n q) 0
  let d := rhoDen n
  let w := ceilDiv g.wc g.tiles
  if d ≤ ro then none
  else
    let t := ceilDiv (w * ctuCost g.vvc * rungFactor (g.mode == 4) g.plan * g.num * g.total * d)
      (10 ^ 13 * g.den * (d - ro))
    some (if zaoth then ceilDiv (t * 11) 10 else t)

/-- The predicted worst-case slip (R189). -/
def progSlip (n : Chan) (p : Nat) : Option Nat :=
  let g := progCfg n p 0 0
  (progTctu n p).map (fun t =>
    let back := ceilDiv (g.rows * (t * g.hgt - g.share * g.h * g.active)) (g.share * g.hgt)
    let lat := g.tcmp + 2 + t + tEnt g.vvc + tPk g.form + back
    lat - g.core * g.h)

/-- Extra time X in lt (R154). -/
def progExtra (n : Chan) (p : Nat) : Nat :=
  let g := progCfg n p 0 0
  g.extra * g.h

def step15 (n : Chan) : Option Verdict :=
  let all := (onProgs n).foldl (fun s q => s + rhoNum n q) 0
  firstOf ((onProgs n).map (fun p =>
      refuseIf (match progSlip n p with
        | some s => decide (progExtra n p < s)
        | none => true) 0x010B 4 p) ++
    [refuseIf (decide (rhoDen n < all)) 0x010B 0 0])

end Sys2Proof.Machine
end

