-- ==== Sys2Proof/Machine/Commit.lean ====
section
/-! DEFINITION. The commit (06_channel_modes.md): GO (R144), the verdict (R146, R148, R153, R155), the boundary (R140,
R145, R147, R163, R353), programmes across it (R150 to R152, R301, R437, R505), the configuration record (R429), and the
seeding of a bench unit (R433, R435). -/

namespace Sys2Proof.Machine

/-- A GO written to SCH_COMMIT (R144): the caller has checked that none is in progress. -/
def actCommit (v : Nat) (c : Chan) : Chan :=
  let c := (c.inc Reg.SCH_COMMIT_NUM_NUM).set Reg.SCH_COMMIT_STAT_STATE 1
  { c with sched := { c.sched with at_ := if bitAt v 1 then some (c.get Reg.SCH_COMMIT_AT_FRAME) else none } }

/-! ### The raster a commit runs on -/

/-- The commit lays a fresh raster (R140). -/
def laysRaster (o n : Chan) : Bool :=
  let same (f : Fld) : Bool := o.get f == n.get f
  n.mode != 7 && (o.mode == 7 || o.mode != n.mode || !same Reg.CAP_RASTER_RATE_NUM || !same Reg.CAP_RASTER_RATE_DEN ||
    !same Reg.CAP_RASTER_LINES_TOTAL)

/-- The fresh raster of a commit at its latest frame boundary at or before device time `t`: on the origin of a
substitution (R435), else as R163 and R353 lay it. -/
def commitRaster (n : Chan) (t : Nat) : Raster :=
  let r := layRaster n t
  if n.sched.serving then
    let k := (((t : Int) - n.tim.origin) * (r.num : Int) / ((r.den * secUnits : Nat) : Int)).toNat
    { r with base := n.tim.origin, index := k, tick := tickOf (n.tim.originFrame + k) 0 }
  else r

/-- The least number of frames, at least `least`, from a raster's present frame to a boundary at or after `goal`. -/
def framesTo (r : Raster) (goal : Int) (least : Nat) : Nat :=
  let p : Int := ((r.den * secUnits : Nat) : Int)
  max least (((goal - r.lineTime 0) * (r.num : Int) + p - 1) / p).toNat

/-- The frame count at which an accepted commit without AT_EN is to take effect, as the verdict at device time `now`
knows it (R145). The phase of a live input that no raster follows yet is a free value. -/
def effectFrame (o n : Chan) (now : Nat) : Nat :=
  let goal : Int := ((now + msUnits : Nat) : Int)
  if laysRaster o n then
    let r := commitRaster n now
    if (n.mode = 1 ∨ n.mode = 4) ∧ ¬ n.sched.serving ∧ (n.lanes.heard.all (fun e => e.1 != liveGroup n)) then
      ((now + msUnits) * r.num / (r.den * secUnits) + o.freeNat % 2) % 65536
    else (tickFrame r.tick + framesTo r goal 0) % 65536
  else match o.sched.raster with
    | some r => (tickFrame r.tick + framesTo r goal 1) % 65536
    | none => 0

/-- Step 16: the target of AT_EN (R146). -/
def step16 (o n : Chan) (now : Nat) : Option Verdict :=
  match o.sched.at_ with
  | none => none
  | some f =>
    let r? := if laysRaster o n then some (commitRaster n now) else o.sched.raster
    match r? with
    | none => some ⟨0x010C, 0, 0, 0⟩
    | some r =>
      let d := (f + 65536 - tickFrame r.tick) % 65536
      refuseIf (decide (d = 0) || decide (32768 ≤ d) ||
        decide (r.timeOf (tickOf f 0) < ((now + msUnits : Nat) : Int))) 0x010C 0 0

/-! ### The verdict -/

/-- The steps of R153 in order, with their numbers. `subst`: the unit is involved in a substitution in progress; a commit
of the umpire's own passes step 1 (R436). Step 2 is always passed on the device. A commit into M7 runs steps 1 to 3, and
one that keeps the unit in M7 with AT_EN set is refused (R143, R146), and so is one that enters M7 with another map (R405). -/
def admissionSteps (subst : Bool) (o : Chan) : List (Nat × Option Verdict) :=
  let n := candidate o
  let m7 := n.mode == 7
  [(1, refuseIf (subst && !o.sched.serving) 0x010E 0 0), (3, step3 n m7)] ++
  if m7 then
    if o.mode = 7 then (if o.sched.at_.isSome then [(16, some ⟨0x010C, 0, 0, 0⟩)] else [])
    else [(13, refuseIf (mapChanges o n) 0x0109 0 0)]
  else [(4, step4 n), (5, step5 o n), (6, step6 n), (7, step7 n), (8, step8 n), (9, step9 n), (10, step10 n),
    (11, step11 n), (12, step12 o n), (13, step13 o n), (14, step14 o n), (15, step15 n), (16, step16 o n o.now)]

/-- The refusal, if any, and the number of the last step reached. -/
def admission (subst : Bool) (o : Chan) : Option Verdict × Nat :=
  let l := admissionSteps subst o
  match l.find? (fun s => s.2.isSome) with
  | some s => (s.2, s.1)
  | none => (none, (l.getLast?.map (·.1)).getD 0)

/-- The figures of the steps that were reached (R155); a commit into M7 reaches none of them. -/
def admissionFigures (n : Chan) (reached : Nat) (c : Chan) : Chan :=
  let den := n.get Reg.CAP_RASTER_RATE_DEN
  let has (s : Nat) : Bool := n.mode != 7 && decide (s ≤ reached)
  let pick (b : Bool) (x : Nat) : Nat := if b then x else 0
  let c := ((c.set Reg.SCH_ADMIT_RATE0_COMPOSITED (pick (has 10) (mega n (compSizes n)))).set Reg.SCH_ADMIT_RATE0_CODED
    (pick (has 10) (mega n (codedSizes n)))).set Reg.SCH_ADMIT_RATE1_DECODED (pick (has 10) (mega n (decodedSizes n)))
  let c := c.set Reg.SCH_ADMIT_RATE1_OUTPUT (pick (has 11) (totalOutput n / (176 * den * 1000000)))
  let c := if has 13 then forN 8 (fun p c => c.set (Reg.MEM_NEED p) (ceilDiv (portNeed n p) (2 * den * 64000000))) c else c
  forN 8 (fun p c =>
    let on := has 15 && progOn n p
    (c.set (Reg.SCH_ADMIT_SLIP_SLIP p) (pick on (min 65535 ((progSlip n p).getD 65535)))).set (Reg.SCH_ADMIT_SLIP_BOUND p)
      (pick on (progExtra n p))) c

/-- A commit is refused (R148). A zero field is rejected there: its block records it (R94, R95), from no access. -/
def refuseCommit (v : Verdict) (c : Chan) : Chan :=
  let c := (c.set Reg.SCH_COMMIT_STAT_STATE 4).set Reg.SCH_COMMIT_STAT_LAST_CODE v.code
  let c := ((c.set Reg.SCH_REFUSE_DETAIL_CODE v.code).set Reg.SCH_REFUSE_DETAIL_KIND v.kind).set Reg.SCH_REFUSE_DETAIL_INDEX
    v.index
  let c := c.post 0x0102 .sch v.code (c.get Reg.SCH_COMMIT_NUM_NUM)
  let c := if v.code = codeZERO_FIELD then
      let b := (blockAt unitBlocks v.off).getD .sch
      (c.err b codeZERO_FIELD (bar0Unit c.num v.off) 7).post 0x0002 b (bar0Unit c.num v.off) 0
    else c
  let c := if c.sched.serving then c.emit (.verdict v.code) else c
  { c with sched := { c.sched with at_ := none, serving := false } }

/-- ADMISSION_VERDICT: the admission check completes (R153, R155). -/
def opVerdict (subst : Bool) (c : Chan) : Chan :=
  if c.get Reg.SCH_COMMIT_STAT_STATE ≠ 1 then c
  else
    let n := candidate c
    let now := c.now
    let (v, reached) := admission subst c
    let e := match c.sched.at_ with
      | some f => f
      | none => effectFrame c n now
    let c' := admissionFigures n reached c
    match v with
    | some v => refuseCommit v c'
    | none =>
      let c := (c'.set Reg.SCH_COMMIT_STAT_STATE 2).set Reg.SCH_EFFECT_FRAME_FRAME e
      let c : Chan := { c with sched := { c.sched with verdictAt := now } }
      let c := if n.mode = 7 then c
        else forN 8 (fun p c =>
          if progOn n p then
            (c.set (Reg.RCT_PFLOOR_VALUE p) (progFmax n p)).set (Reg.RCT_PKAPPA_VALUE p) (progKappa n p)
          else c) c
      let c := c.draw
      if c.sched.serving then c.emit (.verdict 0) else c

/-! ### The boundary -/

/-- Every programme of the active configuration has zero cumulative slip (R145). -/
def noSlip (c : Chan) : Bool := c.progs.all (fun g => !g.on || g.slip == 0)

/-- The unit stands at the tick before a frame boundary that the accepted commit may take: its own frame with AT_EN. -/
def beforeBoundary (c : Chan) : Bool :=
  match c.sched.raster with
  | some r => !r.pre && tickLine r.tick + 1 == r.total &&
      (match c.sched.at_ with
      | some f => (tickFrame r.tick + 1) % 65536 == f
      | none => true)
  | none => false

/-- Device time is counted in steps of the oscillator's period: an instant has been reached when the count first stands
at or past it, within 41 ns. -/
def instantSlack : Nat := 41 * 65536

/-- The device time at which the boundary falls that the accepted commit stands at, if it stands at one (R140, R145,
R146); `n` is the unit under the new configuration. A commit that keeps the unit in M7 has whole milliseconds for
boundaries; one that lays a raster has the boundaries of that raster; any other those of the raster in force. With AT_EN
only the target frame's boundary counts. -/
def boundaryAt (c n : Chan) : Option Int :=
  let now := c.now
  let at_ (b : Int) : Option Int := if (now : Int) < b + (instantSlack : Nat) then some b else none
  if n.mode = 7 ∧ c.mode = 7 then at_ ((now / msUnits * msUnits : Nat) : Int)
  else if laysRaster c n then
    let r := commitRaster n now
    match c.sched.at_ with
    | some f => if tickFrame r.tick = f then at_ (r.timeOf r.tick) else none
    | none => at_ (r.timeOf r.tick)
  else if beforeBoundary c then c.sched.raster.map (fun r => r.timeOf r.next.tick)
  else none

/-- How many boundaries before the one at `b` the commit could have taken since 1 ms after the verdict (R145); none where
`b` itself comes too early. -/
def boundariesPassed (c n : Chan) (b : Int) : Option Nat :=
  let goal : Int := ((c.sched.verdictAt + msUnits : Nat) : Int)
  let (num, den) := match laysRaster c n, c.sched.raster with
    | false, some r => (r.num, r.den)
    | _, _ => (n.get Reg.CAP_RASTER_RATE_NUM, n.get Reg.CAP_RASTER_RATE_DEN)
  if b < goal then none
  else some ((b - goal) * (num : Int) / ((den * secUnits : Nat) : Int)).toNat

/-- The accepted commit stands at a boundary that it may take: it has zero slip there, and without AT_EN the boundary is
one of the nine of R145. -/
def commitDue (c n : Chan) : Bool :=
  c.get Reg.SCH_COMMIT_STAT_STATE == 2 && noSlip c &&
    (match (boundaryAt c n).bind (boundariesPassed c n) with
    | some k => c.sched.at_.isSome || decide (k ≤ 8) || n.mode == 7 && c.mode == 7
    | none => false)

/-- The accepted commit stands at the boundary at which slip refuses it: the target with AT_EN, else the ninth (R145,
R146); a boundary after the ninth, should that one have been let pass, refuses it too. -/
def slipDue (c n : Chan) : Bool :=
  c.get Reg.SCH_COMMIT_STAT_STATE == 2 &&
    (match (boundaryAt c n).bind (boundariesPassed c n) with
    | some k => if c.sched.at_.isSome then !noSlip c
        else !(n.mode == 7 && c.mode == 7) && (decide (8 < k) || (k == 8 && !noSlip c))
    | none => false)

/-- The configuration record (R429): active staged words that differ from their reset values, lookup tables apart. -/
def configRecord (c : Chan) : ConfigRec :=
  let lut (k : Nat) : Bool := decide (2 ^ 32 ≤ k) && (match unitHit (k / 2 ^ 32 - 1) with
    | .idx _ _ t => t.name == "CMP_CLUT"
    | _ => false)
  { commit := c.get Reg.SCH_ACTIVE_NUM_NUM
    active := ((c.bank.regs.filter (fun e => !lut e.1)).map (fun e =>
      (e.1, mergeBits (stagedMask e.1) e.2 (unitReset e.1)))).filter (fun e => e.2 != unitReset e.1) }

/-- The stream that a programme's start, restart or first bench picture begins (R288, R294, R301, R437). -/
def newStream (c : Chan) (p : Nat) (cfg : ProgCfg) (sid epoch seq psi : Nat) : Stream :=
  { id := (c.prog p).nextStream, sid := sid, epoch := epoch % 256, seq := seq % 2 ^ 32, first := seq % 2 ^ 32
    psiVer := psi, cfg := cfg, discPids := [0, cfg.pmt, cfg.video] ++ cfg.audio.map (·.pid) }

/-- Programme `p` begins a stream at the boundary of frame `f`: with a seed as R437 says, else afresh (R151, R301). -/
def beginStream (p f : Nat) (cfg : ProgCfg) (old : Option Stream) (seed : Option Seed) (c : Chan) : Chan :=
  let st := match seed with
    | some x => newStream c p cfg cfg.sid (x.epoch + 1) (x.seq + 65536) (if x.departed then x.psi else 0)
    | none =>
      match old with
      | some s =>
        if s.sid = cfg.sid then newStream c p cfg cfg.sid (s.epoch + 1) (s.seq + 2 ^ 32 - 1 + 65536) 0
        else newStream c p cfg cfg.sid (c.get (Reg.PKT_PSTREAM_EPOCH0 p)) (c.get (Reg.PKT_PSEQ0_SEQ0 p)) 0
      | none => newStream c p cfg cfg.sid (c.get (Reg.PKT_PSTREAM_EPOCH0 p)) (c.get (Reg.PKT_PSEQ0_SEQ0 p)) 0
  -- the bench's first picture lies m frames after the last that departed in full
  let bench := seed.filter (·.departed)
  let m := match bench with
    | some x => (f + 65536 - x.frame) % 65536
    | none => 0
  let c := c.modProg p (fun g => { g with
    on := true, cfg := cfg, refs := [], qpRows := [], departed := none, cycleReq := false, freezeReq := false
    next := some (if bench.isSome then .bench else .start), nextPos := 0, cycleId := g.cycleId + 1
    nextPoc := match bench with
      | some x => x.poc + m
      | none => 0
    nextCount := match bench with
      | some x => x.pics + m
      | none => 1
    sets := match bench with
      | some x => (splitSets x.params).1
      | none => setsOf cfg
    pps := match bench with
      | some x => (splitSets x.params).2
      | none => ppsOf cfg
    ppsDue := false, benchDelta := m
    params := match bench with
      | some x => x.params
      | none => []
    streams := st :: g.streams, nextStream := g.nextStream + 1, slip := 0, offset := 0, lateRun := false
    overrunRun := false, verifyWait := false, seed := none })
  let c := (c.set (Reg.RCT_PBITS_COUNT p) ((bench.map (·.bits)).getD 0)).set (Reg.RCT_PLAST_VALUE p) 0
  let c := (c.set (Reg.RCT_PFILLER_VALUE p) 0).set (Reg.ENC_PPICS_COUNT p) (match bench with
    | some x => x.pics + m - 1
    | none => 0)
  showSlip (showStream (c.set (Reg.ENC_PSTAT_STARTING p) 1) p) p

/-- The stream `s` of programme `p` is replaced or ended: it ends with END if `end_` (R303, R505). -/
def retireStream (p : Nat) (s : Stream) (end_ : Bool) (c : Chan) : Chan :=
  streamEnd (c.modProg p (fun g => g.modStream s.id (fun s => { s with end_ := end_ }))) p s.id

/-- The PMT of two configurations differs, in its content or its PID (R288). -/
def pmtDiffers (a b : ProgCfg) : Bool := a.pmt != b.pmt || pmtSection a 0 != pmtSection b 0

/-- What the commit does to programme `p` (R150, R151, R256, R505), at the boundary of frame `f`. -/
def progCommit (o : Chan) (f p : Nat) (c : Chan) : Chan :=
  let was := (o.prog p).on
  let on := progOn c p && 1 ≤ c.mode && c.mode ≤ 5
  let old := (o.prog p).streams.head?
  let cfg := progCfg c p ((progTctu c p).getD 0) (progKappa c p)
  if on ∧ progContinues o c p then
    let was := (o.prog p).cfg
    -- the SPS of a running stream keeps its colour description; REFS and TILECOLS change its PPS (R234, R256)
    let cfg := { cfg with prim := was.prim, trans := was.trans, matrix := was.matrix, full := was.full }
    let same := was.tiles == cfg.tiles && was.refs == cfg.refs
    let c := c.modProg p (fun g =>
      let g := if same then { g with cfg := cfg } else { g with cfg := cfg, pps := ppsOf cfg, ppsDue := true }
      match g.streams.head? with
      | some s => g.modStream s.id (fun s => { s with
          cfg := cfg, psiVer := if pmtDiffers was cfg then (s.psiVer + 1) % 32 else s.psiVer })
      | none => g)
    showSlip c p
  else if on then
    let c := beginStream p f cfg (if was then old else none) (o.prog p).seed c
    match old, was with
    | some s, true => retireStream p s (s.sid != cfg.sid) c
    | _, _ => c
  else if was then
    let c := (c.modProg p (fun g => { g with
      on := false, cycleReq := false, freezeReq := false, next := none, slip := 0, offset := 0 })).set
        (Reg.ENC_PSTAT_STARTING p) 0
    match old with
    | some s => retireStream p s true c
    | none => c
  else c.modProg p (fun g => { g with seed := none })

/-- Some staged DEC field takes another value (R336). -/
def decChanged (o : Chan) : Bool := blockDirty o .dec

/-- The unit under the configuration that an accepted commit brings, on the raster still in force. -/
def incoming (c : Chan) : Chan := { candidate c with sched := c.sched }

/-- COMMIT_DONE: an accepted commit takes effect at its boundary (R140, R145, R147, R163, R353). A commit that keeps the
raster, or leads into M7, waits for the raster's own boundary; one that lays a raster for a boundary of that raster; one
that keeps the unit in M7 for a whole millisecond. -/
def opCommitDone (c : Chan) : Chan :=
  let cand := incoming c
  let m7 := cand.mode == 7
  let lays := laysRaster c cand
  if ¬ commitDue c cand then c
  else
    let o := if c.mode = 7 then c else composeRows c
    let n := activate o
    let old := match o.sched.raster with
      | some r => r :: o.sched.old
      | none => o.sched.old
    let n : Chan :=
      if m7 then { n with sched := { n.sched with raster := none, old := old } }
      else if lays then
        let r := commitRaster n n.now
        let n := if (n.mode = 1 ∨ n.mode = 4) ∧ ¬ n.sched.serving then n.modTim (fun t => { t with
            origin := r.base, originFrame := tickFrame r.tick }) else n
        { n with sched := { n.sched with raster := some r, nextRid := n.sched.nextRid + 1, old := old } }
      else { n with sched := { n.sched with raster := o.sched.raster.map (fun r =>
        { r.next with pre := true, active := n.get Reg.CAP_RASTER_LINES_ACTIVE }) } }
    -- the frame at whose boundary the commit takes effect
    let f := if m7 then (o.sched.raster.map (fun r => (tickFrame r.tick + 1) % 65536)).getD 0 else n.frame
    let n := lanesCommit o n
    let n := memCommit o n
    let n := audCommit o n
    let n := sourcesCommit o n
    let n := composeCommit n
    let n := ptpCommit (o.flag Reg.TIM_PTP_CFG_EN) n
    let n := decCommit o n (decChanged o)
    let n := timAlign (timCommit (timOscillator n))
    let n := forN 8 (fun p n => progCommit o f p n) n
    let num := n.get Reg.SCH_COMMIT_NUM_NUM
    let n := ((n.set Reg.SCH_COMMIT_STAT_STATE 3).set Reg.SCH_ACTIVE_NUM_NUM num).set Reg.SCH_EFFECT_FRAME_FRAME f
    let n := (n.post 0x0101 .sch num f).emit (.config (configRecord n))
    let n := if n.sched.serving then n.emit .commitDone else n
    tidyRasters { n with sched := { n.sched with at_ := none, serving := false } }

/-- SLIP_PENDING: the accepted commit has found no boundary with zero slip at the ninth, or has slip at its target (R145,
R146). The element is the first programme that has slip. -/
def opSlipPending (c : Chan) : Chan :=
  if ¬ slipDue c (incoming c) then c
  else
    let p := ((List.range 8).find? (fun p => (c.prog p).on && (c.prog p).slip != 0)).getD 0
    refuseCommit ⟨0x010D, 4, p, 0⟩ c

/-- LINE_TICK: `back` 0 is the raster in force, k the k-th old raster that still carries rows, newest first. No tick of
the raster in force passes a boundary at which an accepted commit takes effect or is refused: what has not been done there
is done first (R145, R146). -/
def opLineTick (back : Nat) (c : Chan) : Chan :=
  if back = 0 then
    let c := if beforeBoundary c ∧ ¬ laysRaster c (incoming c) then opSlipPending (opCommitDone c) else c
    match c.sched.raster with
    | some r => tickNow c r
    | none => c
  else match c.sched.old[back - 1]? with
    | some r => tickOld c r
    | none => c

/-! ### The bench unit of a substitution (R433, R435, R437) -/

/-- Step 5: the configuration record goes into the staged registers, its LNK, TIM and MEM registers into both copies, and
the timing unit and the programmes are seeded. `time` is the extrapolated device time in 2⁻¹⁶ ns, `freq` the frequency in
2⁻¹⁶ ppb. -/
def opSeedUnit (k : ConfigRec) (sc : Scorecard) (time : Nat) (freq : Int) (c : Chan) : Chan :=
  let both (key : Nat) : Bool :=
    match blockAt unitBlocks (if key < 2 ^ 32 then key else key / 2 ^ 32 - 1) with
    | some b => b == .lnk || b == .tim || b == .mem
    | none => false
  let o := c
  let c : Chan := { c with bank := { c.bank with
    staged := k.active
    regs := (k.active.filter (fun e => both e.1)).foldl (fun l e =>
      storeSet unitReset l e.1 (mergeBits (stagedMask e.1) e.2 (storeGet unitReset l e.1))) c.bank.regs } }
  let c := ptpCommit (o.flag Reg.TIM_PTP_CFG_EN) (timOscillator (memCommit o (lanesCommit o c)))
  let c := timSeed c time freq sc.offset sc.t0 sc.frame
  let c := forN 8 (fun p c =>
    let r := sc.progs.getD p {}
    if r.enabled then
      c.modProg p (fun g => { g with seed := some {
        departed := r.departed, epoch := r.epoch, seq := r.seq, poc := r.poc, frame := r.frame, psi := r.psi
        pics := r.pics, bits := r.bits, params := r.params } })
    else c) c
  forN 8 (fun i c => c.set (Reg.AUD_MASK_CUR (i / 2) (i % 2)) ((sc.audio.getD i {}).mask)) c

/-- Step 7: the umpire commits on the bench. -/
def opServe (c : Chan) : Chan := actCommit 0 { c with sched := { c.sched with serving := true } }

end Sys2Proof.Machine
end

