-- ==== Sys2Proof/Machine/StateHub.lean ====
section
/-! DEFINITION. The state of the hub (05_host_port.md) and of the umpire (03, 17, 18, 19) that no register holds. -/

namespace Sys2Proof.Machine

/-! ### DMA rings (R111 to R120) -/

/-- A descriptor as its engine read it (R114). `clean`: every reserved field of bytes 0x00 to 0x0F is zero. -/
structure Descr where
  addr : Nat
  length : Nat
  int : Bool
  inline_ : Bool
  timed : Bool
  param : List Byte
  clean : Bool
  deriving DecidableEq, Repr

/-- What an engine is doing with the descriptor at a ring's consumer index. -/
inductive Stage where
  | idle
  /-- the read of the descriptor itself is outstanding -/
  | fetch
  /-- the descriptor is in hand -/
  | hold (d : Descr)
  /-- a line of a frame input is not yet due to be fetched -/
  | wait (d : Descr) (line : Nat)
  /-- a read of its data is outstanding: the line of a frame input, 0 for a stream input, and what the reads before it
  have brought of that line or descriptor -/
  | read (d : Descr) (line : Nat) (got : List Byte)
  /-- the transfer is over: status, bytes moved, what is written to the buffer -/
  | ready (d : Descr) (status len : Nat) (bytes : List Byte)
  deriving DecidableEq, Repr

/-- A ring beside its registers. -/
structure Ring where
  stage : Stage := .idle
  /-- records bound to posted descriptors, oldest first (R119) -/
  waiting : List (List Byte) := []
  /-- descriptors completed since the ring was enabled (RSEQ) -/
  rseq : Nat := 0
  /-- a take point that is not settled, as long as its descriptor is still being read or found LATE: its frame, and the
  producer index then, for a descriptor posted later waits for the next take point (R118) -/
  judge : Option (Nat × Nat) := none
  /-- crystal count at which the outstanding read times out (R120) -/
  limit : Nat := 0
  /-- the frame a descriptor was taken for -/
  frame : Nat := 0
  /-- completions with INT gathered and not signalled (R122) -/
  gathered : Nat := 0
  deriving DecidableEq, Repr

/-- A unit's quench (R127): by command, or by a move to COLD or PARKED alone (R73); RESUME has been written before
STOPPED. -/
structure Quench where
  on : Bool := false
  stopped : Bool := false
  own : Bool := false
  resume : Bool := false
  deriving DecidableEq, Repr

/-- A PCI Express function (R101 to R104): Bus Master Enable, D3hot, MSI-X Enable and Function Mask; Device Control: codes
of Max Payload Size (128 bytes times its power of two) and Max Read Request Size, the enables of Relaxed Ordering and No
Snoop; and the AER status it has logged. The reset values of Device Control are PRESUMED, those of PCI Express (log entry
74): 128 bytes, 512 bytes, both enables set. -/
structure Function where
  busMaster : Bool := false
  d3 : Bool := false
  msixOn : Bool := false
  msixMask : Bool := false
  mps : Nat := 0
  mrrs : Nat := 2
  relaxed : Bool := true
  noSnoop : Bool := true
  /-- completion timeout, poisoned TLP, unexpected completion, unsupported request -/
  aer : List Bool := [false, false, false, false]
  deriving DecidableEq, Repr

/-- The hub. -/
structure Hub where
  /-- HST and DMA registers -/
  bank : RegBank := {}
  /-- PWR_GOOD is high and VDD_HUB in range; the hub is ready after its device reset (R58, R61) -/
  powered : Bool := false
  ready : Bool := false
  /-- PERST# is high -/
  perst : Bool := false
  /-- the data link is up; whether the present training has FLIT mode, once it is negotiated (R100) -/
  link : Bool := false
  flit : Option Bool := none
  /-- rings: CUn's ring r at 32n + r, the hub's ring 0 at 160 -/
  rings : List Ring := List.replicate 161 {}
  quench : List Quench := List.replicate 5 {}
  /-- function 0 is the PF, n + 1 the VF of CUn -/
  fns : List Function := List.replicate 6 {}
  /-- VF Enable and NumVFs (R104) -/
  vfEnable : Bool := false
  numVfs : Nat := 0
  /-- MSI-X tables of BAR4: key fn × 2¹⁶ + offset -/
  msix : List (Nat × Word) := []
  /-- vectors pending while masked: function, vector -/
  pend : List (Nat × Nat) := []
  /-- blocks whose INT_MASKED was nonzero when last seen (R122): block code, for a unit's block 256 × (n + 1) more -/
  intUp : List Nat := []
  /-- per unit: crystal count of the last UNIT_UNAVAILABLE event and accesses since (R82) -/
  unavail : List (Option Nat × Nat) := List.replicate 5 (none, 0)
  deriving DecidableEq, Repr

/-! ### Power states (R71 to R74) -/

/-- The power states of R71, in the order of their codes. -/
inductive Power where
  | cold | parked | held | run
  deriving DecidableEq, Repr

def Power.code : Power → Nat
  | .cold => 0
  | .parked => 1
  | .held => 2
  | .run => 3

/-- A move in progress: a start under R72, to RUN or only to HELD, or a stop under R73, to PARKED or to COLD. -/
inductive Move where
  | none
  | start (run : Bool)
  | stop (park : Bool)
  deriving DecidableEq, Repr

/-- What the umpire keeps of a unit's power and training. -/
structure UnitPower where
  state : Power := .cold
  move : Move := .none
  /-- a step of the move was forced (R472) -/
  forced : Bool := false
  isolated : Bool := false
  /-- last unit-reset cause -/
  cause : Nat := 0
  /-- the image that the unit was loaded with, until its next unit reset (R70) -/
  image : Option (List Byte) := none
  /-- a request held for training, cooling, a stop in progress or a substitution: REQ (4 for RESET_UNIT) and KEEP (R65,
  R74, R451) -/
  held : Option (Nat × Nat) := none
  /-- KEEP in force in PARKED, and the map saved on entry to it (R421) -/
  keep : Nat := 0
  map : List Nat := []
  /-- the training record is valid (R419); a full training runs; it has failed once -/
  trained : Bool := false
  training : Bool := false
  retried : Bool := false
  /-- the start in progress found a valid record when it was requested (RESTORED) -/
  restored : Bool := false
  /-- stack temperature of the last training results copied from the unit (R420) -/
  recal : Option Int := none
  deriving DecidableEq, Repr

/-- The substitution machinery (R425, R433, R438 to R440) and the bench-routing pins (R37, R38). -/
structure Subst where
  /-- STATE: 0 IDLE, 1 RUNNING, 2 SERVING, 3 RETURNING -/
  state : Nat := 0
  /-- the designated bench unit, 7 for none -/
  bench : Nat := 4
  benchEn : Bool := false
  /-- level of BENCH_SEL[2:0] -/
  sel : Nat := 7
  failed : Nat := 0
  server : Nat := 0
  trigger : Nat := 0
  reason : Nat := 0
  /-- the unit being switched off and the unit being started -/
  src : Nat := 0
  dst : Nat := 0
  /-- next step of R433 to begin: 3 waits for the failed unit's gating, 4 for BENCH_SEL, 5 for RUN, 6 for INITDONE, 7 for
  the verdict, 8 for the boundary -/
  step : Nat := 0
  /-- crystal count at the declaration -/
  t0 : Nat := 0
  /-- what the bench starts from (R433) -/
  card : Option Scorecard := none
  config : Option ConfigRec := none
  deriving DecidableEq, Repr

/-- Power states of the units, and the bench. -/
structure PowerSt where
  units : List UnitPower := List.replicate 5 {}
  subst : Subst := {}
  deriving DecidableEq, Repr

/-! ### Umpire -/

/-- A core rail (R48 to R51, R454): last voltage written, last Voltage read, steering stopped, the AVSBus command that waits
for its answer with its unanswered attempts, rounds in a row above the lowering level, steps of 10 mV still to be written
(negative: downward), crystal count of the last step. -/
structure Rail where
  target : Nat := 750
  measured : Nat := 0
  noresp : Bool := false
  cmd : Option AvsCmd := none
  tries : Nat := 0
  calm : Nat := 0
  steps : Int := 0
  last : Option Nat := none
  /-- rounds in a row in which each voltage monitor of the unit was out of the range of R47 -/
  monOut : List Nat := []
  deriving DecidableEq, Repr

/-- A die's sensor and thresholds (R441 to R452). Temperatures in 0.1 °C. -/
structure Die where
  temp : Int := 0
  raw : Option Int := none
  est : Option Int := none
  /-- a round has read the sensor -/
  seen : Bool := false
  /-- rounds in a row off the estimate, and rounds in a row back within it -/
  off : Nat := 0
  back : Nat := 0
  suspect : Bool := false
  warn : Bool := false
  /-- rounds in a row at or above 132.0 °C -/
  hot : Nat := 0
  shut : Bool := false
  deriving DecidableEq, Repr

/-- An entry of the error log (R465). -/
structure LogEntry where
  seq : Nat
  typ : Nat
  source : Nat
  cls : Nat
  xcount : Nat
  due : Nat
  arg0 : Nat
  arg1 : Nat
  boot : Nat
  deriving DecidableEq, Repr

/-- Entries of one SOURCE and TYPE within one crystal second (R467). -/
structure LogRate where
  source : Nat
  typ : Nat
  second : Nat
  logged : Nat := 0
  suppressed : Nat := 0
  deriving DecidableEq, Repr

/-- The error log (R465 to R467). -/
structure Log where
  entries : List LogEntry := []
  next : Nat := 0
  boot : Nat := 0
  rates : List LogRate := []
  deriving DecidableEq, Repr

/-- What the umpire holds of a unit's scorecards (R427, R429): the two latest, one in transfer, the records of the two
latest commits, and the commit whose record came last. -/
structure Cards where
  latest : Option Scorecard := none
  previous : Option Scorecard := none
  transfer : Option Scorecard := none
  configs : List ConfigRec := []
  newest : Option Nat := none
  deriving DecidableEq, Repr

/-- A Parnouz response (R132, R133). -/
structure MgtResp where
  tag : Nat := 0
  status : Nat := 7
  data : List Nat := []
  deriving DecidableEq, Repr

/-- The management target (R129 to R135). -/
structure Mgt where
  /-- a request that is not complete: opcode and TAG -/
  pending : Option (Nat × Nat) := none
  resp : MgtResp := {}
  smbus : Bool := false
  /-- the mode that SET_BUS_MODE set, which its response's read puts in force -/
  mode : Option Bool := none
  dyn : Option Nat := none
  static : Nat := 0x58
  /-- events enabled by ENEC and DISEC -/
  events : Nat := 0x0B
  mwl : Nat := 64
  mrl : Nat := 64
  rstact : Nat := 0
  /-- SMBus events whose Alert Response Address read is still to come: MGT_ALERT# is driven low while there is one -/
  alerts : Nat := 0
  /-- READ_SCORECARD's snapshot: unit, choice, scorecard (R135) -/
  snap : Option (Nat × Nat × Option Scorecard) := none
  deriving DecidableEq, Repr

/-- The umpire's watch of a programme (R431): programme of a unit, crystal count of its last reported retirement, crystal periods
from it to 4 × h × τ past the due time of the oldest row that had not retired. -/
structure Watch where
  unit : Nat
  prog : Nat
  at_ : Nat
  span : Nat
  deriving DecidableEq, Repr

/-- An image load in progress (R68): address and length as GO read them, the bytes that engine 41 has brought, the bytes
asked for by its outstanding read (0: none), and a read that has failed. -/
structure ImgLoad where
  addr : Nat
  len : Nat
  got : List Byte := []
  asked : Nat := 0
  /-- crystal count at which the outstanding read times out (R120) -/
  limit : Nat := 0
  failed : Bool := false
  deriving DecidableEq, Repr

/-- The umpire. -/
structure Umpire where
  /-- SUP and MGT registers -/
  bank : RegBank := {}
  /-- VDD_AUX is in range; an AUX reset is in its start-up time (FAULT# low) -/
  on : Bool := true
  starting : Bool := true
  straps : Straps := {}
  pwrGood : Bool := false
  vddHub : Bool := false
  /-- R61 has acted, and the start that follows has not begun -/
  dark : Bool := false
  /-- bank supplies in range: MGT, GPIO, AUD0 to AUD4 -/
  banks : List Bool := List.replicate 7 true
  rails : List Rail := List.replicate 6 {}
  dies : List Die := List.replicate 6 {}
  stackTemps : List (Option Int) := List.replicate 5 none
  /-- stack sensors have been read -/
  seen : Bool := false
  /-- THERM_TRIP# is driven low; crystal count of the last shutdown -/
  trip : Bool := false
  tripAt : Nat := 0
  log : Log := {}
  cards : List Cards := List.replicate 5 {}
  /-- the resident image (R66) -/
  image : Option (List Byte) := none
  loading : Option ImgLoad := none
  mgt : Mgt := {}
  watches : List Watch := []
  /-- lane summaries of the units with their age in rounds (R471) -/
  lanes : List (List Nat × Nat) := List.replicate 5 ([], 0)
  /-- mode of each unit's last configuration record (R469) -/
  modes : List Nat := List.replicate 5 0
  /-- luma coded since the last energy report by units that have left RUN (R460) -/
  lumaGone : Nat := 0
  /-- status summaries latched by access path (R469), scorecard snapshots of SUP_SC by access path -/
  status : List (Path × List Nat) := []
  snaps : List (Path × Nat × Nat × Option Scorecard) := []
  deriving DecidableEq, Repr

/-- Everything but the units. -/
structure Centre where
  hub : Hub := {}
  ump : Umpire := {}
  /-- crystal count since the last AUX reset, in periods of 40 ns -/
  xcount : Nat := 0
  /-- counter of free values -/
  free : Nat := 0
  /-- what the last command put out -/
  out : List Output := []
  deriving DecidableEq, Repr

end Sys2Proof.Machine
end

