-- ==== Sys2Proof/Machine/State.lean ====
section
/-! DEFINITION. The state of the device, its stops, and the state after reset. -/

namespace Sys2Proof.Machine

/-- Why a command could stop the machine. The specification describes what every command does, so no meaning of this
model answers with a fault: safe. -/
inductive Fault where
  /-- Raised by no command. Safe. -/
  | none_
  deriving DecidableEq, Repr

/-- Why a command could be refused. -/
inductive Refusal where
  /-- The command has no meaning in the model yet; raised by its arm of `exec` alone. Safe. -/
  | notModelled (mnemonic : String)
  deriving DecidableEq, Repr

/-- The whole machine: the queue of commands, the channel units, their event queues with the hub's (R97), the power
states with the bench, and the rest of hub and umpire. -/
structure State where
  pending : List Instr := []
  units : List Chan
  /-- event queues of CU0 to CU4, then the hub's -/
  queues : List EventQueue := List.replicate 6 {}
  power : PowerSt := {}
  centre : Centre := {}
  deriving DecidableEq, Repr

/-- Right after VDD_AUX has risen through 1.70 V with every strap low (R52, R53, R55, R75): the umpire starts, AUX_POR is
set, every register holds its Reset value, every unit is COLD, no power is good, the link is down, the queue is empty. -/
def State.reset : State :=
  { units := [Chan.init 0, Chan.init 1, Chan.init 2, Chan.init 3, Chan.init 4]
    centre := { ump := { bank := { regs := [(0x40104, 1#32)] } } } }

end Sys2Proof.Machine
end

