-- ==== Sys2Proof/Machine/Ops.lean ====
section
/-! DEFINITION. The named operations over the whole state: its parts, hub and umpire registers (R53), the event queues
(R96, R97), the error log (R463 to R467), sticky errors and discards of the hub blocks (R86, R93), the power states
(R71). Only this file changes an event queue or a unit's power state. -/

namespace Sys2Proof.Machine

/-! ### Parts of the state -/

def State.chan (s : State) (n : Nat) : Chan := s.units.getD n (Chan.init n)
def State.pw (s : State) (n : Nat) : UnitPower := s.power.units.getD n {}
def State.subst (s : State) : Subst := s.power.subst
def State.hub (s : State) : Hub := s.centre.hub
def State.ump (s : State) : Umpire := s.centre.ump
def State.rail (s : State) (r : Nat) : Rail := s.ump.rails.getD r {}
def State.die (s : State) (d : Nat) : Die := s.ump.dies.getD d {}
def State.card (s : State) (n : Nat) : Cards := s.ump.cards.getD n {}
def State.ring (s : State) (i : Nat) : Ring := s.hub.rings.getD i {}
def State.fn (s : State) (f : Nat) : Function := s.hub.fns.getD f {}
def State.quenchOf (s : State) (n : Nat) : Quench := s.hub.quench.getD n {}

def State.modChan (n : Nat) (f : Chan → Chan) (s : State) : State := { s with units := s.units.modify n f }
def State.modHub (f : Hub → Hub) (s : State) : State := { s with centre := { s.centre with hub := f s.centre.hub } }
def State.modUmp (f : Umpire → Umpire) (s : State) : State := { s with centre := { s.centre with ump := f s.centre.ump } }
def State.modSubst (f : Subst → Subst) (s : State) : State := { s with power := { s.power with subst := f s.power.subst } }
def State.modRing (i : Nat) (f : Ring → Ring) (s : State) : State := s.modHub (fun h => { h with rings := h.rings.modify i f })
def State.modQuench (n : Nat) (f : Quench → Quench) (s : State) : State :=
  s.modHub (fun h => { h with quench := h.quench.modify n f })
def State.modFn (i : Nat) (f : Function → Function) (s : State) : State :=
  s.modHub (fun h => { h with fns := h.fns.modify i f })
def State.modRail (r : Nat) (f : Rail → Rail) (s : State) : State := s.modUmp (fun u => { u with rails := u.rails.modify r f })
def State.modDie (d : Nat) (f : Die → Die) (s : State) : State := s.modUmp (fun u => { u with dies := u.dies.modify d f })
def State.modCards (n : Nat) (f : Cards → Cards) (s : State) : State :=
  s.modUmp (fun u => { u with cards := u.cards.modify n f })
def State.modMgt (f : Mgt → Mgt) (s : State) : State := s.modUmp (fun u => { u with mgt := f u.mgt })

/-- Put something out (R75, R106, R114 and the pins of 02_package_and_signals.md). -/
def State.put (o : Output) (s : State) : State := { s with centre := { s.centre with out := s.centre.out ++ [o] } }

/-- The next free value of the centre, and its counter advanced. -/
def State.freeNat (s : State) : Nat := Config.hubFree s.centre.free
def State.draw (s : State) : State := { s with centre := { s.centre with free := s.centre.free + 1 } }

/-- Crystal periods in a second, and in a millisecond (R441, R467). -/
def xSec : Nat := 25000000
def xMs : Nat := 25000

/-! ### Registers of the hub blocks -/

/-- SUP and MGT are reset with the umpire, HST and DMA with hub and link (R53). -/
def Block.ofUmpire (b : Block) : Bool := b == .sup || b == .mgt

/-- The register bank of a hub block. -/
def State.bankOf (b : Block) (s : State) : RegBank := if b.ofUmpire then s.ump.bank else s.hub.bank

def State.modBank (b : Block) (f : RegBank → RegBank) (s : State) : State :=
  if b.ofUmpire then s.modUmp (fun u => { u with bank := f u.bank }) else s.modHub (fun h => { h with bank := f h.bank })

/-- Value of a field of HST or DMA. -/
def State.hget (s : State) (f : Fld) : Nat := rfGet hubReset s.hub.bank.regs f

/-- Value of a field of SUP or MGT. -/
def State.uget (s : State) (f : Fld) : Nat := rfGet hubReset s.ump.bank.regs f

def State.hset (f : Fld) (v : Nat) (s : State) : State :=
  s.modHub (fun h => { h with bank := { h.bank with regs := rfSet hubReset h.bank.regs f v } })

def State.uset (f : Fld) (v : Nat) (s : State) : State :=
  s.modUmp (fun u => { u with bank := { u.bank with regs := rfSet hubReset u.bank.regs f v } })

/-- Add to a counter, saturating. -/
def State.hbump (f : Fld) (n : Nat) (s : State) : State := s.hset f (satAdd f.w (s.hget f) n)
def State.ubump (f : Fld) (n : Nat) (s : State) : State := s.uset f (satAdd f.w (s.uget f) n)

/-- A field of any hub block. -/
def State.bget (s : State) (b : Block) (f : Fld) : Nat := rfGet hubReset (s.bankOf b).regs f
def State.bset (b : Block) (f : Fld) (v : Nat) (s : State) : State :=
  s.modBank b (fun k => { k with regs := rfSet hubReset k.regs f v })

/-- Entry of a hub ring table: word `i` of ring `r` of the page whose IDX register has key `k`. -/
def State.entry (s : State) (k r i : Nat) : Nat := (storeGet hubReset s.hub.bank.regs (entryKey k r i)).toNat
def State.setEntry (k r i v : Nat) (s : State) : State :=
  s.modHub (fun h => { h with bank := { h.bank with regs := storeSet hubReset h.bank.regs (entryKey k r i) (BitVec.ofNat 32 v) } })

/-! ### Power states (R15, R71) -/

/-- The unit is in HELD or RUN, or on its way there. -/
def UnitPower.up (u : UnitPower) : Bool :=
  u.state == .held || u.state == .run || (match u.move with
    | .start _ => true
    | _ => false)

/-- Units other than `n` in HELD or RUN or on their way there. -/
def State.othersUp (s : State) (n : Nat) : Nat :=
  ((List.range 5).filter (fun m => m != n && (s.pw m).up)).length

/-- Change what the umpire keeps of a unit beside its state and move. -/
def State.modPower (n : Nat) (f : UnitPower → UnitPower) (s : State) : State :=
  { s with power := { s.power with units := s.power.units.modify n (fun u =>
      { f u with state := u.state, move := u.move }) } }

/-- Bring a unit into a state or move that counts as powered: never a fifth one (R15). -/
def State.raise (n : Nat) (st : Power) (mv : Move) (s : State) : State :=
  if 4 ≤ s.othersUp n then s
  else { s with power := { s.power with units := s.power.units.modify n (fun u => { u with state := st, move := mv }) } }

/-- Take a unit to COLD or PARKED. -/
def State.lower (n : Nat) (park : Bool) (s : State) : State :=
  { s with power := { s.power with units := s.power.units.modify n (fun u =>
      { u with state := if park then .parked else .cold, move := .none, forced := false }) } }

/-- A powered unit comes to HELD, in unit reset: for good, or for the rest of its stop. DEDUCED (log entry 39): STATE shows
HELD, powered and in unit reset (R71), from the first steps of R73 until the stop ends. -/
def State.hold (n : Nat) (mv : Move) (s : State) : State :=
  { s with power := { s.power with units := s.power.units.modify n (fun u =>
      if u.up then { u with state := .held, move := mv } else u) } }

/-- The unit is in RUN and not on its way elsewhere: its registers and memory are reached. -/
def State.running (s : State) (n : Nat) : Bool := (s.pw n).state == .run && (s.pw n).move == .none

/-- Change a unit that is in RUN. -/
def State.modRun (n : Nat) (f : Chan → Chan) (s : State) : State := if s.running n then s.modChan n f else s

/-- Mode of a unit as the umpire takes it for R430: 0 outside RUN. -/
def State.modeOf (s : State) (n : Nat) : Nat := if s.running n then (s.chan n).mode else 0

/-! ### The error log (R463 to R467) -/

/-- Write an entry: it overwrites the oldest of its slot (R465). -/
def State.logRaw (typ source cls due a0 a1 : Nat) (s : State) : State :=
  s.modUmp (fun u =>
    let l := u.log
    let e : LogEntry := { seq := l.next, typ := typ, source := source, cls := cls, xcount := s.centre.xcount, due := due
                          arg0 := a0 % 2 ^ 32, arg1 := a1 % 2 ^ 32, boot := l.boot }
    { u with log := { l with
        entries := l.entries.filter (fun x => x.seq % 1024 != l.next % 1024) ++ [e], next := (l.next + 1) % 2 ^ 32 } })

/-- The SUPPRESSED entry of a SOURCE and TYPE (R464, R467), if entries were suppressed. -/
def State.logSuppressed (source typ : Nat) (s : State) : State :=
  match s.ump.log.rates.find? (fun r => r.source == source && r.typ == typ) with
  | some r =>
    if r.suppressed = 0 then s
    else (s.logRaw 0x0E03 0xF 7 0 (typ + source * 2 ^ 16) r.suppressed).modUmp (fun u => { u with log := { u.log with
      rates := u.log.rates.map (fun x => if x.source == source && x.typ == typ then { x with suppressed := 0 } else x) } })
  | none => s

/-- Write an entry under the limit of R467: eight of a SOURCE and TYPE in each crystal second. -/
def State.logAdd (typ source cls due a0 a1 : Nat) (s : State) : State :=
  let now := s.centre.xcount / xSec
  let setRate (r : LogRate) (s : State) : State := s.modUmp (fun u => { u with log := { u.log with
    rates := u.log.rates.filter (fun x => !(x.source == source && x.typ == typ)) ++ [r] } })
  match s.ump.log.rates.find? (fun r => r.source == source && r.typ == typ && r.second == now) with
  | some r =>
    if r.logged < 8 then (s.logRaw typ source cls due a0 a1) |> setRate { r with logged := r.logged + 1 }
    else setRate { r with suppressed := r.suppressed + 1 } s
  | none =>
    ((s.logSuppressed source typ).logRaw typ source cls due a0 a1)
      |> setRate { source := source, typ := typ, second := now, logged := 1 }

/-- Set a bit of SUP_FAULT_STAT (R468). -/
def State.fault (f : Fld) (s : State) : State := s.uset f 1

/-- Fault class of an event (R463), 0 for none. `role`: ROLE of the decoder's stop record; `extra`: extra time of the
programme named by a ROW_LATE. -/
def faultClass (typ a0 a1 role extra : Nat) : Nat :=
  if typ = 0x0C03 ∨ typ = 0x0B05 then 1
  else if typ = 0x0B01 ∨ typ = 0x0B03 ∨ typ = 0x0B04 then 2
  else if typ = 0x0701 ∨ typ = 0x0402 then 3
  else if typ = 0x0601 ∨ (typ = 0x0602 ∧ role = 1) ∨ (typ = 0x0201 ∧ extra < a1) then 4
  else if typ = 0x0C05 ∨ (typ = 0x0C04 ∧ 4 ≤ a0 ∧ a0 ≤ 8) then 5
  else if typ = 0x0C01 ∨ typ = 0x0C02 then 6
  else 0

/-- The bit of SUP_FAULT_STAT that an event sets by its type (19, SUP page 1). -/
def faultBit (typ cls : Nat) : Option Fld :=
  if typ = 0x0C03 then some Reg.SUP_FAULT_STAT_ISOLATED
  else if typ = 0x0B03 then some Reg.SUP_FAULT_STAT_THERM
  else if cls = 4 ∧ typ ≠ 0x0201 then some Reg.SUP_FAULT_STAT_VERIFY
  else if cls = 5 then some Reg.SUP_FAULT_STAT_IMAGE
  else if typ = 0x0B05 then some Reg.SUP_FAULT_STAT_AVS
  else if typ = 0x0B04 then some Reg.SUP_FAULT_STAT_SENSOR
  else none

/-- An event of a fault class is logged, whatever happens to its record (R97, R463). -/
def State.faultEvent (typ source due a0 a1 role extra : Nat) (s : State) : State :=
  let cls := faultClass typ a0 a1 role extra
  if cls = 0 then s
  else
    let s := s.logAdd typ source cls due a0 a1
    match faultBit typ cls with
    | some f => s.fault f
    | none => s

/-! ### Event queues (R96, R97) -/

/-- Records a queue holds (R97). -/
def queueSize : Nat := 256

/-- A record enters queue `q`, or is dropped at a full queue; `drop` counts it. -/
def State.enqueue (q : Nat) (r : EventRec) (drop : State → State) (s : State) : State :=
  let e := s.queues.getD q {}
  if e.recs.length < queueSize then
    { s with queues := s.queues.set q { recs := e.recs ++ [{ r with overflow := e.overflow }], overflow := false } }
  else drop { s with queues := s.queues.set q { e with overflow := true } }

/-- Take the oldest record off queue `q`. -/
def State.dequeue (q : Nat) (s : State) : State :=
  { s with queues := s.queues.modify q (fun e => { e with recs := e.recs.drop 1 }) }

/-- Reset queue `q`. -/
def State.clearQueue (q : Nat) (s : State) : State := { s with queues := s.queues.set q {} }

/-- Post an event of unit `n` (R97, R99): `all` passes every filter. -/
def State.unitEvent (n typ block a0 a1 : Nat) (all : Bool) (s : State) : State :=
  let c := s.chan n
  let s := s.faultEvent typ n c.tick a0 a1 (c.get (Reg.DEC_STOP_VALUE 4) % 16) (c.prog (a0 / 2 ^ 24)).cfg.extra
  if all || bitAt (storeGet unitReset c.bank.regs 0x1A0100).toNat (typ / 256) then
    let r : EventRec := { typ := typ, src := n, timebase := false, overflow := false, block := block
                          seq := c.get Reg.EVT_SEQ_NEXT, time := time96 c.now, due := c.tick, arg0 := a0, arg1 := a1 }
    (s.modChan n (fun c => c.inc Reg.EVT_SEQ_NEXT)).enqueue n r
      (fun s => s.modChan n (fun c => c.bump Reg.EVT_DROPPED_COUNT))
  else s.modChan n (fun c => c.bump Reg.EVT_FILTERED_COUNT)

/-- The record of a hub event enters the hub queue, stamped with the crystal count (R96). -/
def State.hubRecord (typ : Nat) (b : Block) (a0 a1 : Nat) (s : State) : State :=
  let r : EventRec := { typ := typ, src := 0xF, timebase := true, overflow := false, block := b.code
                        seq := s.hget Reg.HST_EVT_SEQ_NEXT, time := s.centre.xcount % 2 ^ 64, due := 0
                        arg0 := a0 % 2 ^ 32, arg1 := a1 % 2 ^ 32 }
  (s.hset Reg.HST_EVT_SEQ_NEXT (s.hget Reg.HST_EVT_SEQ_NEXT + 1)).enqueue 5 r (fun s => s.hbump Reg.HST_EVT_DROPPED_COUNT 1)

/-- Post an event on the hub queue (R96). A hub in reset queues nothing (R53). -/
def State.hubEvent (typ : Nat) (b : Block) (a0 a1 : Nat) (all : Bool) (s : State) : State :=
  let s := s.faultEvent typ 0xF 0 (a0 % 2 ^ 32) (a1 % 2 ^ 32) 0 0
  if !s.hub.ready then s
  else if all || bitAt (storeGet hubReset s.hub.bank.regs 0x1100).toNat (typ / 256) then s.hubRecord typ b a0 a1
  else s.hbump Reg.HST_EVT_FILTERED_COUNT 1

/-- An ordinary hub event. -/
def State.post (typ : Nat) (b : Block) (a0 a1 : Nat) (s : State) : State := s.hubEvent typ b a0 a1 false

/-! ### Sticky errors and discards of the hub blocks (R84, R86, R93) -/

/-- Record an error of a hub block: the first since CODE was last NONE is kept, every one is counted. -/
def State.hubErr (b : Block) (code off path : Nat) (s : State) : State :=
  let s := s.bset b (errCount b) (satAdd 32 (s.bget b (errCount b)) 1)
  if s.bget b (errCode b) = 0 then
    ((s.bset b (errCode b) code).bset b (errInfo b) (off % 2 ^ 26 + path * 2 ^ 26)).bset b (intRaw b)
      (setBitsOf (s.bget b (intRaw b)) 31 1 1)
  else s

/-- The event type that bears the name of a sticky code (R93); none for the codes that post none there. -/
def codeEvent (code : Nat) : Option Nat :=
  if 1 ≤ code ∧ code ≤ 5 then some code
  else if code = codeBUSY then some 0x0008
  else if code = codeBENCH_UNIT then some 0x0009
  else if code = codeSERVICE_LIMIT then some 0x000A
  else if code = codeAVS_FAULT then some 0x000B
  else if code = codeNO_IMAGE then some 0x000E
  else none

/-- A write or command of a hub block is discarded whole (R93): `arg1` is the value written. -/
def State.discardHub (b : Block) (code off path arg1 : Nat) (s : State) : State :=
  let s := s.hubErr b code off path
  match codeEvent code with
  | some t => s.post t b off arg1
  | none => s

/-- The same of a unit block: `off` is the BAR0 offset. -/
def discardUnit (b : Block) (code off path arg1 : Nat) (c : Chan) : Chan :=
  let c := c.err b code off path
  match codeEvent code with
  | some t => c.post t b off arg1
  | none => c

end Sys2Proof.Machine
end

