-- ==== Sys2Proof/Machine/Operands.lean ====
section
/-! DEFINITION. What the operands of accesses name, and the records that leave the device: where a BAR0 offset of an access
path lies (R76, R104, R105), rings and engines (R111), descriptors (R114), event records (R96), log entries (R465),
scorecards (R428). -/

namespace Sys2Proof.Machine

/-! ### Functions, paths and offsets -/

/-- Virtual function n + 1 exists (R104). -/
def State.vfExists (s : State) (n : Nat) : Bool := s.hub.vfEnable && decide (n + 1 ≤ s.hub.numVfs)

/-- The function that issues the requests of unit `n`'s engines and vectors (R106, R123). -/
def State.unitFn (s : State) (n : Nat) : Nat := if s.vfExists n then n + 1 else 0

/-- PCI Express requests reach the hub: it is ready, the link is in L0 and PERST# is high. -/
def State.linkUp (s : State) : Bool := s.hub.ready && s.hub.perst && s.hub.link && s.hget Reg.HST_LINK_STAT_LTSSM == 3

/-- The data link is up, and the engines of a ready hub go on, in L0 and in Recovery (R100, R128). -/
def State.dlUp (s : State) : Bool :=
  s.hub.ready && s.hub.perst && s.hub.link && (s.hget Reg.HST_LINK_STAT_LTSSM == 3 || s.hget Reg.HST_LINK_STAT_LTSSM == 4)

/-- Bytes of Max Payload Size and Max Read Request Size by their codes (R101). -/
def payloadSize (code : Nat) : Nat := 128 * 2 ^ code

/-- Ordering attributes of the data reads and writes of function `f` (R101). -/
def State.attrOf (s : State) (f : Nat) : DmaAttr := { relaxed := (s.fn f).relaxed, noSnoop := (s.fn f).noSnoop }

/-- Errors that AER logs (R101): 0 completion timeout, 1 poisoned TLP, 2 unexpected completion, 3 unsupported request. -/
def State.aer (f k : Nat) (s : State) : State := s.modFn f (fun x => { x with aer := x.aer.set k true })

/-- A register access on a path arrives (R54, R81, R104, R134): over PCI Express with the link up and the function in
D0, over the management bus with the hub ready and both supplies of R35. -/
def State.arrives (s : State) (p : Path) : Bool :=
  match p with
  | .pf => s.linkUp && !(s.fn 0).d3
  | .vf n => s.linkUp && s.vfExists n.val && !(s.fn (n.val + 1)).d3
  | .mgt => s.hub.ready && s.ump.banks.getD 0 true

/-- Where an access goes. -/
inductive Target where
  /-- an offset in the hub's 16 MiB -/
  | hub (off : Nat)
  /-- an offset in a unit window -/
  | unit (n off : Nat)
  /-- no block is assigned there (R79) -/
  | none (off : Nat)
  deriving DecidableEq, Repr

/-- Where a PF BAR0 offset lies (R76). -/
def pfTarget (off : Nat) : Target :=
  if off < 0x01000000 then .hub off
  else if off < 0x03800000 then .unit ((off - 0x01000000) / 0x00800000) ((off - 0x01000000) % 0x00800000)
  else .none off

/-- Where a BAR0 offset of a path lies (R76, R104). -/
def target (p : Path) (off : Nat) : Target :=
  match p with
  | .vf n =>
    if off < 0x00800000 then .unit n.val off
    else if off < 0x00801000 then .hub (0x2000 + 0x1000 * n.val + off % 0x1000)
    else if 0x00810000 ≤ off ∧ off < 0x00818000 then .hub (0x10000 + 0x8000 * n.val + (off - 0x00810000))
    else .none off
  | _ => pfTarget off

/-- The PF BAR0 offset of a target (R105). -/
def Target.off : Target → Nat
  | .hub o => o
  | .unit n o => bar0Unit n o
  | .none o => o

/-- BAR0 size of a path: a request beyond it is not one of the device's. -/
def barSize (p : Path) : Nat :=
  match p with
  | .vf _ => 0x01000000
  | _ => 0x04000000

/-! ### Rings and engines (R111, R112) -/

/-- Index of ring `r` of unit `n`, and of hub ring 0. -/
def ringIx (u : Option (Fin 5)) (r : Nat) : Nat :=
  match u with
  | some n => 32 * n.val + r
  | none => 160

/-- The ring exists: every ring of a unit page but 31 is bound to an engine. -/
def ringUnit (i : Nat) : Option Nat := if i < 160 then some (i / 32) else none

/-- The function whose Routing ID the requests of a ring's engine carry (R106); 0 for the image engine too. -/
def State.ringFn (s : State) (i : Nat) : Nat :=
  match ringUnit i with
  | some n => s.unitFn n
  | none => 0

/-- Engine that serves a ring. -/
def ringEngine (i : Nat) : Nat :=
  if i < 160 then
    let r := i % 32
    8 * (i / 32) + (if r ≤ 3 then r else if r ≤ 12 then 4 else if r ≤ 20 then 5 else if r ≤ 28 then 6 else 7)
  else 40

/-- To-device rings: frame input and stream input. -/
def ringInput (i : Nat) : Bool := decide (i < 160) && decide (i % 32 ≤ 4)

/-- Event rings. -/
def ringEvents (i : Nat) : Bool := decide (i = 160) || (decide (i < 160) && decide (i % 32 = 29))

/-- Key of the ring table's IDX register, entry of the table, and key of the doorbell. -/
def ringKey (i : Nat) : Nat := if i < 160 then 0x2110 + 0x1000 * (i / 32) else 0x7110
def ringEntry (i : Nat) : Nat := if i < 160 then i % 32 else 0
def ringDb (i : Nat) : Fld := if i < 160 then Reg.HST_DB_PI (i / 32) (i % 32) else Reg.HST_HDB_PI

/-- Words of the ring table (05, unit ring page). -/
def State.ringWord (s : State) (i w : Nat) : Nat := s.entry (ringKey i) (ringEntry i) w
def State.setRingWord (i w v : Nat) (s : State) : State := s.setEntry (ringKey i) (ringEntry i) w v
def State.ringCi (s : State) (i : Nat) : Nat := s.ringWord i 0
def State.ringPi (s : State) (i : Nat) : Nat := s.hget (ringDb i)
def State.ringBase (s : State) (i : Nat) : Nat := s.ringWord i 2 + 2 ^ 32 * s.ringWord i 3
def State.ringSize (s : State) (i : Nat) : Nat := 2 ^ bitsOf (s.ringWord i 4) 0 5
def State.ringOn (s : State) (i : Nat) : Bool := bitAt (s.ringWord i 5) 17
/-- Descriptors posted and not consumed. -/
def State.ringPosted (s : State) (i : Nat) : Nat := (s.ringPi i + 2 ^ 32 - s.ringCi i) % 2 ^ 32
/-- Host address of the descriptor at the consumer index (R112). -/
def State.ringHead (s : State) (i : Nat) : Nat := s.ringBase i + 64 * (s.ringCi i % s.ringSize i)

/-- A descriptor from its 64 bytes (R114). -/
def parseDescr (bs : List Byte) : Descr :=
  let ctl := ((bs.drop 12).headD 0#8).toNat
  { addr := ofBytesLE (bs.take 8), length := wordAt bs 8, int := bitAt ctl 0, inline_ := bitAt ctl 1, timed := bitAt ctl 2
    param := (bs.drop 16).take 32, clean := decide (ctl < 8) && (bs.drop 13).headD 0#8 == 0#8 }

/-- The 16 completion bytes (R114, R115). -/
def completionBytes (len status due rseq : Nat) (phase : Bool) : List Byte :=
  bytesLE 4 len ++ bytesLE 1 status ++ bytesLE 1 (b2n phase) ++ [0#8, 0#8] ++ bytesLE 4 due ++ bytesLE 4 rseq

/-! ### Records -/

/-- The 32 bytes of an event record (R96). -/
def eventBytes (e : EventRec) : List Byte :=
  bytesLE 2 e.typ ++ bytesLE 1 (e.src + 64 * b2n e.timebase + 128 * b2n e.overflow) ++ bytesLE 1 e.block ++
    bytesLE 4 e.seq ++ bytesLE 12 e.time ++ bytesLE 4 e.due ++ bytesLE 4 e.arg0 ++ bytesLE 4 e.arg1

/-- The 32 bytes of a log entry (R465). -/
def logBytes (e : LogEntry) : List Byte :=
  let b := bytesLE 4 e.seq ++ bytesLE 2 e.typ ++ bytesLE 1 e.source ++ bytesLE 1 e.cls ++ bytesLE 8 e.xcount ++
    bytesLE 4 e.due ++ bytesLE 4 e.arg0 ++ bytesLE 4 e.arg1 ++ bytesLE 2 e.boot
  b ++ bytesLE 2 (crc16 b)

/-- A slot of the log: an entry never written reads as zeros. -/
def State.logSlot (s : State) (i : Nat) : List Byte :=
  match s.ump.log.entries.find? (fun e => e.seq % 1024 == i) with
  | some e => logBytes e
  | none => List.replicate 32 0#8

/-- Bytes cut or filled with zeros to `n`. -/
def fit (n : Nat) (bs : List Byte) : List Byte := (bs ++ List.replicate (n - bs.length) 0#8).take n

/-- A programme record (R428). -/
def progBytes (r : ScoreProg) : List Byte :=
  fit 0x80 (bytesLE 1 (b2n r.enabled + 2 * b2n r.departed) ++ bytesLE 1 r.epoch ++ bytesLE 2 r.sid ++ bytesLE 4 r.seq ++
    bytesLE 12 (time96 r.depart) ++ bytesLE 4 r.poc ++ bytesLE 2 r.frame ++ bytesLE 1 r.pos ++ [0#8] ++
    bytesLE 2 (min r.params.length 760) ++ bytesLE 2 r.psi ++ bytesLE 8 r.pics ++ bytesLE 8 r.bits ++ bytesLE 4 r.last)

/-- A whole scorecard (R428). -/
def cardBytes (k : Scorecard) : List Byte :=
  let head := bytesLE 4 0x53434F52 ++ bytesLE 2 1 ++ bytesLE 1 k.unit ++ bytesLE 1 k.mode ++ bytesLE 4 k.number ++
    bytesLE 4 k.commit ++ fit 4 (bytesLE 2 k.frame) ++ bytesLE 4 k.tick ++ bytesLE 12 (time96 k.time) ++
    bytesLE 8 k.xcount ++ bytesLE 8 k.ratio ++ bytesLE 4 k.freq ++ bytesLE 8 (patternOf 64 k.offset) ++
    bytesLE 12 (time96 k.t0.toNat) ++ bytesLE 1 k.timState
  let progs := ((List.range 8).map (fun p => progBytes (k.progs.getD p {}))).flatten
  let layers := ((List.range 32).map (fun i =>
    let l := k.layers.getD i {}
    bytesLE 8 l.addr ++ bytesLE 4 l.pos ++ bytesLE 2 l.alpha ++ bytesLE 2 l.frame)).flatten
  let audio := ((List.range 8).map (fun i =>
    let a := k.audio.getD i {}
    fit 0x10 (bytesLE 2 a.mask ++ bytesLE 2 a.state ++ bytesLE 4 a.frames ++ bytesLE 4 a.words))).flatten
  let slots := ((List.range 8).map (fun p => fit 0x2F8 ((k.progs.getD p {}).params.take 760))).flatten
  let body := fit 0x1FFC (fit 0x800 (fit 0x100 head ++ progs ++ layers ++ audio) ++ slots)
  body ++ bytesLE 4 (crc32 body)

/-- 64 bytes of a scorecard, zeros where none is held (R135, SUP_SC). -/
def cardChunk (k : Option Scorecard) (i : Nat) : List Byte :=
  match k with
  | some k => (cardBytes k |>.drop (64 * i)).take 64
  | none => List.replicate 64 0#8

/-- Latest (0) or previous (1) scorecard of a unit. -/
def State.cardOf (s : State) (n w : Nat) : Option Scorecard := if w = 0 then (s.card n).latest else (s.card n).previous

/-- The umpire's copy of a lane summary (R471): all zero but byte 0 while the unit is not in RUN. -/
def State.laneCopy (s : State) (n : Nat) : List Nat :=
  let l := (s.ump.lanes.getD n ([], 0)).1
  if l.isEmpty then n :: List.replicate 47 0 else l

/-- Word `k` of a list of bytes. -/
def wordOfNats (l : List Nat) (k : Nat) : Nat :=
  l.getD (4 * k) 0 + 2 ^ 8 * l.getD (4 * k + 1) 0 + 2 ^ 16 * l.getD (4 * k + 2) 0 + 2 ^ 24 * l.getD (4 * k + 3) 0

end Sys2Proof.Machine
end

