-- ==== Sys2Proof/Machine/Flags.lean ====
section
/-! DEFINITION. What the device derives from its state: interrupt vectors (R84, R121 to R123), FAULT# with its signals
(R468, R129, R130), the status summary (R469), and the status registers that no command stores. -/

namespace Sys2Proof.Machine

/-! ### MSI-X (R121 to R123) -/

/-- What a word of an MSI-X table reads as when nothing has written it: every vector is masked. -/
def msixReset (k : Nat) : Word := if k % 16 = 12 then 1#32 else 0#32

/-- Word at byte offset `o` of the table of function `f`. -/
def State.msixWord (s : State) (f o : Nat) : Word := storeGet msixReset s.hub.msix (f * 2 ^ 16 + o)

/-- Vectors of a function's table. -/
def msixSize (f : Nat) : Nat := if f = 0 then 2048 else 384

/-- Signal vector `v` of function `f`: sent at once, or pending while it is masked. -/
def State.signalVec (f v : Nat) (s : State) : State :=
  let k := s.fn f
  if !k.msixOn || !k.busMaster || k.d3 || !s.dlUp then s
  else if k.msixMask || bitAt (s.msixWord f (16 * v + 12)).toNat 0 then
    if s.hub.pend.contains (f, v) then s else s.modHub (fun h => { h with pend := h.pend ++ [(f, v)] })
  else
    let a := (s.msixWord f (16 * v)).toNat + 2 ^ 32 * (s.msixWord f (16 * v + 4)).toNat
    s.put (.msix f v a (s.msixWord f (16 * v + 8)).toNat)

/-- Vectors pending on function `f` that are masked no longer are sent. -/
def State.sendPending (f : Nat) (s : State) : State :=
  let l := s.hub.pend.filter (fun e => e.1 == f)
  l.foldl (fun s e => s.signalVec e.1 e.2) (s.modHub (fun h => { h with pend := h.pend.filter (fun e => e.1 != f) }))

/-- Signal local vector `v` of the hub, or of unit `n` (R121, R123). -/
def State.signal (n : Option Nat) (v : Nat) (s : State) : State :=
  match n with
  | none => s.signalVec 0 v
  | some n => if s.vfExists n then s.signalVec (n + 1) v else s.signalVec 0 (128 + 384 * n + v)

/-! ### Block interrupts -/

/-- Codes of the blocks whose xxx_INT_MASKED is nonzero in a register file. -/
def maskedBlocks (bs : List Block) (rst : Nat → Word) (l : RegFile) : List Nat :=
  (bs.filter (fun b => l.any (fun e => e.1 == b.common 0x020 && (e.2 &&& storeGet rst l (b.common 0x024)) != 0#32))).map
    Block.code

/-- The blocks whose INT_MASKED is nonzero: hub blocks by code, blocks of unit n by 256 (n + 1) more. -/
def State.masked (s : State) : List Nat :=
  maskedBlocks [.hst, .dma] hubReset s.hub.bank.regs ++ maskedBlocks [.sup, .mgt] hubReset s.ump.bank.regs ++
    (List.range 5).flatMap (fun n =>
      if s.running n then (maskedBlocks unitBlocks unitReset (s.chan n).bank.regs).map (· + 256 * (n + 1)) else [])

/-- Signal the vector of each block whose INT_MASKED has become nonzero (R122). -/
def State.interrupts (s : State) : State :=
  let now := s.masked
  let fresh := now.filter (fun k => !s.hub.intUp.contains k)
  let s := fresh.foldl (fun s k =>
    if k < 256 then s.signal none k else s.signal (some (k / 256 - 1)) (32 + (k % 256 - 0x10))) s
  if s.hub.intUp = now then s else s.modHub (fun h => { h with intUp := now })

/-! ### FAULT# and the management signals -/

/-- FAULT# is driven low (R57, R75, R468): during an AUX reset until its release 12 ms after, under TEST_MODE, or for an
enabled fault. -/
def State.faultLow (s : State) : Bool :=
  s.ump.on && (s.ump.straps.test || (s.ump.starting && decide (s.centre.xcount < 300000)) ||
    (storeGet hubReset s.ump.bank.regs 0x41140 &&& storeGet hubReset s.ump.bank.regs 0x41144) != 0#32)

/-- THERM_TRIP# is driven low (R452). -/
def State.tripLow (s : State) : Bool := s.ump.on && s.ump.trip

/-- The management bus works (R35, R59). -/
def State.mgtUp (s : State) : Bool := s.ump.on && s.ump.banks.getD 0 true

/-- Raise a management event (R129, R130): an in-band interrupt with its data byte, if enabled and an address is
assigned, or MGT_ALERT#. -/
def State.mgtSignal (mdb : Nat) (s : State) : State :=
  if !s.mgtUp then s
  else if s.ump.mgt.smbus then s.modMgt (fun m => { m with alerts := m.alerts + 1 })
  else if bitAt s.ump.mgt.events 0 && s.ump.mgt.dyn.isSome then s.put (.i3cInterrupt mdb)
  else s

/-- What a command's own effects bring with them: block vectors, and the signal of a fall of FAULT#. -/
def State.finish (before s : State) : State :=
  let s := if s.hub.powered then s.interrupts else s
  if s.faultLow && !before.faultLow then s.mgtSignal 0x02 else s

/-! ### Status words (03, 05, 17, 18, 19) -/

def State.trained (s : State) (n : Nat) : Bool := (s.pw n).trained

/-- The unit shows as the bench unit (SUP_UNIT_STATn). -/
def State.isBench (s : State) (n : Nat) : Bool := s.subst.bench == n && s.trained n

def State.unitStat (s : State) (n : Nat) : Nat :=
  (s.pw n).state.code + 4 * b2n (s.trained n) + 8 * b2n (s.isBench n) + 16 * b2n (s.pw n).isolated +
    256 * (s.pw n).cause

def State.avsStat (s : State) (r : Nat) : Nat :=
  (s.rail r).target + 2 ^ 10 * (s.rail r).measured + 2 ^ 20 * b2n (s.rail r).noresp

def State.substStat (s : State) : Nat :=
  let x := s.subst
  x.state + 4 * b2n x.benchEn + 16 * x.sel + 2 ^ 8 * x.failed + 2 ^ 12 * x.server + 2 ^ 16 * x.trigger + 2 ^ 24 * x.reason

/-- A configuration record matches the latest scorecard's COMMIT; CONFIG stays clear while a record that failed to come
has none after it (R474). -/
def Cards.matched (k : Cards) : Bool :=
  k.newest.isSome && match k.latest with
  | some sc => k.configs.any (fun c => c.commit == sc.commit)
  | none => false

def State.cardStat (s : State) (n : Nat) : Nat :=
  let k := s.card n
  b2n k.latest.isSome + 2 * b2n k.previous.isSome + 4 * b2n k.matched + 2 ^ 16 * ((k.latest.map (·.frame)).getD 0)

/-- SUP_TEMPd and SUP_RAWd of a die (0 to 5): zero before the first round, the SHUT bit apart. -/
def State.dieTemp (s : State) (d : Nat) : Nat :=
  let x := s.die d
  (if x.seen then patternOf 16 x.temp + 2 ^ 16 * b2n x.raw.isSome + 2 ^ 17 * b2n x.suspect + 2 ^ 18 * b2n x.warn else 0) +
    2 ^ 19 * b2n x.shut

/-- A temperature in 16 bits, 0x8000 for none. -/
def rawOf (t : Option Int) : Nat :=
  match t with
  | some t => patternOf 16 t
  | none => 0x8000

def State.dieRaw (s : State) (d : Nat) : Nat :=
  let x := s.die d
  if x.seen then rawOf x.raw + 2 ^ 16 * rawOf x.est else 0

/-- The same of a stack: its effective temperature is its reading; with the reading absent the specification states none,
and TEMP is a free value. -/
def State.stackTemp (s : State) (k : Nat) : Nat :=
  if s.ump.seen then
    match s.ump.stackTemps.getD k none with
    | some t => patternOf 16 t + 2 ^ 16
    | none => s.freeNat % 2 ^ 16
  else 0

def State.stackRaw (s : State) (k : Nat) : Nat :=
  if s.ump.seen then rawOf (s.ump.stackTemps.getD k none) + 2 ^ 16 * 0x8000 else 0

/-- Engine states (DMA_ENG_STAT): a unit's engine is quenched or waits for the link; engines 42 and 43 stay idle. -/
def State.engineUnit (e : Nat) : Option Nat := if e < 40 then some (e / 8) else none

/-- The link pauses an engine (R102, R128): the data link is down, or its function is in D3hot, or may not master the
bus. DEDUCED (log entry 77): such an engine reads as LINK_WAIT, before the first link-up as well. -/
def State.engineWaits (s : State) (e : Nat) : Bool :=
  let f := match State.engineUnit e with
    | some n => s.unitFn n
    | none => 0
  !s.hub.link || (s.fn f).d3 || !(s.fn f).busMaster

/-- The rings of an engine whose reads are outstanding. -/
def Ring.reading (r : Ring) : Bool :=
  match r.stage with
  | .fetch => true
  | .read .. => true
  | _ => false

def Ring.busy (r : Ring) : Bool :=
  match r.stage with
  | .idle => false
  | _ => true

/-- Rings served by an engine. -/
def engineRings (e : Nat) : List Nat := (List.range 161).filter (fun i => ringEngine i == e && i % 32 != 31)

/-- Engine 41 loads an image, and whether its read is outstanding (R111). -/
def State.imgBusy (s : State) (e : Nat) : Bool := e == 41 && s.ump.loading.any (fun l => !l.failed)
def State.imgReading (s : State) (e : Nat) : Bool := e == 41 && s.ump.loading.any (fun l => l.asked != 0)

def State.engStat (s : State) (e : Nat) : Nat :=
  let rs := (engineRings e).map s.ring
  let reads := (rs.filter Ring.reading).length + b2n (s.imgReading e)
  let q := match State.engineUnit e with
    | some n => (s.quenchOf n).on
    | none => false
  (if s.engineWaits e then 3 else if q then 2 else if rs.any Ring.busy || s.imgBusy e then 1 else 0) +
    2 ^ 16 * reads

def State.quenchStat (s : State) (n : Nat) : Nat := b2n (s.quenchOf n).on + 2 * b2n (s.quenchOf n).stopped

def State.mgtMode (s : State) : Nat :=
  let m := s.ump.mgt
  b2n m.smbus + 2 * b2n m.dyn.isSome + 4 * m.dyn.getD 0 + 2 ^ 9 * m.static

/-- The 32 bytes of the status summary (R469). -/
def State.summary (s : State) : List Nat :=
  let u := s.ump
  let le (n x : Nat) : List Nat := (bytesLE n x).map BitVec.toNat
  let temps : List Int :=
    (List.range 5).filterMap (fun n => if (s.pw n).state == .held || (s.pw n).state == .run then some (s.die n).temp else none)
  let hottest := temps.foldl max (s.die 5).temp
  [1, b2n u.pwrGood + 2 * b2n u.vddHub + 4 * b2n (s.hget Reg.HST_LINK_STAT_LTSSM == 3) + 8 * b2n s.faultLow +
      16 * b2n s.tripLow + 32 * b2n u.straps.test] ++
    le 2 u.log.boot ++ le 4 u.log.next ++
    (List.range 5).map (fun n => (s.pw n).state.code + 4 * b2n (s.isBench n) + 8 * b2n (s.pw n).isolated +
      16 * u.modes.getD n 0) ++
    [s.subst.state + 4 * s.subst.failed + 32 * s.subst.server, s.subst.bench,
      (List.range 6).foldl (fun x d => x + b2n (s.die d).shut * 2 ^ d) 0 +
        64 * b2n (u.dies.any (·.warn)) + 128 * b2n (u.dies.any (·.suspect))] ++
    (List.range 5).map (fun n =>
      let c := s.chan n
      (if s.running n then c.get Reg.HKP_THERM_CEIL + 8 * c.get Reg.MEM_STAT_STORM else 0) +
        16 * b2n (s.card n).latest.isSome + 32 * min 7 (u.lanes.getD n ([], 0)).2) ++
    [0] ++ le 2 (patternOf 16 hottest) ++ le 4 (storeGet hubReset u.bank.regs 0x41140).toNat ++ le 4 s.centre.xcount

/-- The latched summary of a path; zero before its first read of SUP_STATUS0. -/
def State.statusLatch (s : State) (p : Path) : List Nat := ((s.ump.status.find? (fun e => e.1 == p)).map (·.2)).getD []

/-- Words of hub registers that no command stores, by offset; none: the stored word. -/
def State.hubView (s : State) (p : Path) (off : Nat) : Option Nat :=
  let t := s.ump.straps
  if off = 0x40100 then some (t.addr + 4 * b2n t.smb + 8 * t.link + 32 * b2n t.test)
  else if 0x40130 ≤ off ∧ off < 0x40144 then some (s.unitStat ((off - 0x40130) / 4))
  else if off = 0x40164 then some ((s.ump.image.map imgVersion).getD 0)
  else if 0x40170 ≤ off ∧ off < 0x40188 then some (s.avsStat ((off - 0x40170) / 4))
  else if off = 0x41130 then some s.ump.log.next
  else if 0x42110 ≤ off ∧ off < 0x42124 then some (s.cardStat ((off - 0x42110) / 4))
  else if off = 0x43100 then some s.subst.bench
  else if off = 0x4310C then some s.substStat
  else if 0x44100 ≤ off ∧ off < 0x44120 then some (wordOfNats (s.statusLatch p) ((off - 0x44100) / 4))
  else if 0x45100 ≤ off ∧ off < 0x45118 then some (s.dieTemp ((off - 0x45100) / 4))
  else if 0x45120 ≤ off ∧ off < 0x45134 then some (s.stackTemp ((off - 0x45120) / 4))
  else if 0x45140 ≤ off ∧ off < 0x45158 then some (s.dieRaw ((off - 0x45140) / 4))
  else if 0x45160 ≤ off ∧ off < 0x45174 then some (s.stackRaw ((off - 0x45160) / 4))
  else if off = 0x45184 then some (b2n s.tripLow)
  else if off = 0x50100 then some s.mgtMode
  else if off = 0x1104 then some (s.queues.getD 5 {}).recs.length
  else if 0x2000 ≤ off ∧ off < 0x7000 ∧ off % 0x1000 = 0x104 then some (s.quenchStat (off / 0x1000 - 2))
  else if 0x10000 ≤ off ∧ off < 0x3C000 ∧ off % 0x1000 = 0x100 then some (s.engStat ((off - 0x10000) / 0x1000))
  else none

/-- The margin target of a die in ps (R454), 50 to 250: what the device holds there is free. -/
def marginTargetOf (d : Nat) : Nat := 50 + Config.marginTarget d % 201

/-- The same of the registers of unit `n`, by offset in its window. -/
def State.unitView (s : State) (n off : Nat) : Option Nat :=
  let c := s.chan n
  let stored := (storeGet unitReset c.bank.regs off).toNat
  if off = 0x1A0104 then some (s.queues.getD n {}).recs.length
  else if off = 0x120100 then some (bitsOf (time96 c.now) 16 30)
  else if off = 0x120104 then some (bitsOf (time96 c.now) 48 32)
  else if off = 0x120108 then some (bitsOf (time96 c.now) 80 16 + 2 ^ 16 * bitsOf (time96 c.now) 0 16)
  else if off = 0x120110 then some (setBitsOf stored 3 1 (c.get Reg.TIM_LOOP_OPEN))
  else if off = 0x120128 then some (patternOf 64 c.tim.offset % 2 ^ 32)
  else if off = 0x12012C then some (patternOf 64 c.tim.offset / 2 ^ 32)
  else if off = 0x120130 then some (patternOf 32 (c.tim.freq / 25000000))
  else if off = Reg.SCH_NOW_TICK.key then some c.tick
  else if off = Reg.SCH_CTX_STAT_USED.key then
    some (setBitsOf stored Reg.SCH_CTX_STAT_USED.lo Reg.SCH_CTX_STAT_USED.w (ctxUsed c))
  else if off = Reg.SCH_ADMIT_MODEL_MODEL.key then
    some (setBitsOf stored Reg.SCH_ADMIT_MODEL_MODEL.lo Reg.SCH_ADMIT_MODEL_MODEL.w Config.admitModel)
  else if 0x90000 ≤ off ∧ off < 0xA0000 ∧ off % 0x1000 = 0x100 then some (ceStat c ((off - 0x90000) / 0x1000))
  else if off = 0x180100 then
    let x := s.dieTemp n
    some (bitsOf x 0 16 + 2 ^ 16 * c.get Reg.HKP_THERM_CEIL + 2 ^ 19 * bitsOf x 17 1 + 2 ^ 20 * bitsOf x 18 1)
  else if off = 0x181110 then some (setBitsOf stored 22 10 (marginTargetOf n))
  else if off = 0x182118 then some ((c.get Reg.HKP_LUMA_COUNT + c.luma) % 2 ^ 32)
  else if off = 0x18211C then some ((c.get Reg.HKP_LUMA_COUNT + c.luma) / 2 ^ 32 % 2 ^ 32)
  else none

end Sys2Proof.Machine
end

