-- ==== Sys2Proof/Machine/Pins.lean ====
section
/-! DEFINITION. The levels of the output pins and the reset states of the pins (R34, R37, R59, R75), as the state gives
them, and the outputs that a bank without its supply holds back. -/

namespace Sys2Proof.Machine

/-- PinLevel of a pin: driven low or high, open (an open-drain output that is released, or high impedance), an electrically
idle differential output, or in use as its block drives it. -/
inductive PinLevel where
  | low | high | open_ | idle | active
  deriving DecidableEq, Repr

/-- The output pins of R75, by unit, lane, port or bit. -/
inductive Pin where
  | pet | clkreq | mgtAlert | tdo | avsClk | avsMdata | fault | thermTrip | benchEn
  | benchSel (i : Nat)
  | gpio (i : Nat)
  | sLane (n k : Nat)
  | tLane (n : Nat)
  /-- a port's TBCLK and TFS, TDAT, and RBCLK and RFS -/
  | audTx (n j : Nat)
  | audData (n j : Nat)
  | audRx (n j : Nat)
  deriving DecidableEq, Repr

/-- The umpire and the bank of a pin have their supply: bank 0 MGT, 1 GPIO, 2 to 6 AUD0 to AUD4 (R59). -/
def State.bankUp (s : State) (b : Nat) : Bool := s.ump.on && s.ump.banks.getD b true

/-- A side of an audio port is on: x is 0 for receive and 1 for transmit. -/
def State.audOn (s : State) (n j x : Nat) : Bool := s.running n && (s.chan n).flag (Reg.AUD_CFG_EN j x)

/-- The side drives its bit clock and frame sync. -/
def State.audMaster (s : State) (n j x : Nat) : Bool := s.audOn n j x && (s.chan n).flag (Reg.AUD_CFG_MASTER j x)

/-- PinLevel of a pin. The device never removes its clock request (R75), never drives an open-drain pin high (R36), and drives
the pins of the AUX bank whenever VDD_AUX is in range (R34). GPIO pins stay inputs: no register drives them. -/
def State.pin (s : State) (p : Pin) : PinLevel :=
  let drive (b : Bool) : PinLevel := if b then .high else .low
  match p with
  | .pet => if s.hub.ready && s.hub.perst && s.hget Reg.HST_LINK_STAT_LTSSM != 0 then .active else .idle
  | .clkreq => if s.bankUp 0 && s.hub.powered then .low else .open_
  | .mgtAlert => if s.bankUp 0 && s.ump.mgt.smbus && 0 < s.ump.mgt.alerts then .low else .open_
  | .tdo => .open_
  | .avsClk => if s.bankUp 0 then .low else .open_
  | .avsMdata => if s.bankUp 0 then .high else .open_
  | .fault => if s.faultLow then .low else .open_
  | .thermTrip => if s.tripLow then .low else .open_
  | .benchEn => if s.ump.on then drive s.subst.benchEn else .open_
  | .benchSel i => if s.ump.on then drive (bitAt s.subst.sel i) else .open_
  | .gpio _ => .open_
  | .sLane n k => if s.running n && (s.chan n).lanes.txOn.contains k && (s.chan n).tim.lref then .active else .idle
  | .tLane n => if s.running n && (s.chan n).flag Reg.TIM_PTP_CFG_EN && (s.chan n).tim.lref then .active else .idle
  | .audTx n j => if s.bankUp (2 + n) && s.audMaster n j 1 then .active else .open_
  | .audData n j => if s.bankUp (2 + n) && s.audOn n j 1 then .active else .open_
  | .audRx n j => if s.bankUp (2 + n) && s.audMaster n j 0 then .active else .open_

/-- What a unit puts out reaches a pin: an audio frame does while the bank of the port has its supply (R59). -/
def State.drives (s : State) (o : Output) : Bool :=
  match o with
  | .tdm n _ _ => s.bankUp (2 + n)
  | _ => true

end Sys2Proof.Machine
end

