-- ==== Sys2Proof/Machine/Rings.lean ====
section
/-! DEFINITION. The DMA engines and their rings (R111 to R120), moderation (R122), QUENCH (R127). -/

namespace Sys2Proof.Machine

/-! ### When a ring works -/

/-- A quench of the ring's unit is in force. -/
def State.ringQuenched (s : State) (i : Nat) : Bool :=
  match ringUnit i with
  | some n => (s.quenchOf n).on
  | none => false

/-- The ring is enabled, and its engine may issue requests (R102, R127, R128). -/
def State.ringReady (s : State) (i : Nat) : Bool :=
  s.ringOn i && s.dlUp && !s.engineWaits (ringEngine i) && !s.ringQuenched i && i % 32 != 31

/-- The rings whose ENABLE is 1. -/
def State.enabledRings (s : State) : List Nat :=
  (List.range 161).filter (fun i =>
    s.hub.bank.regs.any (fun e => e.1 == entryKey (ringKey i) (ringEntry i) 5) && s.ringOn i)

/-- DUE of a completion: the line-tick position of the ring's unit, zero for hub rings (R114). -/
def State.ringDue (s : State) (i : Nat) : Nat :=
  match ringUnit i with
  | some n => (s.chan n).tick
  | none => 0

/-- The ring's vector (R121). -/
def State.signalRing (i : Nat) (s : State) : State :=
  match ringUnit i with
  | some n => s.signal (some n) (i % 32)
  | none => s.signal none 0

/-- A completion with INT: signalled at once, or gathered (R122). -/
def State.moderate (i : Nat) (s : State) : State :=
  let w := s.ringWord i 5
  if !bitAt w 16 then s.signalRing i
  else
    let g := (s.ring i).gathered + 1
    if bitsOf w 0 16 ≤ g then (s.modRing i (fun r => { r with gathered := 0 })).signalRing i
    else s.modRing i (fun r => { r with gathered := g })

/-! ### Drops (R119) -/

/-- Bytes of one statistics record and of one motion-vector entry (R332, R334). -/
def statSize (mv : Bool) : Nat := if mv then 8 else 64

/-- A record of a from-device ring is dropped: the ring and the block that produced it count it. -/
def State.ringDrop (i : Nat) (bytes : List Byte) (s : State) : State :=
  let s := s.setRingWord i 1 (satAdd 32 (s.ringWord i 1) 1)
  match ringUnit i with
  | some n =>
    let r := i % 32
    if 5 ≤ r ∧ r ≤ 12 then s.modRun n (pktDropped (r - 5))
    else if 13 ≤ r ∧ r ≤ 28 then
      let mv := r % 2 == 0
      s.modRun n (statDropped ((r - 13) / 2) mv (bytes.length / statSize mv))
    else s
  | none => s

/-- Drop every record bound to a descriptor of the ring. -/
def State.dropWaiting (i : Nat) (s : State) : State :=
  let l := (s.ring i).waiting
  l.foldl (fun s b => s.ringDrop i b) (s.modRing i (fun r => { r with waiting := [] }))

/-- A record reaches a from-device ring: it is bound to a posted descriptor, or dropped (R119). -/
def State.ringRecord (i : Nat) (bytes : List Byte) (s : State) : State :=
  let r := s.ring i
  let used := r.waiting.length + (match r.stage with
    | .ready .. => 1
    | _ => 0)
  if s.ringReady i ∧ used < s.ringPosted i then s.modRing i (fun r => { r with waiting := r.waiting ++ [bytes] })
  else s.ringDrop i bytes

/-- A record finds a usable descriptor and lands: the block that produced it ends its run of drops (R311, R335). -/
def State.ringLanded (i : Nat) (s : State) : State :=
  match ringUnit i with
  | some n =>
    let k := i % 32
    if 5 ≤ k ∧ k ≤ 12 then s.modRun n (pktLanded (k - 5))
    else if 13 ≤ k ∧ k ≤ 28 then s.modRun n (statLanded ((k - 13) / 2) (k % 2 == 0))
    else s
  | none => s

/-! ### Completions (R114, R115) -/

/-- Bytes cut into pieces of at most `m` (R101). -/
def pieces (m : Nat) (bs : List Byte) : List (Nat × List Byte) :=
  (List.range ((bs.length + m - 1) / m)).map (fun j => (j * m, (bs.drop (j * m)).take m))

/-- Data for a buffer goes out in writes of at most Max Payload Size, with the attributes of data (R101). -/
def State.dmaData (i addr : Nat) (bytes : List Byte) (s : State) : State :=
  let f := s.ringFn i
  (pieces (payloadSize (s.fn f).mps) bytes).foldl
    (fun s p => s.put (.dmaWrite (ringEngine i) f (s.attrOf f) (addr + p.1) p.2)) s

/-- The descriptor at the head completes: data or INLINE record first, the 16 completion bytes, then any signal. What is
written into the descriptor carries no ordering attribute (R101). -/
def State.ringComplete (i : Nat) (d : Descr) (status len : Nat) (bytes : List Byte) (s : State) : State :=
  let head := s.ringHead i
  let ci := s.ringCi i
  let s := if bytes.isEmpty then s
    else if d.inline_ then s.put (.dmaWrite (ringEngine i) (s.ringFn i) {} (head + 0x10) bytes)
    else s.dmaData i d.addr bytes
  let s := s.hset (Reg.DMA_BYTES (ringEngine i)) (s.hget (Reg.DMA_BYTES (ringEngine i)) + len)
  let phase := ci / s.ringSize i % 2 == 0
  let s := s.put (.completion i (s.ringFn i) (head + 0x30) (completionBytes len status (s.ringDue i) (s.ring i).rseq phase))
  let s := (s.setRingWord i 0 (ci + 1)).modRing i (fun r => { r with stage := .idle, rseq := (r.rseq + 1) % 2 ^ 32 })
  if d.int then s.moderate i else s

/-- The transfer of a descriptor is over; its completion follows. -/
def State.ringReadyWith (i : Nat) (d : Descr) (status len : Nat) (bytes : List Byte) (s : State) : State :=
  s.modRing i (fun r => { r with stage := .ready d status len bytes })

/-! ### Judging descriptors (R94, R116, R117) -/

/-- Fields of a frame-input PARAM (R117). -/
def Descr.stride (d : Descr) : Nat := wordAt d.param 0
def Descr.lines (d : Descr) : Nat := ofBytesLE ((d.param.drop 4).take 2)
def Descr.format (d : Descr) : Nat := ofBytesLE ((d.param.drop 6).take 2)
def Descr.frame (d : Descr) : Nat := ofBytesLE ((d.param.drop 8).take 2)

/-- All bytes are zero. -/
def zeros (bs : List Byte) : Bool := bs.all (· == 0#8)

/-- The status with which a descriptor completes before anything moves: 1 EMPTY, 2 BAD_PARAM, 0 for neither. -/
def State.descrStatus (s : State) (i : Nat) (d : Descr) : Nat :=
  let frames := decide (i < 160) && decide (i % 32 ≤ 3)
  if d.length = 0 then 1
  else if !d.clean || d.inline_ != ringEvents i || (d.timed && !frames) then 2
  else if ringEvents i then (if d.length = 32 ∧ d.addr = 0 then 0 else 2)
  else if frames then
    let c := s.chan (i / 32)
    if d.stride * d.lines = d.length ∧ d.lines = c.get Reg.CAP_RASTER_LINES_ACTIVE ∧
        d.format = c.get (Reg.CAP_SRC_CFG_FORMAT (i % 32)) ∧ d.addr % 64 = 0 ∧ zeros (d.param.drop 10) then 0
    else 2
  else if decide (i < 160) && i % 32 == 4 then
    (if ((d.param.headD 0#8).toNat < 4) ∧ zeros (d.param.drop 1) then 0 else 2)
  else if zeros d.param then 0 else 2

/-! ### Frame input (R118) -/

/-- Bytes that capture reads of one line (R193). -/
def State.frameLine (s : State) (i : Nat) : Nat :=
  let c := s.chan (i / 32)
  lineBytes (c.get (Reg.CAP_SRC_CFG_FORMAT (i % 32))) (srcWidth c (i % 32))

/-- Line `l` of the frame in use may be fetched: from lt l − 64 of it onward. -/
def State.lineDue (s : State) (i l : Nat) : Bool :=
  let c := s.chan (i / 32)
  decide ((l : Int) - 64 ≤ ltDiff c.tick (tickOf (s.ring i).frame 0) c.total)

/-- Crystal count at which a read of engine `e`, issued now, goes unanswered: LIMIT of DMA_RD_TIMEOUT, in µs (R120). -/
def State.readLimit (s : State) (e : Nat) : Nat := s.centre.xcount + 25 * s.hget (Reg.DMA_RD_TIMEOUT_LIMIT e)

/-- Read what is still to come of `n` bytes at `addr`, of which `got` are in: no read exceeds Max Read Request Size
(R101). -/
def State.dmaAsk (i : Nat) (d : Descr) (l addr n : Nat) (got : List Byte) (s : State) : State :=
  let f := s.ringFn i
  (s.modRing i (fun r => { r with stage := .read d l got, limit := s.readLimit (ringEngine i) })).put
    (.dmaRead (ringEngine i) f (s.attrOf f) (addr + got.length) (min (payloadSize (s.fn f).mrrs) (n - got.length)))

/-- Fetch a line, now or when it is due. -/
def State.fetchLine (i : Nat) (d : Descr) (l : Nat) (s : State) : State :=
  if s.lineDue i l then s.dmaAsk i d l (d.addr + l * d.stride) (s.frameLine i) []
  else s.modRing i (fun r => { r with stage := .wait d l })

/-- Judge the descriptor in hand for frame `f` (R118), whose take point found the producer index at `pi`: after a LATE one
the next descriptor posted by then is judged for the same frame. -/
def State.judge (i : Nat) (d : Descr) (f pi : Nat) (s : State) : State :=
  let st := s.descrStatus i d
  let ahead := (d.frame + 65536 - f) % 65536
  let more := (pi + 2 ^ 32 - (s.ringCi i + 1) % 2 ^ 32) % 2 ^ 32 != 0
  if st ≠ 0 then (s.modRing i (fun r => { r with judge := none })).ringReadyWith i d st 0 []
  else if d.timed && decide (32768 ≤ ahead) then
    (s.modRing i (fun r => { r with judge := if more then some (f, pi) else none })).ringReadyWith i d 8 0 []
  else if d.timed && ahead != 0 then s.modRing i (fun r => { r with judge := none })
  else
    let s := s.modRing i (fun r => { r with judge := none, frame := f })
    (s.modRun (i / 32) (hostTake (i % 32) f)).fetchLine i d 0

/-- The take point of frame `f` for source `src` of unit `n` (R118): the descriptor at the head is judged, at once or as soon
as the engine has read it. With none posted, or one still in progress at the head, the frame has no descriptor. -/
def State.take (n src f : Nat) (s : State) : State :=
  let i := 32 * n + src
  let s := s.modRing i (fun r => { r with judge := none })
  if s.ringReady i ∧ 0 < s.ringPosted i then
    match (s.ring i).stage with
    | .hold d => s.judge i d f (s.ringPi i)
    | .idle => s.modRing i (fun r => { r with judge := some (f, s.ringPi i) })
    | .fetch => s.modRing i (fun r => { r with judge := some (f, s.ringPi i) })
    | _ => s
  else s

/-! ### The engines at work -/

/-- A descriptor that completes without taking a record. DESIGN CHOICE (log entry 78): the records bound to posted
descriptors go to the next ones; the last of them, if it finds none any more, is dropped (R119). -/
def State.unbind (i : Nat) (s : State) : State :=
  let l := (s.ring i).waiting
  match l.getLast? with
  | some b => if s.ringPosted i ≤ l.length then (s.modRing i (fun r => { r with waiting := l.dropLast })).ringDrop i b else s
  | none => s

/-- What an engine does with the descriptor in hand. -/
def State.serve (i : Nat) (s : State) : State :=
  match (s.ring i).stage with
  | .hold d =>
    if decide (i < 160) && decide (i % 32 ≤ 3) then
      match (s.ring i).judge with
      | some (f, pi) => s.judge i d f pi
      | none => s
    else
      let st := s.descrStatus i d
      if st ≠ 0 then (s.ringReadyWith i d st 0 []).unbind i
      else if ringEvents i then s
      else if i % 32 = 4 then
        let c := s.chan (i / 32)
        if s.running (i / 32) ∧ decActive c ∧ ¬ c.flag Reg.DEC_CFG_INPATH ∧ d.length ≤ decRoom c then
          s.dmaAsk i d 0 d.addr d.length []
        else s
      else match (s.ring i).waiting with
        | b :: rest =>
          let s := s.modRing i (fun r => { r with waiting := rest })
          if d.length < b.length then (s.ringReadyWith i d 3 0 []).ringDrop i b
          else (s.ringReadyWith i d 0 b.length b).ringLanded i
        | [] => s
  | .wait d l => if s.lineDue i l then s.fetchLine i d l else s
  | _ => s

/-- There is work for the ring's next descriptor. -/
def State.wants (s : State) (i : Nat) : Bool :=
  if ringEvents i then !(s.queues.getD (i / 32) {}).recs.isEmpty
  else ringInput i || !(s.ring i).waiting.isEmpty

/-- An engine reads the next posted descriptor, and serves the one in hand. -/
def State.pump (i : Nat) (s : State) : State :=
  if !s.ringReady i then s
  else match (s.ring i).stage with
    | .idle =>
      if 0 < s.ringPosted i ∧ s.wants i then
        (s.modRing i (fun r => { r with stage := .fetch, limit := s.readLimit (ringEngine i) })).put (.dmaRead (ringEngine i) (s.ringFn i) {} (s.ringHead i) 64)
      else s
    | _ => s.serve i

/-! ### Image loads (R68, R111): engine 41 -/

/-- Ring number by which PCIE_COMPLETION and DMA_READ_TIMEOUT name engine 41, which serves no ring. -/
def imgRing : Nat := 161

/-- Engine 41 reads on: no read exceeds Max Read Request Size (R101). -/
def State.imgPump (s : State) : State :=
  match s.ump.loading with
  | some l =>
    let n := min (payloadSize (s.fn 0).mrrs) (l.len - l.got.length)
    if l.failed || l.asked != 0 || n == 0 || !s.dlUp || s.engineWaits 41 then s
    else (s.modUmp (fun u => { u with loading := some { l with asked := n, limit := s.readLimit 41 } })).put
      (.dmaRead 41 0 (s.attrOf 0) (l.addr + l.got.length) n)
  | none => s

/-- The outstanding read of engine 41 is abandoned; it is issued again when the engine resumes (R102). -/
def State.imgAbandon (s : State) : State :=
  s.modUmp (fun u => { u with loading := u.loading.map (fun l => { l with asked := 0 }) })

/-- The outstanding read of engine 41 is answered, or fails (R68: READ_ERROR). -/
def State.imgReply (r : ReadReply) (s : State) : State :=
  match s.ump.loading with
  | some l =>
    if l.asked = 0 then s.aer 0 2
    else match r with
      | .data bs =>
        (s.modUmp (fun u => { u with loading := some { l with got := l.got ++ fit l.asked bs, asked := 0 } })).hset
          (Reg.DMA_BYTES 41) (s.hget (Reg.DMA_BYTES 41) + l.asked)
      | .error p =>
        let s := s.modUmp (fun u => { u with loading := some { l with asked := 0, failed := true } })
        if p then s.aer 0 1 else s
  | none => s.aer 0 2

/-- Every engine goes on as far as it can. -/
def State.pumpAll (s : State) : State := (s.enabledRings.foldl (fun s i => s.pump i) s).imgPump

/-- An error that an engine raises without a register access (R120). -/
def State.dmaInput (i : Nat) (s : State) : State := s.hubErr .dma codeINPUT (0x10000 + 0x1000 * ringEngine i) 7

/-- DESCRIPTOR_COMPLETE: the engine finishes a descriptor whose transfer is over (R115). -/
def State.completeNext (i : Nat) (s : State) : State :=
  match (s.ring i).stage with
  | .ready d st len bytes =>
    if s.ringOn i ∧ s.dlUp ∧ ¬ s.engineWaits (ringEngine i) then s.ringComplete i d st len bytes else s
  | _ => s

/-- Bytes of the descriptor moved so far: whole lines of a frame input. -/
def State.moved (s : State) (i line : Nat) : Nat := if i % 32 ≤ 3 then line * s.frameLine i else 0

/-- Length of the outstanding read of a ring's data. -/
def State.askedOf (s : State) (i : Nat) (d : Descr) (got : List Byte) : Nat :=
  min (payloadSize (s.fn (s.ringFn i)).mrrs) ((if i % 32 ≤ 3 then s.frameLine i else d.length) - got.length)

/-- Data of a read come in: the next read of the same line or descriptor follows, or the whole goes to the unit. -/
def State.readData (i : Nat) (d : Descr) (l : Nat) (got bs : List Byte) (s : State) : State :=
  let got := got ++ fit (s.askedOf i d got) bs
  if i % 32 ≤ 3 then
    if got.length < s.frameLine i then s.dmaAsk i d l (d.addr + l * d.stride) (s.frameLine i) got
    else
      let s := s.modRun (i / 32) (hostLine (i % 32) (s.ring i).frame l got)
      if l + 1 < d.lines then s.fetchLine i d (l + 1) else s.ringReadyWith i d 0 (s.moved i d.lines) []
  else if got.length < d.length then s.dmaAsk i d 0 d.addr d.length got
  else
    let p := (d.param.headD 0#8).toNat
    let k := (s.ring i).rseq
    (s.modRun (i / 32) (decRing got (bitAt p 0) (bitAt p 1) k)).ringReadyWith i d 0 d.length []

/-- A failed read of a descriptor disables the ring and sets sticky INPUT in DMA_ERR (R120). -/
def State.fetchFailed (i : Nat) (s : State) : State :=
  let s := s.setRingWord i 5 (setBitsOf (s.ringWord i 5) 17 1 0)
  ((s.modRing i (fun r => { r with stage := .idle, judge := none })).dropWaiting i).dmaInput i

/-- PCIE_COMPLETION: the data of the read outstanding on a ring comes in, or an error (R120). A completion for which no
read is outstanding is late: it is discarded, and logged by AER (R101). -/
def State.readReply (i : Nat) (r : ReadReply) (s : State) : State :=
  if i = imgRing then s.imgReply r
  else
    let s := match r with
      | .error true => s.aer (s.ringFn i) 1
      | _ => s
    match (s.ring i).stage, r with
    | .fetch, .data bs => (s.modRing i (fun r => { r with stage := .hold (parseDescr bs) })).serve i
    | .fetch, .error _ => s.fetchFailed i
    | .read d l got, .data bs => s.readData i d l got bs
    | .read d l _, .error _ => s.ringReadyWith i d 4 (s.moved i l) []
    | _, _ => s.aer (s.ringFn i) 2

/-- DMA_READ_TIMEOUT: the read outstanding has gone unanswered for DMA_RD_TIMEOUT, as it stood when it was issued (R101,
R120). -/
def State.readTimeout (i : Nat) (s : State) : State :=
  if i = imgRing then
    match s.ump.loading with
    | some l => if l.asked = 0 ∨ s.centre.xcount < l.limit then s else (s.imgReply (.error false)).aer 0 0
    | none => s
  else if s.centre.xcount < (s.ring i).limit then s
  else match (s.ring i).stage with
    | .fetch => (s.fetchFailed i).aer (s.ringFn i) 0
    | .read d l _ => (s.ringReadyWith i d 5 (s.moved i l) []).aer (s.ringFn i) 0
    | _ => s

/-- The descriptor in progress ends with `status` (R116, R127); records bound to later descriptors are dropped. -/
def State.ringStop (i status : Nat) (s : State) : State :=
  let s := match (s.ring i).stage with
    | .read d l _ => s.ringComplete i d status (s.moved i l) []
    | .wait d l => s.ringComplete i d status (s.moved i l) []
    | .ready d _ len bytes =>
      if bytes.isEmpty then s.ringComplete i d status len []
      else (s.ringComplete i d status 0 []).ringDrop i bytes
    | .fetch => s.modRing i (fun r => { r with stage := .idle })
    | _ => s
  (s.modRing i (fun r => { r with judge := none })).dropWaiting i

/-- EVENT_DELIVER (R97, R117): the oldest record of a queue goes into the INLINE descriptor in hand. -/
def State.deliver (q : Nat) (s : State) : State :=
  let i := if q < 5 then 32 * q + 29 else 160
  match (s.ring i).stage, (s.queues.getD q {}).recs with
  | .hold d, e :: _ =>
    if s.ringReady i ∧ s.descrStatus i d = 0 then (s.dequeue q).ringComplete i d 0 32 (eventBytes e) else s
  | _, _ => s

/-! ### Enabling, disabling and doorbells (R113, R116) -/

/-- The ring starts: indices, drops and RSEQ at zero. -/
def State.ringStart (i : Nat) (s : State) : State :=
  ((s.setRingWord i 0 0).setRingWord i 1 0).hset (ringDb i) 0 |>.modRing i (fun _ => {})

/-- The ring is stopped: the descriptor in progress completes as FLUSHED. -/
def State.ringHalt (i : Nat) (s : State) : State := (s.ringStop i 7).modRing i (fun r => { r with stage := .idle })

/-- A doorbell value is discarded (R113). -/
def State.doorbellBad (s : State) (i v : Nat) : Bool :=
  !s.ringOn i || decide (s.ringSize i < (v + 2 ^ 32 - s.ringCi i) % 2 ^ 32)

/-! ### QUENCH (R127) -/

/-- Every engine of the unit has stopped issuing: STOPPED, descriptors in progress complete as QUENCHED, QUENCH_DONE. A
RESUME that came before ends the quench now. -/
def State.quenchStop (n ns : Nat) (s : State) : State :=
  let s := s.modQuench n (fun q => { q with stopped := true })
  let s := (List.range 32).foldl (fun s r => if (s.ring (32 * n + r)).busy ∨ (s.ring (32 * n + r)).waiting ≠ [] then
    s.ringStop (32 * n + r) 6 else s) s
  let s := s.post 0x0D02 .hst n ns
  if (s.quenchOf n).resume then s.modQuench n (fun _ => {}) else s

/-- A QUENCH of unit `n` begins; `own` is that of R73. A unit that is not in RUN, or whose engines have stopped, has
STOPPED at once with 0 ns. DESIGN CHOICE (log entry 79): it takes back a RESUME written before STOPPED, so that the later
of the two commands counts. -/
def State.quenchStart (n : Nat) (own : Bool) (s : State) : State :=
  let stopped := (s.quenchOf n).stopped
  let was := (s.quenchOf n).on
  let s := s.modQuench n (fun q => { q with on := true, own := own && (q.own || !was), resume := false })
  if stopped || !s.running n then s.quenchStop n 0 else s

/-- RESUME of unit `n`: at once, or when the engines have stopped. -/
def State.quenchResume (n : Nat) (s : State) : State :=
  let q := s.quenchOf n
  if !q.on then s
  else if q.stopped then s.modQuench n (fun _ => {})
  else s.modQuench n (fun q => { q with resume := true })

end Sys2Proof.Machine
end

