-- ==== Sys2Proof/Machine/Power.lean ====
section
/-! DEFINITION. Moving units between power states (R71 to R74, R419, R421, R472, R473), the voltage steps of a rail
(R50, R51, R456), and the resets (R52 to R55). -/

namespace Sys2Proof.Machine

/-! ### Rails (R48 to R51, R456) -/

/-- Periods between two voltage steps (R50): 50 µs. -/
def stepGap : Nat := 1250

/-- An AVSBus command goes out, on the pins of the MGT bank (R48, R59): rail select 0 is VDD_HUB, n + 1 is VDD_CUn. -/
def State.avsPut (r : Nat) (c : AvsCmd) (s : State) : State := if s.ump.banks.getD 0 true then s.put (.avs r c) else s

/-- A transaction begins: its command waits for an answer (R51). -/
def State.avsBegin (r : Nat) (c : AvsCmd) (s : State) : State :=
  (s.modRail r (fun x => { x with cmd := some c, tries := 0 })).avsPut r c

/-- A transaction is answered. -/
def State.avsAnswer (r : Nat) (s : State) : State := s.modRail r (fun x => { x with cmd := none, tries := 0 })

/-- Write one step of those still due; never outside 700 to 800 mV (R50). -/
def State.railStep (r : Nat) (s : State) : State :=
  let x := s.rail r
  if x.noresp ∨ x.steps = 0 then s.modRail r (fun x => { x with steps := 0 })
  else
    let up := decide (0 < x.steps)
    let mv := if up then x.target + 10 else x.target - 10
    if mv < 700 ∨ 800 < mv then s.modRail r (fun x => { x with steps := 0 })
    else (s.modRail r (fun x => { x with
      target := mv, steps := if up then x.steps - 1 else x.steps + 1, last := some s.centre.xcount })).avsBegin r (.voltageWrite mv)

/-- 50 µs have passed since the rail's last step. -/
def State.railFree (s : State) (r : Nat) : Bool :=
  match (s.rail r).last with
  | some t => decide (t + stepGap ≤ s.centre.xcount)
  | none => true

/-- Ask for steps: the first at once if the spacing allows it. -/
def State.railMove (r : Nat) (n : Int) (s : State) : State :=
  let s := s.modRail r (fun x => { x with steps := n })
  if s.railFree r then s.railStep r else s

/-- The rail of unit `n` goes back to 0.75 V (R456), in steps. -/
def State.railHome (n : Nat) (s : State) : State :=
  s.railMove (n + 1) ((750 - ((s.rail (n + 1)).target : Int)) / 10)

/-- Ask for further steps beside those due. -/
def State.railAdd (r : Nat) (n : Int) (s : State) : State := s.railMove r ((s.rail r).steps + n)

/-- AVS_TIMEOUT: an attempt of a transaction goes unanswered (R51): the command goes out again, and after the second retry
steering stops. -/
def State.railTimeout (r : Nat) (s : State) : State :=
  let x := s.rail r
  match x.cmd with
  | some c =>
    if 6 ≤ r ∨ x.noresp then s
    else if x.tries < 2 then (s.modRail r (fun x => { x with tries := x.tries + 1 })).avsPut r c
    else (s.modRail r (fun x => { x with noresp := true, steps := 0, cmd := none, tries := 0 })).post 0x0B05 .sup r 0
  | none => s

/-! ### Unit reset (R52) -/

/-- HBM eighth `a / 3 GiB` is among those kept. -/
def keptBy (keep a : Nat) : Bool := bitAt keep (a / 0xC0000000)

/-- Unit reset of a unit: only the HBM eighths in `keep` stay (R52, R421). -/
def chanReset (keep : Nat) (c : Chan) : Chan :=
  { Chan.init c.num with
    hbm := storeKeep (keptBy keep) c.hbm
    mem := { bad := c.mem.bad.filter (fun e => keptBy keep e.1), soft := c.mem.soft.filter (fun e => keptBy keep e.1) }
    free := c.free }

/-- Unit reset of unit `n`, with its event queue and its image (R70); its lanes go idle, which cuts off a packet in progress
(R304), and the umpire drops what it held of the running unit
(R431, R469, R471). -/
def State.unitReset (n keep : Nat) (s : State) : State :=
  let s := (pathsCut (s.chan n)).foldl (fun s o => s.put o) s
  let luma := (s.chan n).luma
  (((s.modChan n (chanReset keep)).clearQueue n).modPower n (fun u => { u with image := none })).modUmp (fun u => { u with
    modes := u.modes.set n 0, lanes := u.lanes.set n ([], 0), watches := u.watches.filter (fun w => w.unit != n)
    lumaGone := u.lumaGone + luma })

/-- Some programme of the unit is on air. -/
def State.onAir (s : State) (n : Nat) : Bool :=
  s.running n && (List.range 8).any (fun p => (s.chan n).flag (Reg.PKT_PSTAT_ONAIR p))

/-- Programmes on air leave the air without END (R304, R468). -/
def State.offAir (n : Nat) (s : State) : State := if s.onAir n then s.fault Reg.SUP_FAULT_STAT_OFFAIR else s

/-! ### Requests (R65, R74, R451) -/

/-- A substitution or a return is in progress (R440). -/
def State.substBusy (s : State) : Bool := s.subst.state == 1 || s.subst.state == 3

/-- The unit is involved in it. -/
def State.involved (s : State) (n : Nat) : Bool := s.substBusy && (n == s.subst.src || n == s.subst.dst)

/-- The unit is, or is to be, in HELD or RUN. A unit being stopped is in HELD until its stop ends (R15, R71). -/
def State.serving (s : State) (n : Nat) : Bool :=
  let u := s.pw n
  let asked : Bool := match u.held with
    | some (req, _) => decide (2 ≤ req)
    | none => false
  if s.substBusy && n == s.subst.src then false
  else if s.substBusy && n == s.subst.dst then true
  else u.up || asked

/-- The code with which a write to SUP_UNIT_CTLn is discarded (R74), 0 for none; of several the lowest (R86). -/
def State.requestCode (s : State) (n req keep : Nat) : Nat :=
  if req = 1 ∧ keep = 0 then codeZERO_FIELD
  else if req ≠ 0 ∧ s.subst.bench = n then codeBENCH_UNIT
  else if 2 ≤ req ∧ ¬ s.serving n ∧ 4 ≤ ((List.range 5).filter s.serving).length then codeSERVICE_LIMIT
  else if 2 ≤ req ∧ (s.rail (n + 1)).noresp then codeAVS_FAULT
  else if req = 3 ∧ s.ump.image.isNone then codeNO_IMAGE
  else codeNONE

/-- A request must wait: for a substitution (R74), a stop in progress, training (R65, R419), the hub's start (R63), or a
die that has cooled (R451). -/
def State.mustWait (s : State) (n req : Nat) : Bool :=
  let u := s.pw n
  let off := u.state == .cold || u.state == .parked
  s.involved n ||
    (decide (2 ≤ req) && (match u.move with
      | .stop _ => true
      | _ => false)) ||
    (decide (2 ≤ req) && off && (!u.trained || !s.hub.ready || (s.die n).shut)) ||
    (decide (req = 1) && u.state == .cold && u.move == .none && !u.trained)

/-- An untrained stack is trained in full (R63, R419), once the hub is ready. -/
def State.train (n : Nat) (s : State) : State :=
  if s.hub.ready ∧ ¬ (s.pw n).trained ∧ ¬ (s.pw n).training then
    s.modPower n (fun u => { u with training := true, retried := false })
  else s

/-! ### Stopping (R73, R421, R472, R473) -/

/-- Drain the write sink of a unit into HBM (R110, R421: every accepted write completes). -/
def sinkDrainAll (c : Chan) : Chan :=
  let c := c.sink.writes.foldl (fun c w => memWrite c w.1 6 w.2) c
  { c with sink := { c.sink with writes := [], held := 0, drained := c.sink.received } }

/-- Step 1 of R73: QUENCH of the unit's engines, which have stopped, and whose descriptors have completed, before anything
of the unit is reset. DEDUCED (log entry 39): the stop's own quench ends within the command; the time it takes is a free
value (log entry 71). -/
def State.stopQuench (n : Nat) (s : State) : State :=
  let s := s.quenchStart n true
  if (s.quenchOf n).stopped then s else (s.quenchStop n s.freeNat).draw

/-- A move of unit `n` to COLD or PARKED begins (R73): the engines are quenched, the lanes go idle, the unit is reset. -/
def State.stopUnit (n : Nat) (park : Bool) (cause : Nat) (s : State) : State :=
  let u := s.pw n
  let empty (s : State) : State := (s.unitReset n 0).modPower n (fun u => { u with keep := 0, map := [] })
  let because (s : State) : State := s.modPower n (fun u => { u with cause := cause })
  match u.move, u.state with
  | .stop was, _ =>
    let s := if was then because s else s
    (if park then s else empty s).hold n (.stop park)
  | .start _, .held => (because (empty (s.stopQuench n))).hold n (.stop park)
  | _, .held => (because (empty (s.stopQuench n))).hold n (.stop park)
  | _, .run =>
    let s := s.stopQuench n
    let keep := if park then s.uget (Reg.SUP_UNIT_CTL_KEEP n) else 0
    let c := if park then sinkDrainAll (s.chan n) else s.chan n
    let s := s.modChan n (fun _ => c)
    let s := (because (s.unitReset n keep)).modPower n (fun u => { u with keep := keep, map := if park then memMap c else [] })
    s.hold n (.stop park)
  | .none, .cold => if park then s.lower n true |> because else s
  | .none, .parked => if park then s else (because (empty s)).lower n false
  | _, .cold => because (s.lower n park)
  | _, .parked => if park then s.lower n true else (because (empty s)).lower n false

/-- A log-only entry of the umpire's own (R464). -/
def State.logOnly (typ cls a0 a1 : Nat) (s : State) : State := s.logAdd typ 0xF cls 0 a0 a1

/-- FORCED_STEP: step `k` of R73 is forced (R472). -/
def State.forceStep (n k : Nat) (s : State) : State :=
  match (s.pw n).move with
  | .stop _ =>
    if 1 ≤ k ∧ k ≤ 4 then (s.modPower n (fun u => { u with forced := true })).logOnly 0x0E05 6 n k else s
  | _ => s

/-- A move to PARKED completes as COLD (R473). -/
def State.parkLost (n : Nat) (s : State) : State :=
  (((s.unitReset n 0).modPower n (fun u => { u with keep := 0, map := [] })).hold n (.stop false)).logOnly 0x0E07 3 n 0

/-- PARK_FAILED: self-refresh entry is not confirmed (R473). -/
def State.parkFailed (n : Nat) (s : State) : State :=
  match (s.pw n).move with
  | .stop true => s.parkLost n
  | _ => s

/-- The steps of a stop are over (R73): the rail goes home (R456). A park that was forced completes as COLD (R473).
DEDUCED (log entry 72): the quench of step 1 is part of the stop and ends with it, here or when the unit is gated; R127
names only RESUME and the resets as what ends a quench by command, and a quench in force before the stop stays. -/
def State.stopDone (n : Nat) (s : State) : State :=
  match (s.pw n).move with
  | .stop park =>
    let s := if (s.quenchOf n).own then s.modQuench n (fun _ => {}) else s
    let lost := park && (s.pw n).forced
    let s := if lost then s.parkLost n else s
    (s.lower n (park && !lost)).railHome n
  | _ => s

/-- Isolation and gating at once (R61, R62): the unit is COLD, nothing is kept. A stop's own quench ends (log entry 72). -/
def State.gate (n cause : Nat) (s : State) : State :=
  let q := s.quenchOf n
  let s := (s.unitReset n 0).modPower n (fun u => { u with
    cause := cause, keep := 0, map := [], restored := false })
  let s := if q.own then s.modQuench n (fun _ => {}) else s
  (s.lower n false).railHome n

/-! ### Starting (R72) -/

/-- A start of unit `n` is requested, to RUN or to HELD: RESTORED will show whether its record was valid (R419). -/
def State.beginStart (n : Nat) (run : Bool) (s : State) : State :=
  let u := s.pw n
  (s.modPower n (fun u => { u with restored := u.trained })).raise n u.state (.start run)

/-- A request is acted on (R72, R73), with nothing in its way. -/
def State.actPower (n req : Nat) (s : State) : State :=
  let u := s.pw n
  if req = 0 then (s.offAir n).stopUnit n false 1
  else if req = 1 then (s.offAir n).stopUnit n true 1
  else match u.move, u.state with
    | .start _, .held => if req = 3 then s else s.raise n .held .none
    | .start _, st => s.raise n st (.start (req == 3))
    | _, .run =>
      if req = 3 then s
      else (((s.offAir n).unitReset n 0).modPower n (fun u => { u with cause := 1, keep := 0, map := [] })).hold n .none
    | _, .held => if req = 3 then s.raise n .held (.start true) else s
    | _, _ => s.beginStart n (req == 3)

/-- The same of a request as it may be held: RESET_UNIT (R134), code 4, passes through HELD back to RUN. -/
def State.actRequest (n req : Nat) (s : State) : State :=
  if req = 4 then (s.actPower n 2).actPower n 3 else s.actPower n req

/-- A request that R74 does not discard: carried out, or held (R65, R74, R451). A newer request replaces one held. -/
def State.request (n req keep : Nat) (s : State) : State :=
  if s.mustWait n req then (s.modPower n (fun u => { u with held := some (req, keep) })).train n
  else (s.modPower n (fun u => { u with held := none })).actRequest n req

/-- A request held is taken up again when nothing is in its way, and checked again (R51, R74). -/
def State.takeUp (n : Nat) (s : State) : State :=
  match (s.pw n).held with
  | none => s
  | some (req, keep) =>
    if s.mustWait n req then s
    else
      let s := s.modPower n (fun u => { u with held := none })
      let code := s.requestCode n (min req 3) keep
      if code ≠ 0 then s.discardHub .sup code (0x40110 + 4 * n) 7 (min req 3 + 2 ^ 8 * keep) else s.actRequest n req

/-- The unit enters M7 (R70, R71, R406, R421) with the resident image as it stands: the map saved on entry to PARKED goes
into both copies, the array is initialised but for the kept eighths, ISOLATED clears. -/
def State.enterRun (n : Nat) (s : State) : State :=
  let u := s.pw n
  let s := s.raise n .run .none
  let s := s.modChan n (fun c =>
    let c := if u.map.isEmpty then c else memLoadMap c u.map
    memInit (c.set Reg.MEM_RECAL_RESTORED (b2n u.restored)) u.keep)
  (s.modPower n (fun u => { u with isolated := false, keep := 0, map := [], image := s.ump.image })).modUmp
    (fun k => { k with modes := k.modes.set n 7 })

/-- A start that ends in HELD: the move is a unit reset by SUP_UNIT_CTLn (R52), which leaves the eighths kept in PARKED. -/
def State.startHeld (n : Nat) (s : State) : State :=
  ((s.unitReset n (s.pw n).keep).modPower n (fun u => { u with cause := 1 })).raise n .held .none

/-- The body of the resident image as the umpire reads it back before a load, and the signed DIGEST, agree (R69). -/
def State.imageGood (s : State) (r : StartResult) : Bool :=
  match s.ump.image with
  | none => false
  | some bs =>
    let body := match r with
      | .body b => b
      | _ => imgBody bs
    decide (sha384 body = imgDigest bs)

/-- IMG_CORRUPT (R69): the unit stays in reset. DESIGN CHOICE (log entry 73): it shows HELD, ungated and in unit reset, also
when the start came from COLD or PARKED. -/
def State.imageBad (n : Nat) (s : State) : State :=
  ((s.raise n .held .none).hubErr .sup codeIMG_CORRUPT 0 7).post 0x0C05 .sup n 0

/-- The check of the restored training fails (R419): the unit returns to COLD and its stack is trained in full; the start
is held. The entry's count of failing pseudo-channels is a free value. -/
def State.trainingBad (n : Nat) (run : Bool) (s : State) : State :=
  let keep := s.uget (Reg.SUP_UNIT_CTL_KEEP n)
  let s := (s.unitReset n 0).modPower n (fun u => { u with
    keep := 0, map := [], trained := false, restored := false, held := some (if run then 3 else 2, keep) })
  ((s.lower n false).train n).logOnly 0x0E04 5 n (s.freeNat % 33) |>.draw |>.railHome n

/-! ### Resets (R52 to R55) -/

/-- Units: every one to COLD (R52). -/
def State.unitsCold (s : State) : State :=
  forN 5 (fun n s => ((s.offAir n).gate n 0).modPower n (fun u => { u with
    held := none, training := false, retried := false })) s

/-- The image load of engine 41 loses its reads (R52, R128). DEDUCED (log entry 75): the load ends as READ_ERROR. -/
def State.imgLost (s : State) : State :=
  s.modUmp (fun u => { u with loading := u.loading.map (fun l => { l with asked := 0, failed := true }) })

/-- Device reset (R52, R53, R56, R425): STRAP_LINK is sampled; every hub block but umpire, SUP and MGT, and every unit; a
substitution is abandoned. The hub starts again if it has power and is not held (R57, R450). -/
def State.deviceReset (link : Nat) (s : State) : State :=
  let s := s.modUmp (fun u => { u with
    straps := { u.straps with link := link % 4 }
    rails := u.rails.map (fun r => { r with noresp := false, cmd := none, tries := 0 }) })
  let s := s.imgLost
  let s := s.unitsCold
  let u := s.ump
  let on := u.pwrGood && u.vddHub && !u.straps.test && !(s.die 5).shut
  let s := (s.modHub (fun h => ({ powered := on, perst := h.perst } : Hub))).clearQueue 5
  let s := (s.uset Reg.SUP_DEV_ENERGY_UJ 0).uset Reg.SUP_DEV_EPP_EPP 0xFFFF
  s.modSubst (fun x => { x with state := 0, bench := 4, benchEn := false, sel := 7, step := 0, card := none, config := none })

/-- R61: the hub and every unit are isolated, the device reset holds. -/
def State.hubOff (cause link : Nat) (s : State) : State :=
  (((s.fault Reg.SUP_FAULT_STAT_POWER).modUmp (fun u => { u with dark := true })).logOnly 0x0E01 1 cause 0).deviceReset link

/-- The hub is ready (R63): BENCH_SEL shows a bench whose training is saved (R64). -/
def State.showBench (s : State) : State :=
  s.modSubst (fun x => if !x.benchEn && (s.pw x.bench).trained then { x with sel := x.bench } else x)

/-- Registers of HST outside page 1 and of DMA go to their reset values (R53). -/
def hubLinkKept (k : Nat) : Bool :=
  let o := if k < 2 ^ 32 then k else k / 2 ^ 32 - 1
  decide (0x1100 ≤ o) && decide (o < 0x2000)

/-- Link reset (R52, R53, R128): records bound to descriptors are dropped, then every ring, quench and function is fresh. -/
def State.linkReset (s : State) : State :=
  let s := (List.range 161).foldl (fun s i =>
    if (s.ring i).waiting.isEmpty then s else s.dropWaiting i) s
  let s := s.modHub (fun h => { h with
    bank := { regs := h.bank.regs.filter (fun e => hubLinkKept e.1) }
    rings := List.replicate 161 {}, quench := List.replicate 5 {}, fns := List.replicate 6 {}, vfEnable := false
    numVfs := 0, msix := [], pend := [], link := false, flit := none, unavail := List.replicate 5 (none, 0) })
  s.imgLost.uset Reg.SUP_RESET_CAUSE_LINK 1

/-- Function reset of VF n + 1 (R52, R53). -/
def State.functionReset (n : Nat) (s : State) : State :=
  let s := (List.range 32).foldl (fun s r =>
    if (s.ring (32 * n + r)).waiting.isEmpty then s else s.dropWaiting (32 * n + r)) s
  let ours (k : Nat) : Bool :=
    let o := if k < 2 ^ 32 then k else k / 2 ^ 32 - 1
    decide (0x2100 + 0x1000 * n ≤ o) && decide (o < 0x3000 + 0x1000 * n)
  s.modHub (fun h => { h with
    bank := { h.bank with regs := h.bank.regs.filter (fun e => !ours e.1), bufs := h.bank.bufs.filter (fun e => !ours e.1) }
    rings := (List.range 161).map (fun i => if i / 32 = n then {} else h.rings.getD i {})
    quench := h.quench.set n {}, fns := h.fns.set (n + 1) {}
    msix := h.msix.filter (fun e => e.1 / 2 ^ 16 != n + 1), pend := h.pend.filter (fun e => e.1 != n + 1) })

/-- AUX reset (R52, R55, R56, R466): the umpire and its registers; `kept` is none when VDD_AUX has risen from out of range,
and every record of the umpire SRAM is lost. -/
def State.auxReset (straps : Straps) (kept : Option KeptRecords) (s : State) : State :=
  let old := s.ump
  let fresh : Umpire := {
    straps := straps, banks := old.banks
    mgt := { smbus := straps.smb, static := 0x58 + straps.addr } }
  let u : Umpire := match kept with
    | none => { fresh with bank := { regs := [(0x40104, 1#32)] } }
    | some k =>
      let good := old.log.entries.filter (fun e => !k.badLog.contains e.seq)
      let next := if k.seqOk then old.log.next else
        (good.foldl (fun m e => max m (e.seq + 1)) 0) % 2 ^ 32
      { fresh with
        bank := { regs := [(0x40104, 2#32)] }
        pwrGood := old.pwrGood, vddHub := old.vddHub
        log := { entries := good, next := next, boot := (old.log.boot + 1) % 65536 }
        cards := (List.range 5).map (fun n =>
          let c := old.cards.getD n {}
          { latest := if k.badCards.contains (n, 0) then none else c.latest
            previous := if k.badCards.contains (n, 1) then none else c.previous })
        image := if k.imageOk then old.image else none }
  let s := s.modUmp (fun _ => u)
  let s : State := { s with centre := { s.centre with xcount := 0 } }
  let s : State := { s with power := { s.power with subst := {} } }
  let s := match kept with
    | none => s
    | some _ => s.logOnly 0x0E02 7 u.log.entries.length (old.log.entries.length - u.log.entries.length)
  let s := forN 5 (fun n s => s.modPower n (fun p => { p with
    isolated := false
    trained := match kept with
      | none => false
      | some k => p.trained && !k.badTraining.contains n })) s
  s.deviceReset straps.link

end Sys2Proof.Machine
end

