-- ==== Sys2Proof/Machine/Subst.lean ====
section
/-! DEFINITION. The bench unit and substitution (17_bench_and_substitution.md). The steps of R433 follow each other as the
commands they wait for come: `Subst.step` names the one awaited. -/

namespace Sys2Proof.Machine

/-! ### Preliminaries -/

/-- A unit in M1 to M6. -/
def inService (mode : Nat) : Bool := decide (1 ≤ mode) && decide (mode ≤ 6)

/-- There is a bench to turn to (R64, R432, R438). -/
def State.hasBench (s : State) : Bool :=
  decide (s.subst.bench ≤ 4) && !s.subst.benchEn && s.subst.sel != 7 && !s.substBusy

/-- The latest valid scorecard of a unit whose COMMIT has a configuration record, with that record (R433). -/
def State.pickCard (s : State) (n : Nat) : Option (Scorecard × ConfigRec) :=
  let k := s.card n
  let cards := (k.latest.map (fun x => [x])).getD [] ++ (k.previous.map (fun x => [x])).getD []
  cards.findSome? (fun c => (k.configs.find? (fun r => r.commit == c.commit)).map (fun r => (c, r)))

/-- CAUSE that a trigger gives (R430). -/
def triggerCause (trig : Nat) : Nat := if trig = 2 then 4 else if trig = 4 then 5 else if trig = 5 then 3 else 2

/-- A trigger declares nothing, or a declaration goes no further: SUBST_START carries the reason (R432, R438). -/
def State.substNot (n trig reason : Nat) (s : State) : State :=
  (s.post 0x0C01 .sup n (trig + 2 ^ 8 * reason)).modSubst (fun x => { x with trigger := trig, reason := reason })

/-- OFFAIR for programmes that a scorecard shows enabled. -/
def State.cardOffAir (k : Option Scorecard) (s : State) : State :=
  match k with
  | some k => if k.progs.any (·.enabled) then s.fault Reg.SUP_FAULT_STAT_OFFAIR else s
  | none => s

/-! ### The sequence (R433, R435, R439) -/

/-- Step 4: the bench unit is started, once it can be (R72, R419, R438). -/
def State.startBench (s : State) : State :=
  let d := s.subst.dst
  let u := s.pw d
  if u.state = .cold ∧ u.move = .none ∧ u.trained ∧ s.hub.ready ∧ ¬ (s.die d).shut ∧ ¬ (s.rail (d + 1)).noresp then
    s.beginStart d true
  else s.train d

/-- Step 3: the pins (R38, R439), once the unit being switched off is COLD. A substitution raises BENCH_EN and waits for
BENCH_SEL; a return lowers it. With BENCH_EN high already the connections are those of the substitution. -/
def State.routeBench (s : State) : State :=
  let x := s.subst
  if x.step = 3 ∧ (s.pw x.src).state = .cold ∧ (s.pw x.src).move = .none then
    if x.state = 3 then (s.modSubst (fun x => { x with step := 5, benchEn := false, sel := 7, bench := 7 })).startBench
    else if x.benchEn then (s.modSubst (fun x => { x with step := 5, bench := 7 })).startBench
    else s.modSubst (fun x => { x with step := 4, benchEn := true })
  else s

/-- Steps 1 and 2: SUBST_START, STATE, the move to COLD. -/
def State.substBegin (state src dst trig : Nat) (card : Scorecard) (cfg : ConfigRec) (s : State) : State :=
  let s := s.fault Reg.SUP_FAULT_STAT_SUBST
  let s := s.modSubst (fun x => { x with
    state := state, failed := src, server := dst, trigger := trig, reason := 0, src := src, dst := dst, step := 3
    t0 := s.centre.xcount, card := some card, config := some cfg })
  let s := s.post 0x0C01 .sup src trig
  (if (s.pw src).state = .cold ∧ (s.pw src).move = .none then s else s.stopUnit src false (triggerCause trig)).routeBench

/-- No scorecard matches a configuration record (R438): steps 2 onward are not taken. `dst` is the unit that would serve. -/
def State.substNoCard (n dst trig : Nat) (s : State) : State :=
  let s := ((s.fault Reg.SUP_FAULT_STAT_SUBST).substNot n trig 3).post 0x0C02 .sup (2 ^ 31 + dst) (n + 2 ^ 8 * 3)
  let s := s.ubump Reg.SUP_SUBST_COUNT_FAILED 1
  if trig = 2 ∨ trig = 3 then (s.offAir n).stopUnit n false (triggerCause trig) else s

/-- A substitution of unit `n` is declared (R430): the conditions of R430 and R432 hold. -/
def State.declare (n trig : Nat) (s : State) : State :=
  match s.pickCard n with
  | some (card, cfg) => s.substBegin 1 n s.subst.bench trig card cfg
  | none => s.substNoCard n s.subst.bench trig

/-- A substitution or return in progress fails (R438, R439): the starting unit goes to COLD. A return that fails is turned
round at once as trigger 6. -/
def State.substFail (reason : Nat) (s : State) : State :=
  let x := s.subst
  if !s.substBusy then s
  else
    let s := s.post 0x0C02 .sup (2 ^ 31 + x.dst) (x.src + 2 ^ 8 * reason)
    let s := (s.ubump Reg.SUP_SUBST_COUNT_FAILED 1).modSubst (fun y => { y with reason := reason })
    let s := s.stopUnit x.dst false 2
    if x.state = 3 then
      let s := if x.benchEn then s else s.modSubst (fun y => { y with bench := x.src, sel := x.src })
      match x.card, x.config with
      | some k, some r => s.substBegin 1 x.dst x.src 6 k r
      | _, _ => s.modSubst (fun y => { y with state := 0, step := 0 })
    else
      (s.cardOffAir x.card).modSubst (fun y => { y with
        state := 0, step := 0, benchEn := false, card := none, config := none
        bench := if reason = 5 then x.dst else 7, sel := if reason = 5 then x.dst else 7 })

/-- The bench cannot be started: its rail has NORESP (R51, R438). -/
def State.benchCheck (s : State) : State :=
  let d := s.subst.dst
  if s.substBusy ∧ s.subst.step = 5 ∧ (s.pw d).state = .cold ∧ (s.pw d).move = .none ∧ (s.rail (d + 1)).noresp then s.substFail 4
  else s

/-- Step 5 (R433, R435): the bench is in RUN; its configuration, time and frequency are seeded. Step 6 waits for INITDONE. -/
def State.seedBench (s : State) : State :=
  let x := s.subst
  match x.card, x.config with
  | some k, some r =>
    let t := k.time + (s.centre.xcount - k.xcount) * k.ratio / 65536
    let freq : Int := ((k.ratio : Int) - (171798691840 : Int)) * 25000000 / 65536
    (s.modChan x.dst (opSeedUnit r k t freq)).modSubst (fun y => { y with step := 6 })
  | _, _ => s

/-- Step 7: the array is initialised, and the umpire commits. -/
def State.substInit (n : Nat) (s : State) : State :=
  if s.substBusy ∧ s.subst.step = 6 ∧ n = s.subst.dst then
    (s.modRun n opServe).modSubst (fun y => { y with step := 7 })
  else s

/-- The verdict of the umpire's commit. -/
def State.substVerdict (n code : Nat) (s : State) : State :=
  if s.substBusy ∧ s.subst.step = 7 ∧ n = s.subst.dst then
    if code = 0 then s.modSubst (fun y => { y with step := 8 }) else s.substFail 5
  else s

/-- Step 8: the bench is in the failed unit's mode (R433, R439). -/
def State.substDone (n : Nat) (s : State) : State :=
  let x := s.subst
  if s.substBusy ∧ x.step = 8 ∧ n = x.dst then
    let s := s.post 0x0C02 .sup x.dst x.src
    let s := (s.uset Reg.SUP_SUBST_TIME_TIME ((s.centre.xcount - x.t0) / 25)).ubump Reg.SUP_SUBST_COUNT_DONE 1
    let s := s.modSubst (fun y => { y with reason := 0, step := 0, card := none, config := none })
    if x.state = 1 then s.modSubst (fun y => { y with state := 2 })
    else (s.modSubst (fun y => { y with state := 0, bench := x.src })).showBench
  else s

/-! ### Triggers (R430 to R432) -/

/-- The bit of SUP_SUBST_CFG that enables a trigger. -/
def State.trigOn (s : State) (trig : Nat) : Bool :=
  if trig = 2 then s.uget Reg.SUP_SUBST_CFG_WDOG == 1
  else if trig = 3 then s.uget Reg.SUP_SUBST_CFG_STORM == 1
  else if trig = 4 then s.uget Reg.SUP_SUBST_CFG_THERM == 1
  else s.uget Reg.SUP_SUBST_CFG_ISOL == 1

/-- Triggers 2 to 5 of unit `n`, which was in `mode`, with programmes on air or not. -/
def State.trigger (n trig mode : Nat) (onAir : Bool) (s : State) : State :=
  let lost (s : State) : State := if onAir ∧ 4 ≤ trig then s.fault Reg.SUP_FAULT_STAT_OFFAIR else s
  if s.involved n then
    if n = s.subst.dst ∧ 3 ≤ trig then s.substFail 6 else s
  else if !inService mode || s.subst.bench == n then s
  else if !s.trigOn trig then lost (s.substNot n trig 2)
  else if !s.hasBench then lost (s.substNot n trig 1)
  else if (s.pickCard n).isSome then s.declare n trig
  else lost (s.declare n trig)

/-- The code that discards GO or SUBSTITUTE of unit `n` (R432). -/
def State.goCode (s : State) (n : Nat) : Nat :=
  if s.substBusy then codeBUSY
  else if !inService (s.modeOf n) || s.subst.bench == n then codeRANGE
  else if !s.hasBench then codeBENCH_UNIT
  else codeNONE

/-- The code that discards RETURN of unit `n` (R432, R439). -/
def State.returnCode (s : State) (n : Nat) : Nat :=
  let x := s.subst
  if s.substBusy then codeBUSY
  else if x.state ≠ 2 ∨ n ≠ x.failed ∨ (s.pw n).state ≠ .cold ∨ (s.pw n).move ≠ .none ∨ ¬ (s.pw n).trained then codeBENCH_UNIT
  else if !inService (s.modeOf x.server) then codeRANGE
  else codeNONE

/-- A return to unit `n` that R439 does not discard. -/
def State.giveBack (n : Nat) (s : State) : State :=
  match s.pickCard s.subst.server with
  | some (card, cfg) => s.substBegin 3 s.subst.server n 6 card cfg
  | none => s.substNoCard s.subst.server n 6

/-- BENCH_SEL_DRIVE: the setup time has passed since BENCH_EN rose (R38). -/
def State.driveSel (s : State) : State :=
  let x := s.subst
  if x.state = 1 ∧ x.step = 4 ∧ x.benchEn then
    (s.modSubst (fun y => { y with step := 5, sel := y.src, bench := 7 })).startBench.benchCheck
  else s

/-- The code that discards a write of `v` to SUP_BENCH (R425). -/
def State.benchCode (s : State) (v : Nat) : Nat :=
  if s.substBusy ∨ s.subst.benchEn then codeBUSY
  else if v ≤ 4 ∧ ¬ ((s.pw v).state = .cold ∧ (s.pw v).move = .none ∧ (s.pw v).trained) then codeBENCH_UNIT
  else codeNONE

/-- An accepted write to SUP_BENCH (R37, R425). -/
def State.designate (v : Nat) (s : State) : State :=
  s.modSubst (fun x => { x with bench := v, sel := if v ≤ 4 then v else 7 })

/-! ### What waits on a unit -/

/-- Unit `n` has stopped: a substitution goes on, and a request held for the stop is taken up. -/
def State.afterStop (n : Nat) (s : State) : State :=
  let s := if s.substBusy then
      if s.subst.step = 3 then s.routeBench
      else if s.subst.step = 5 ∧ n = s.subst.dst then s.startBench else s
    else s
  s.benchCheck.takeUp n

/-- What waited for unit `n`'s training or cooling goes on (R65, R433, R451). -/
def State.afterWait (n : Nat) (s : State) : State :=
  let s := if s.substBusy ∧ s.subst.step = 5 ∧ n = s.subst.dst then s.startBench else s
  s.benchCheck.takeUp n

/-- UNIT_START_COMPLETE: the steps of R72 are over for unit `n`. -/
def State.startDone (n : Nat) (r : StartResult) (s : State) : State :=
  let u := s.pw n
  let bench := s.substBusy && s.subst.step == 5 && n == s.subst.dst
  match u.move with
  | .start run =>
    if r = .badMemory ∧ u.state ≠ .held then s.trainingBad n run
    else if !run then s.startHeld n
    else if s.imageGood r then
      let s := s.enterRun n
      if bench then s.seedBench else s
    else
      let s := s.imageBad n
      if bench then s.substFail 4 else s
  | _ => s

/-- HBM_TRAINING_DONE: a full training ends with `failing` pseudo-channels failing (R63, R474). -/
def State.trainDone (n failing : Nat) (s : State) : State :=
  let u := s.pw n
  if !u.training then s
  else if failing = 0 then
    (s.modPower n (fun u => { u with trained := true, training := false, retried := false })).showBench
  else if !u.retried then s.modPower n (fun u => { u with retried := true })
  else
    let s := (s.modPower n (fun u => { u with trained := false, training := false, retried := false })).logOnly 0x0E04 5 n failing
    let bench := s.substBusy && s.subst.step == 5 && n == s.subst.dst
    let s := if u.held.isSome then
        let s := (s.modPower n (fun u => { u with held := none })).hubErr .sup codeTIMEOUT (0x40110 + 4 * n) 7
        (s.post 0x0007 .sup s.freeNat 250000).draw
      else s
    if bench then s.substFail 4 else s

end Sys2Proof.Machine
end

