-- ==== Sys2Proof/Machine/Thermal.lean ====
section
/-! DEFINITION. Housekeeping (18_thermal_power_telemetry.md): sensors and their cross-check, warning, ceiling and shutdown,
voltage steering, monitors, energy, and what a round does beside (R471, R477). Temperatures in 0.1 °C. -/

namespace Sys2Proof.Machine

/-! ### Reporting -/

/-- An event about a die, of block HKP (R98): on the queue of a unit in RUN, else on the hub queue. -/
def State.dieEvent (typ d a0 : Nat) (a1 : Int) (s : State) : State :=
  if d < 5 ∧ s.running d then s.unitEvent d typ Block.hkp.code a0 (patternOf 32 a1) false
  else s.post typ .hkp a0 (patternOf 32 a1)

/-- Raise an HKP interrupt source of a unit (R462). -/
def hkpInt (i : Nat) (c : Chan) : Chan := c.set (intRaw .hkp) (setBitsOf (c.get (intRaw .hkp)) i 1 1)

def State.dieInt (d i : Nat) (s : State) : State := s.modRun d (hkpInt i)

/-! ### Sensors (R441 to R445) -/

/-- A reading outside −55.0 to 150.0 °C is absent. -/
def presentTemp (t : Option Int) : Option Int := t.filter (fun t => decide (-550 ≤ t) && decide (t ≤ 1500))

/-- Neighbours of a die (R443): dies by code, stacks by 8 more than their unit. -/
def dieNeighbours (d : Nat) : List Nat :=
  match d with
  | 0 => [5, 1, 2, 8]
  | 1 => [5, 0, 3, 9]
  | 2 => [0, 3, 4, 10]
  | 3 => [1, 2, 4, 11]
  | 4 => [2, 3, 12]
  | _ => [0, 1]

/-- The die is powered (R443). -/
def State.diePowered (s : State) (d : Nat) : Bool :=
  d == 5 || (s.pw d).state == .held || (s.pw d).state == .run

/-- Readings of the counted neighbours of a die (R443); `raw` reads a sensor. -/
def State.counted (s : State) (raw : Nat → Option Int) (d : Nat) : List Int :=
  (dieNeighbours d).filterMap (fun x =>
    let use := if x < 8 then !(s.die x).suspect && s.diePowered x == s.diePowered d else s.diePowered d
    if use then raw x else none)

/-- A die after a round's reading (R444): `ns` are its counted neighbours. The rounding of the mean to 0.1 °C is free. -/
def judgeDie (r : Option Int) (ns : List Int) (up : Bool) (x : Die) : Die :=
  let cnt : Int := ns.length
  let sum := ns.foldl (· + ·) 0
  let est : Option Int := if cnt < 2 then none else some (if sum % cnt = 0 then sum / cnt else sum / cnt + b2n up)
  let far : Bool := match r with
    | some r => decide (2 ≤ cnt) && decide (120 * cnt < (r * cnt - sum).natAbs)
    | none => false
  let x := { x with seen := true, raw := r, est := est }
  let x := match r with
    | none => { x with suspect := true, off := 0, back := 0 }
    | some _ =>
      if x.suspect then
        if cnt < 2 then { x with suspect := false, back := 0 }
        else if far then { x with back := 0 }
        else if 2 ≤ x.back then { x with suspect := false, back := 0 }
        else { x with back := x.back + 1 }
      else if far then
        if 2 ≤ x.off then { x with suspect := true, off := 0, back := 0 } else { x with off := x.off + 1 }
      else { x with off := 0 }
  let t := if x.suspect then est.getD 1500 else r.getD 1500
  -- R446 and the exception of R449
  { x with
    temp := t
    warn := if t ≥ 1080 then true else if t < 1030 then false else x.warn
    hot := if x.shut || (far && !x.suspect) then x.hot else if t ≥ 1320 then x.hot + 1 else 0 }

/-! ### Shutdown (R449 to R453) -/

/-- A die shuts down (R449, R450, R453). THERM_SHUTDOWN goes on the hub queue: the unit's own is reset with it. Where the
hub itself shuts down, the actions of R61 are taken, POWER of SUP_FAULT_STAT among them, with THERM_SHUTDOWN as the log
entry, and its queue holds the record after its reset. DEDUCED (log entry 102): a forced shutdown of a unit that is COLD
marks the die shut, which R452 shows on THERM_TRIP#, and posts nothing. -/
def State.shutDie (d link : Nat) (t : Int) (forced : Bool) (s : State) : State :=
  let s := s.modDie d (fun x => { x with shut := true, hot := 0 })
  let s := s.modUmp (fun u => { u with trip := true, tripAt := s.centre.xcount })
  if d = 5 then
    let s := (s.fault Reg.SUP_FAULT_STAT_POWER).modUmp (fun u => { u with dark := true })
    ((s.faultEvent 0x0B03 0xF 0 d (patternOf 32 t) 0 0).deviceReset link).hubRecord 0x0B03 .hkp d (patternOf 32 t)
  else
  let gone : Bool := (s.pw d).state == .cold && (s.pw d).move == .none
  if gone && forced then s
  else
  let s := s.post 0x0B03 .hkp d (patternOf 32 t)
  if gone then s
  else
    let mode := s.modeOf d
    let onAir := s.onAir d
    (s.stopUnit d false 5).trigger d 4 mode onAir

/-- FORCE and FORCE_SHUTDOWN of the units in a mask (R453, R461). -/
def State.forceDies (mask : Nat) (s : State) : State :=
  forN 5 (fun n s => if bitAt mask n && !(s.die n).shut then s.shutDie n s.ump.straps.link 1320 true else s) s

/-- The ceiling of a unit after a round (R447). -/
def nextCeiling (c : Nat) (t : Int) : Nat :=
  let up := if t ≥ 1150 then min 7 (1 + ((t - 1150) / 15).toNat) else 0
  if c < up then up else if 0 < c ∧ t ≤ 1150 + 15 * ((c : Int) - 1) - 10 then c - 1 else c

/-- The ceiling of a unit in RUN changes (R447, R184). -/
def ceilingRound (t : Int) (c : Chan) : Chan :=
  let old := c.get Reg.HKP_THERM_CEIL
  let v := nextCeiling old t
  if v = old then c else setCeiling v (hkpInt 1 (c.post 0x0B02 .hkp v (patternOf 32 t)))

/-- One die's part of a round (R444 to R451). -/
def State.roundDie (raw : Nat → Option Int) (link : Nat) (s0 : State) (d : Nat) (s : State) : State :=
  let x := s.die d
  let y := judgeDie (raw d) (s0.counted raw d) (bitAt s0.freeNat d) x
  let s := s.modDie d (fun _ => y)
  let s := if y.suspect && !x.suspect then (s.dieEvent 0x0B04 d d 0).dieInt d 2 else s
  let s := if y.warn && !x.warn then (s.dieEvent 0x0B01 d d y.temp).dieInt d 0 else s
  let s := if d < 5 then s.modRun d (ceilingRound y.temp) else s
  if y.shut then
    if y.temp < 1170 then
      let s := s.modDie d (fun x => { x with shut := false, hot := 0 })
      if d = 5 then (s.modUmp (fun u => { u with dark := !(u.pwrGood && u.vddHub) })).deviceReset link else s
    else s
  else if 2 ≤ y.hot then s.shutDie d link y.temp false
  else s

/-! ### Voltage (R454 to R457, R462) -/

/-- Guard band of a die's rail in mV. -/
def State.guard (s : State) (d : Nat) : Nat :=
  if d < 5 then (s.chan d).get Reg.HKP_AVSCFG_GUARD else Config.hubGuard

/-- Steering of the rail of die `d` at margin `m` (R454). How many of the four steps of a raise the margin needs is free. -/
def State.steer (d m : Nat) (s : State) : State :=
  let r := if d = 5 then 0 else d + 1
  let x := s.rail r
  let mt := marginTargetOf d
  let g := s.guard d
  if x.noresp then s
  else if m < mt + 2 * g then
    let n := 1 + s.freeNat % 4
    ((s.modRail r (fun x => { x with calm := 0 })).railAdd r (n : Nat)).draw
  else if mt + 2 * (g + 20) < m then
    if 15 ≤ x.calm then (s.modRail r (fun x => { x with calm := 0 })).railAdd r (-1)
    else s.modRail r (fun x => { x with calm := x.calm + 1 })
  else s.modRail r (fun x => { x with calm := 0 })

/-- MARGIN_COMPARATOR: one step up at once, under the spacing of R50 (R455). -/
def State.fastStep (r : Nat) (s : State) : State :=
  if 6 ≤ r ∨ (s.rail r).noresp then s else s.railAdd r 1

/-- AVS_STEP_DUE: the next step of a raise, 50 µs after the last (R50, R454). -/
def State.stepDue (r : Nat) (s : State) : State := if s.railFree r then s.railStep r else s

/-- Range of a voltage monitor's rail in mV (R47). -/
def monitorRange (k : Nat) : Nat × Nat :=
  match k with
  | 0 => (700, 800)
  | 1 => (870, 930)
  | 2 => (1160, 1240)
  | _ => (390, 410)

/-- The telemetry of a unit in RUN (R442, R457, R462). -/
def State.telemetry (n : Nat) (k : Round) (s : State) : State :=
  let mv := k.monitors.getD n []
  let before := (s.rail (n + 1)).monOut
  let out := (List.range 4).map (fun i =>
    let v := mv.getD i 0
    if (monitorRange i).1 ≤ v ∧ v ≤ (monitorRange i).2 then 0 else before.getD i 0 + 1)
  let need := k.needs.getD n 0
  let s := s.modRail (n + 1) (fun r => { r with monOut := out.map (min 3) })
  let s := s.modRun n (fun c =>
    let c := forN 4 (fun i c =>
      let c := (c.set (Reg.HKP_VMON_MV i) (mv.getD i 0)).set (Reg.HKP_VMON_RANGE i) (b2n (decide (3 ≤ out.getD i 0)))
      if out.getD i 0 = 3 then (hkpInt 4 c).input .hkp else c) c
    let c := (c.set Reg.HKP_AGE_MARGIN (min 1023 (k.margins.getD n 0))).set Reg.HKP_AGE_NEED need
    if 780 < need ∧ ¬ c.flag Reg.HKP_AGE_AGED then hkpInt 3 (c.set Reg.HKP_AGE_AGED 1) else c)
  match presentTemp (k.stackTemps.getD n none) with
  | some t => s.modRun n (memTemp t)
  | none => s

/-! ### The round (R441, R471, R477) -/

/-- Causes that are still present set their bits again (R477). -/
def State.faultsAgain (s : State) : State :=
  let u := s.ump
  let on (b : Bool) (f : Fld) (s : State) : State := if b then s.fault f else s
  s |> on u.dark Reg.SUP_FAULT_STAT_POWER
    |> on ((List.range 5).any (fun n => (s.pw n).isolated)) Reg.SUP_FAULT_STAT_ISOLATED
    |> on (u.dies.any (·.shut)) Reg.SUP_FAULT_STAT_THERM
    |> on ((List.range 5).any (fun n => s.running n && (s.chan n).flag Reg.MEM_STAT_STORM)) Reg.SUP_FAULT_STAT_MEMORY
    |> on (u.rails.any (·.noresp)) Reg.SUP_FAULT_STAT_AVS
    |> on (u.dies.any (·.suspect)) Reg.SUP_FAULT_STAT_SENSOR

/-- The umpire's lane copies after a round (R471). -/
def State.laneCopies (s : State) : State :=
  s.modUmp (fun u => { u with lanes := (List.range 5).map (fun n =>
    if s.running n then (laneSummary (s.chan n), 0)
    else
      let l := u.lanes.getD n ([], 0)
      (l.1, min 7 (l.2 + 1))) })

/-- The Status read and the Voltage read of a round (R48, R51). DESIGN CHOICE (log entry 76): a round issues both on every
rail that it steers, the Status read is answered whenever the Voltage read is, and one that is not answered is what
AVS_TIMEOUT then retries. -/
def State.railRead (r : Nat) (v : Option Nat) (s : State) : State :=
  if (s.rail r).noresp then s
  else
    let s := (s.avsPut r .statusRead).avsBegin r .voltageRead
    match v with
    | some v => (s.modRail r (fun x => { x with measured := v % 1024 })).avsAnswer r
    | none => s

/-- HOUSEKEEPING_ROUND. -/
def State.round (k : Round) (s : State) : State :=
  let raw (d : Nat) : Option Int := presentTemp (if d < 8 then k.dies.getD d none else k.stackTemps.getD (d - 8) none)
  let s0 := s
  let s := forN 6 (fun d s => State.roundDie raw k.link s0 d s) s.draw
  let s := s.modUmp (fun u => { u with seen := true, stackTemps := (List.range 5).map (fun i => raw (8 + i)) })
  let s := forN 5 (fun n s => if s.running n then s.telemetry n k else s) s
  let s := forN 6 (fun d s =>
    if d = 5 ∨ s.running d then
      let r := if d = 5 then 0 else d + 1
      (s.railRead r (k.volts.getD d none)).steer d (k.margins.getD d 0)
    else s) s
  s.laneCopies.faultsAgain

/-- THERM_TRIP_RELEASE (R452). -/
def State.tripRelease (s : State) : State :=
  if !s.ump.dies.any (·.shut) && decide (s.ump.tripAt + 2500000 ≤ s.centre.xcount) then
    s.modUmp (fun u => { u with trip := false })
  else s

/-! ### Energy (R458 to R460) -/

/-- 0.01 nJ per luma of `uj` µJ over `luma`; a value above 16 bits is free. -/
def energyPer (free uj luma : Nat) : Nat :=
  if luma = 0 then 0xFFFF
  else
    let v := uj * 100000 / luma
    if v < 65536 then v else free % 65536

/-- A unit's second. -/
def energyUnit (enc unit : Nat) (c : Chan) : Chan :=
  let c := (c.inc Reg.HKP_ENERGY_UJ unit).inc Reg.HKP_ENERGY_ENC_UJ enc
  let c := (c.set Reg.HKP_EPP_ENC (energyPer c.freeNat enc c.luma)).set Reg.HKP_EPP_UNIT (energyPer (c.freeNat / 65536) unit c.luma)
  let c : Chan := { c.inc Reg.HKP_LUMA_COUNT c.luma with luma := 0 }
  c.draw

/-- ENERGY_SECOND. SUP_DEV_EPP counts what every unit coded in the second, also one that has left RUN since. -/
def State.energy (e : EnergyReport) (s : State) : State :=
  let total := s.ump.lumaGone + (List.range 5).foldl (fun x n => x + if s.running n then (s.chan n).luma else 0) 0
  let s := s.modUmp (fun u => { u with lumaGone := 0 })
  let s := forN 5 (fun n s => s.modRun n (energyUnit (e.enc.getD n 0) (e.unit.getD n 0))) s
  let s := s.uset Reg.SUP_DEV_ENERGY_UJ (s.uget Reg.SUP_DEV_ENERGY_UJ + e.package)
  (s.uset Reg.SUP_DEV_EPP_EPP (energyPer s.freeNat e.package total)).draw

end Sys2Proof.Machine
end

