-- ==== Sys2Proof/Machine/Flush.lean ====
section
/-! DEFINITION. What a command brings with it: signals of the units reach hub and umpire (R97, R119, R427, R429, R431),
the engines go to work, interrupts and FAULT# follow; and the frame in which every command runs. -/

namespace Sys2Proof.Machine

/-! ### Signals of the units -/

/-- A scorecard's transfer to the umpire begins; its XCOUNT is the crystal count (R427, R428). -/
def State.cardIn (n : Nat) (sc : Scorecard) (s : State) : State :=
  s.modCards n (fun k => { k with transfer := some { sc with xcount := s.centre.xcount } })

/-- The configuration record of a commit that takes effect (R429); every watchdog of the unit waits for a first retirement
again (R431). -/
def State.configIn (n : Nat) (r : ConfigRec) (s : State) : State :=
  (s.modCards n (fun k => { k with configs := (r :: k.configs).take 2, newest := some r.commit })).modUmp (fun u =>
    { u with modes := u.modes.set n (s.chan n).mode, watches := u.watches.filter (fun w => w.unit != n) })

/-- The umpire is told of a retirement (R431). -/
def State.retiredIn (n p span : Nat) (s : State) : State :=
  s.modUmp (fun u =>
    { u with watches := u.watches.filter (fun w => !(w.unit == n && w.prog == p)) ++
        [{ unit := n, prog := p, at_ := s.centre.xcount, span := span }] })

/-- A storm sets MEMORY and triggers a substitution (R416, R430, R468). -/
def State.stormIn (n : Nat) (s : State) : State :=
  (s.fault Reg.SUP_FAULT_STAT_MEMORY).trigger n 3 (s.modeOf n) (s.onAir n)

/-- A signal of unit `n` arrives. -/
def State.carry (n : Nat) (x : Signal) (s : State) : State :=
  match x with
  | .event typ block a0 a1 => s.unitEvent n typ block a0 a1 false
  | .record r bytes => s.ringRecord (32 * n + r) bytes
  | .hostPacket _ r bytes => s.ringRecord (32 * n + r) bytes
  | .take src f => s.take n src f
  | .storm => s.stormIn n
  | .scorecard sc => s.cardIn n sc
  | .config r => s.configIn n r
  | .verdict code => s.substVerdict n code
  | .commitDone => s.substDone n
  | .initDone => s.substInit n
  | .rowRetired p span => s.retiredIn n p span
  | .training t => s.modPower n (fun u => { u with recal := some t })
  | .out o => if s.drives o then s.put o else s

def Signal.isStorm (x : Signal) : Bool :=
  match x with
  | .storm => true
  | _ => false

/-- The signals of a unit, in their order but for a storm, whose trigger may reset the unit. -/
def State.flush (n : Nat) (s : State) : State :=
  let l := (s.chan n).outbox
  if l.isEmpty then s
  else (l.filter (fun x => !x.isStorm) ++ (l.filter Signal.isStorm).take 1).foldl (fun s x => s.carry n x)
    (s.modChan n (fun c => { c with outbox := [] }))

def State.flushAll (s : State) : State := forN 5 (fun n s => s.flush n) s

/-! ### The frame of a command -/

/-- All that follows a command's own effect. -/
def State.settle (before s : State) : State :=
  let s := s.flushAll.flushAll
  let s := if s.dlUp then s.pumpAll.flushAll else s
  State.finish before s

/-- Nothing has been put out yet. -/
def State.quiet (s : State) : State := { s with centre := { s.centre with out := [] } }

/-- What a command makes of the state: what it does, then, with VDD_AUX in range, all that follows. -/
def effect (f : State → State) (s : State) : State :=
  let q := s.quiet
  let r := f q
  if r.ump.on then State.settle q r else r

/-- A command runs; the queue is not its concern. -/
def runAlways (f : State → State) (s : State) : Host.Outcome State Fault Refusal :=
  .next { effect f s with pending := s.pending }

/-- The same while the umpire runs (R54): with VDD_AUX out of range nothing happens (R41, R55). -/
def run (f : State → State) (s : State) : Host.Outcome State Fault Refusal :=
  runAlways (fun s => if s.ump.on then f s else s) s

/-- An event within unit `n`, which happens while the unit is in RUN. -/
def unitOp (n : Nat) (f : Chan → Chan) (s : State) : Host.Outcome State Fault Refusal := run (State.modRun n f) s

end Sys2Proof.Machine
end

