-- ==== Sys2Proof/Machine/Bus.lean ====
section
/-! DEFINITION. Register accesses (04_register_model.md): routing, discards, registers, 64-bit pairs, tables; and what the
write of each register with an effect of its own brings about. -/

namespace Sys2Proof.Machine

/-! ### Where a register stands -/

inductive Site where
  | hub
  | unit (n : Nat)
  deriving DecidableEq, Repr

def Site.hit (x : Site) (off : Nat) : Hit :=
  match x with
  | .hub => hubHit off
  | .unit _ => unitHit off

def Site.rst (x : Site) : Nat → Word :=
  match x with
  | .hub => hubReset
  | .unit _ => unitReset

/-- PF BAR0 offset (R76). -/
def Site.pf (x : Site) (off : Nat) : Nat :=
  match x with
  | .hub => off
  | .unit n => bar0Unit n off

def State.bankAt (s : State) (x : Site) (b : Block) : RegBank :=
  match x with
  | .hub => s.bankOf b
  | .unit n => (s.chan n).bank

def State.modBankAt (x : Site) (b : Block) (f : RegBank → RegBank) (s : State) : State :=
  match x with
  | .hub => s.modBank b f
  | .unit n => s.modRun n (fun c => { c with bank := f c.bank })

/-- A commit of the site's unit is pending, or accepted and not yet in effect (R92). -/
def State.frozen (s : State) (x : Site) : Bool :=
  match x with
  | .hub => false
  | .unit n => (s.chan n).committing

/-- Staged bits of a key. -/
def Site.mask (x : Site) (k : Nat) : Nat :=
  match x with
  | .hub => 0
  | .unit _ => stagedMask k

/-- The word at a key: the active copy, or the staged copy with its live fields (R84, R89, R504). -/
def State.copyAt (s : State) (x : Site) (b : Block) (k : Nat) (active : Bool) : Word :=
  let r := s.bankAt x b
  let v := storeGet x.rst r.regs k
  if active then v else mergeBits (x.mask k) (storeGet x.rst r.staged k) v

/-- Store a word: its staged bits in the staged copy, the others in the one live copy. -/
def State.putAt (x : Site) (b : Block) (k v : Nat) (s : State) : State :=
  let w := BitVec.ofNat 32 v
  let m := x.mask k
  s.modBankAt x b (fun r => { r with
    regs := storeSet x.rst r.regs k (mergeBits m (storeGet x.rst r.regs k) w)
    staged := if m = 0 then r.staged else storeSet x.rst r.staged k (mergeBits m w (storeGet x.rst r.staged k)) })

/-- VIEW of a block: reads return active copies (R84). -/
def State.viewActive (s : State) (x : Site) (b : Block) : Bool :=
  bitAt (storeGet x.rst (s.bankAt x b).regs (b.common 0x010)).toNat 0

/-- What a read of a word finds: composed, or stored. -/
def State.readWord (s : State) (x : Site) (p : Path) (b : Block) (k : Nat) : Nat :=
  let v := match x with
    | .hub => s.hubView p k
    | .unit n => s.unitView n k
  match v with
  | some v => v % 2 ^ 32
  | none => (s.copyAt x b k (s.viewActive x b)).toNat

/-! ### Discards (R79, R80, R82, R93) -/

/-- Discard an access: the error goes to block `b`, at the BAR0 offset `off`. -/
def State.discardAt (x : Site) (b : Block) (code off : Nat) (p : Path) (arg1 : Nat) (s : State) : State :=
  match x, b.isUnit with
  | .unit n, true => s.modRun n (discardUnit b code off (pathCode p) arg1)
  | _, _ => s.discardHub b code off (pathCode p) arg1

/-- An access to the window of a unit that is not in RUN (R82). -/
def State.unavailable (n off : Nat) (p : Path) (write : Bool) (s : State) : State :=
  let s := if write then s.hubErr .hst codeUNAVAILABLE off (pathCode p) else s.hbump (errCount .hst) 1
  let (last, k) := s.hub.unavail.getD n (none, 0)
  let now := s.centre.xcount
  let due : Bool := match last with
    | none => true
    | some t => decide (t + xMs ≤ now)
  if due then
    (s.modHub (fun h => { h with unavail := h.unavail.set n (some now, 0) })).post 0x0006 .hst off (k + 1)
  else s.modHub (fun h => { h with unavail := h.unavail.set n (last, k + 1) })

/-! ### Tables (R88) -/

/-- Entry and auto-increment of a table's IDX. -/
def idxEntry (w : Nat) : Nat := w % 2 ^ 16
def idxAinc (w : Nat) : Bool := bitAt w 31

/-- Word `i` of entry `e` of a table: composed, or stored. `k` is the key of its IDX register. -/
def State.entryAt (s : State) (x : Site) (p : Path) (b : Block) (k e i : Nat) (active : Bool) : Word :=
  match x with
  | .hub =>
    if k = 0x41100 then BitVec.ofNat 32 (wordAt (s.logSlot e) (4 * i))
    else if k = 0x42140 then
      let n := e / 256
      let w := e / 128 % 2
      let card := match s.ump.snaps.find? (fun y => y.1 == p && y.2.1 == n && y.2.2.1 == w) with
        | some y => y.2.2.2
        | none => s.cardOf n w
      BitVec.ofNat 32 (wordAt (cardChunk card (e % 128)) (4 * i))
    else if k = 0x44140 then BitVec.ofNat 32 (wordOfNats (s.laneCopy (e / 12)) (e % 12))
    else s.copyAt x b (entryKey k e i) active
  | .unit n =>
    if k = 0x102100 then BitVec.ofNat 32 (ctxWord (s.chan n) e i) else s.copyAt x b (entryKey k e i) active

/-- Loading chunk 0 of a scorecard through SUP_SC_IDX takes a snapshot for the path. -/
def State.snapCard (x : Site) (p : Path) (k e : Nat) (s : State) : State :=
  if x = .hub ∧ k = 0x42140 ∧ e % 128 = 0 then
    let y := (e / 256, e / 128 % 2, s.cardOf (e / 256) (e / 128 % 2))
    s.modUmp (fun u => { u with snaps := (p, y) :: u.snaps.filter (fun z => z.1 != p) })
  else s

/-- Load entry `e` into the buffers. DEDUCED (log entry 80): VIEW chooses at the read of DATAi between the entry's staged and
active copy, and a store, which writes the staged copy, starts from the staged one. -/
def State.loadTable (x : Site) (p : Path) (b : Block) (t : TableDef) (k e : Nat) (ainc : Bool) (s : State) : State :=
  let s := s.snapCard x p k e
  let words (active : Bool) : List Word := (List.range t.words).map (fun i => s.entryAt x p b k e i active)
  let buf : TableBuf := { r := words false, active := words true, w := words false }
  s.modBankAt x b (fun r => { r with
    regs := storeSet x.rst r.regs k (BitVec.ofNat 32 (e + 2 ^ 31 * b2n ainc))
    bufs := (k, buf) :: r.bufs.filter (fun y => y.1 != k) })

/-- The IDX register. -/
def State.idxAt (s : State) (x : Site) (b : Block) (k : Nat) : Nat := (storeGet x.rst (s.bankAt x b).regs k).toNat

/-- The buffers are loaded before their first use. -/
def State.tableReady (x : Site) (p : Path) (b : Block) (t : TableDef) (k : Nat) (s : State) : State :=
  if (s.bankAt x b).bufs.any (fun y => y.1 == k) then s
  else s.loadTable x p b t k (idxEntry (s.idxAt x b k)) (idxAinc (s.idxAt x b k))

def State.tableBuf (s : State) (x : Site) (b : Block) (k : Nat) : TableBuf :=
  (((s.bankAt x b).bufs.find? (fun y => y.1 == k)).map (·.2)).getD {}

/-- With AINC set, the next entry is loaded. -/
def State.tableNext (x : Site) (p : Path) (b : Block) (t : TableDef) (k : Nat) (s : State) : State :=
  let w := s.idxAt x b k
  if idxAinc w then s.loadTable x p b t k ((idxEntry w + 1) % t.entries) true else s

/-- Key of a table's IDX register from its page. -/
def idxKey (b : Block) (page : Nat) (t : TableDef) : Nat := b.base + 0x1000 * page + t.idxOff

/-- Ring of a ring table's page and entry. -/
def ringOfPage (page e : Nat) : Nat := if page = 7 then 160 else 32 * (page - 2) + e

/-- The checks that tie the words of an entry together: taps of a scaler (R215), a mask (R404), a ring (HST page 2). -/
def State.entryCode (s : State) (x : Site) (b : Block) (page : Nat) (t : TableDef) (e : Nat) (ws : List Nat) : Nat :=
  match t.cross with
  | .coef =>
    let taps := (List.range 8).map (fun i => signedOf 13 (bitsOf (ws.getD (i / 2) 0) (16 * (i % 2)) 13))
    let upright := decide (64 ≤ e) && !(taps.getD 6 0 == 0 && taps.getD 7 0 == 0)
    if taps.any (fun v => decide (v < -2048) || decide (2048 < v)) || taps.foldl (· + ·) 0 != 2048 || upright then codeRANGE
    else codeNONE
  | .map => if memMaskOk e (ws.getD 0 0 + 2 ^ 32 * ws.getD 1 0) then codeNONE else codeRANGE
  | .ring =>
    let old (i : Nat) : Nat := (s.copyAt x b (entryKey (idxKey b page t) e i) true).toNat
    let same := old 2 == ws.getD 2 0 && old 3 == ws.getD 3 0 && bitsOf (old 4) 0 5 == bitsOf (ws.getD 4 0) 0 5
    if bitAt (old 5) 17 && !same then codeBUSY else codeNONE
  | _ => codeNONE

/-- A ring's ENABLE after a store (R113, R116). -/
def State.ringStored (i : Nat) (was : Bool) (s : State) : State :=
  if s.ringOn i && !was then s.ringStart i
  else if was && !s.ringOn i then s.ringHalt i
  else s

/-- The write of the last data word stores the write buffer (R88). -/
def State.storeEntry (x : Site) (p : Path) (b : Block) (page : Nat) (t : TableDef) (off v : Nat) (s : State) : State :=
  let k := idxKey b page t
  let e := idxEntry (s.idxAt x b k)
  let ws := (s.tableBuf x b k).w.map BitVec.toNat
  let fields (i : Nat) : List FieldDef := (t.fields.filter (fun f => f.1 == i)).map (·.2)
  let codes := ((List.range t.words).map (fun i => fieldsCode (fields i) t.staged (ws.getD i 0))).filter (· != 0)
  let code := match codes with
    | [] => s.entryCode x b page t e ws
    | c :: cs => cs.foldl min c
  if code ≠ 0 then s.discardAt x b code (x.pf off) p v
  else
    let i := ringOfPage page e
    let ring := t.cross == .ring
    let was := ring && s.ringOn i
    let s := forN t.words (fun j s =>
      let key := entryKey k e j
      s.putAt x b key (storeFields (fields j) (fun _ => true) (s.copyAt x b key false).toNat (ws.getD j 0))) s
    let s := if ring then s.ringStored i was else s
    s.tableNext x p b t k

/-! ### The common area (R84) -/

/-- Fields of the common register at an offset. -/
def commonFields (off : Nat) : Option (List FieldDef) :=
  let whole (acc : Acc) : List FieldDef := [{ name := "", hi := 31, lo := 0, acc := acc, reset := 0 }]
  if off = 0x000 then some [{ name := "ID", hi := 27, lo := 0, acc := .ro, reset := 0 }]
  else if off = 0x004 then some (whole .ro)
  else if off = 0x010 then some [{ name := "VIEW", hi := 0, lo := 0, acc := .rw, reset := 0 },
    { name := "REVERT", hi := 1, lo := 1, acc := .wo, reset := 0 }, { name := "BLOCKCTL", hi := 31, lo := 8, acc := .rw, reset := 0 }]
  else if off = 0x014 then some [{ name := "STAT", hi := 2, lo := 0, acc := .ro, reset := 0 },
    { name := "BLOCKSTAT", hi := 31, lo := 8, acc := .ro, reset := 0 }]
  else if off = 0x020 ∨ off = 0x028 then some (whole .ro)
  else if off = 0x024 then some (whole .rw)
  else if off = 0x02C then some (whole .wo)
  else if off = 0x030 then some [{ name := "CODE", hi := 15, lo := 0, acc := .ro, reset := 0 },
    { name := "CLEAR", hi := 31, lo := 31, acc := .wo, reset := 0 }]
  else if off = 0x034 then some (whole .rc)
  else if off = 0x038 then some [{ name := "INFO", hi := 29, lo := 0, acc := .ro, reset := 0 }]
  else if off = 0x03C then some [{ name := "LIMIT", hi := 23, lo := 0, acc := .rw, reset := 1000, zero := true }]
  else none

def commonWrite (x : Site) (p : Path) (b : Block) (o off v : Nat) (s : State) : State :=
  match commonFields o with
  | none => s.discardAt x b codeNO_REG (x.pf off) p v
  | some fs =>
    let code := fieldsCode fs false v
    let revert := o == 0x010 && bitAt v 1
    let code := if code = 0 ∧ revert ∧ s.frozen x then codeCOMMIT_PENDING else code
    if code ≠ 0 then s.discardAt x b code (x.pf off) p v
    else
      let key := b.common o
      let old := (s.copyAt x b key true).toNat
      let raw := (s.copyAt x b (b.common 0x020) true).toNat
      if o = 0x02C then s.putAt x b (b.common 0x020) ((BitVec.ofNat 32 raw) &&& ~~~(BitVec.ofNat 32 v)).toNat
      else if o = 0x030 then if bitAt v 31 then (s.putAt x b key 0).putAt x b (b.common 0x038) 0 else s
      else
        let s := if fs.any (fun f => f.acc == .rw) then s.putAt x b key (storeFields fs (fun _ => true) old v) else s
        match x with
        | .unit n => if revert then s.modRun n (fun c => revertBlock c b) else s
        | .hub => s

/-- Index and data tables of a block (TABLES): those of each page that has one. -/
def Block.tables (b : Block) : Nat := (tablesOf b).foldl (fun n t => n + t.pages) 0

/-- A read of the common register at `o`; COUNT goes back to zero. -/
def commonRead (x : Site) (b : Block) (o : Nat) (s : State) : Nat × State :=
  let get (o : Nat) : Nat := (s.copyAt x b (b.common o) true).toNat
  if o = 0x000 then
    (b.code + 2 ^ 8 * (Config.blockVersion b.code % 2 ^ 16) + 2 ^ 24 * (match x with
      | .hub => 0xF
      | .unit n => n), s)
  else if o = 0x004 then
    let staged := (regsOf b).any (·.staged) || (tablesOf b).any (·.staged)
    (b.pages + 2 ^ 8 * b.tables + 2 ^ 16 * b2n staged + 2 ^ 17 * (Config.blockCap b.code % 2 ^ 15), s)
  else if o = 0x010 ∨ o = 0x020 ∨ o = 0x024 ∨ o = 0x030 ∨ o = 0x038 ∨ o = 0x03C then (get o, s)
  else if o = 0x014 then
    let err := b2n (get 0x030 % 2 ^ 16 != 0)
    match x with
    | .hub => (err, s)
    | .unit n =>
      let c := s.chan n
      (err + 2 * b2n (blockDirty c b) + 4 * b2n (c.get Reg.SCH_COMMIT_STAT_STATE == 1), s)
  else if o = 0x028 then (((BitVec.ofNat 32 (get 0x020)) &&& (BitVec.ofNat 32 (get 0x024))).toNat, s)
  else if o = 0x034 then (get o, s.putAt x b (b.common o) 0)
  else (0, s)

/-! ### What writes bring about -/

/-- Host address of the image (SUP_IMG_ADDR). -/
def State.imgAddr (s : State) : Nat :=
  (storeGet hubReset s.ump.bank.regs 0x40150).toNat + 2 ^ 32 * (storeGet hubReset s.ump.bank.regs 0x40154).toNat

/-- GO of an image load (R68, R94): ADDR and LEN are read now, engine 41 begins, and the end comes with IMG_LOAD_DONE. -/
def State.imgGo (s : State) : State :=
  let len := s.uget Reg.SUP_IMG_LEN_LEN
  if len = 0 then (s.uset Reg.SUP_IMG_STAT_RESULT 3).post 0x0C04 .sup 3 0
  else (s.uset Reg.SUP_IMG_STAT_RESULT 1).modUmp (fun u => { u with loading := some { addr := s.imgAddr, len := len } })

/-- CLEAR of the log (R464): every slot is emptied, NEXT goes on. -/
def State.logClear (s : State) : State :=
  let k := s.ump.log.entries.length
  (s.modUmp (fun u => { u with log := { u.log with entries := [] } })).logOnly 0x0E06 7 k 0

/-- The code with which the owner of a register discards a write that its fields allow. -/
def State.ownerCode (s : State) (x : Site) (d : RegDef) (page rep v : Nat) : Nat :=
  match d.act, x with
  | .unitCtl, _ => s.requestCode rep (bitsOf v 0 2) (bitsOf v 8 8)
  | .imgCtl, _ => if bitAt v 0 ∧ s.uget Reg.SUP_IMG_STAT_RESULT = 1 then codeBUSY else codeNONE
  | .bench, _ => s.benchCode v
  | .substCtl, _ =>
    if bitAt v 8 then s.goCode (bitsOf v 0 3) else if bitAt v 9 then s.returnCode (bitsOf v 0 3) else codeNONE
  | .doorbell, _ => if s.doorbellBad (ringOfPage page rep) v then codeRANGE else codeNONE
  | .commit, .unit n => if bitAt v 0 ∧ (s.chan n).committing then codeBUSY else codeNONE
  | .lnkPctl, .unit n => if bitAt v 2 ∧ (s.chan n).flag (Reg.LNK_PSTAT_SCANBUSY (page - 1)) then codeBUSY else codeNONE
  | .audCtl, .unit n => audCtlCode (s.chan n) (page - 1) rep v
  | _, _ => codeNONE

/-- TRIGGER shows the command also when it is discarded (SUP_SUBST_STAT). -/
def State.substRefused (d : RegDef) (v : Nat) (s : State) : State :=
  if d.act = .substCtl then
    let trig := if bitAt v 8 then 0 else 6
    s.modSubst (fun y => { y with trigger := trig })
  else s

/-- A word of a host time sample is written (R342): the third completes it. -/
def hostWord (off v : Nat) (c : Chan) : Chan :=
  if off = Reg.TIM_HOSTTIME0_TIME.key then c.modTim (fun t => { t with host0 := v })
  else if off = Reg.TIM_HOSTTIME1_TIME.key then c.modTim (fun t => { t with host1 := v })
  else timHostSample c (v / 2 ^ 16 + 2 ^ 16 * c.tim.host0 + 2 ^ 48 * (c.tim.host1 + 2 ^ 32 * (v % 2 ^ 16)))

/-- What an accepted write of `v` does beyond storing it; `off` is the register's offset at its site. -/
def State.act (x : Site) (d : RegDef) (page rep off v : Nat) (s : State) : State :=
  match x with
  | .hub =>
    match d.act with
    | .quench => if bitAt v 0 then s.quenchStart (page - 2) false else if bitAt v 1 then s.quenchResume (page - 2) else s
    | .inject => s.hubEvent 0x00FE .hst v 0 true
    | .unitCtl => s.request rep (bitsOf v 0 2) (bitsOf v 8 8)
    | .imgCtl => if bitAt v 0 then s.imgGo else s
    | .logCtl => if bitAt v 0 then s.logClear else s
    | .bench => s.designate v
    | .substCtl =>
      if bitAt v 8 then s.declare (bitsOf v 0 3) 0 else if bitAt v 9 then s.giveBack (bitsOf v 0 3) else s
    | .thermCtl => s.forceDies v
    | _ => s
  | .unit n =>
    match d.act with
    | .inject => s.unitEvent n 0x00FE Block.evt.code v 0 true
    | .commit => if bitAt v 0 then s.modRun n (actCommit v) else s
    | .flip => s.modRun n (actFlip (page - 8) v)
    | .encPctl => s.modRun n (actEncPctl (page - 1) v)
    | .decCtl => s.modRun n (actDecCtl v)
    | .timPadj => s.modRun n (fun c => timPhaseAdjust c (signedOf 64 v))
    | .hostTime => s.modRun n (hostWord off v)
    | .lnkPctl => s.modRun n (actPctl (page - 1) v)
    | .audCtl => s.modRun n (actAudCtl (page - 1) rep v)
    | _ => s

/-! ### Registers -/

/-- The whole value of a register whose low word has key `k`: the words of its copies. -/
def State.regAt (s : State) (x : Site) (b : Block) (d : RegDef) (k : Nat) (active : Bool) : Nat :=
  (s.copyAt x b k active).toNat + (if d.words = 2 then 2 ^ 32 * (s.copyAt x b (k + 4) active).toNat else 0)

def State.putReg (x : Site) (b : Block) (d : RegDef) (k v : Nat) (s : State) : State :=
  let s := s.putAt x b k (v % 2 ^ 32)
  if d.words = 2 then s.putAt x b (k + 4) (v / 2 ^ 32) else s

/-- A whole register is written with `full`; `v` is the word written (R90 to R94, R504). -/
def State.storeReg (x : Site) (p : Path) (b : Block) (d : RegDef) (page rep k off full v : Nat) (s : State) : State :=
  let old := s.regAt x b d k false
  let discard (code : Nat) (s : State) : State := s.discardAt x b code (x.pf off) p v
  if d.staged && s.frozen x then
    let live := d.fields.any (·.live)
    let differs := d.fields.any (fun f =>
      f.acc == .rw && !f.live && bitsOf old f.lo f.width != bitsOf full f.lo f.width)
    let code := fieldsCode (d.fields.map (fun f => if f.live then f else { f with chk := .any, zero := false })) d.staged full
    -- R92: refused before a staged field is checked; R504: live fields take effect; R93: reserved bits
    if !live then discard codeCOMMIT_PENDING s
    else if differs then
      let s := if code = 0 then s.putReg x b d k (storeFields d.fields (·.live) old full) else s
      discard codeCOMMIT_PENDING s
    else if code ≠ 0 then discard code s
    else s.putReg x b d k (storeFields d.fields (·.live) old full)
  else
    let code := fieldsCode d.fields d.staged full
    let code := if code = 0 ∧ ¬ crossOk d.cross page rep full then codeRANGE else code
    if code ≠ 0 then discard code s
    else
      let code := s.ownerCode x d page rep full
      if code ≠ 0 then discard code (s.substRefused d full)
      else
        let s := if d.fields.any (fun f => f.acc == .rw || f.acc == .w1c) then
            s.putReg x b d k (storeFields d.fields (fun _ => true) old full)
          else s
        s.act x d page rep off full

/-- A write of word `v` at offset `off` of a site. DESIGN CHOICE (log entry 81): the write of a high word takes the low word
held for it, also when it is discarded, and a write refused with COMMIT_PENDING drops it. -/
def State.regWriteAt (x : Site) (p : Path) (off v : Nat) (s : State) : State :=
  match x.hit off with
  | .hole b => s.discardAt x b codeNO_REG (x.pf off) p v
  | .common b o => commonWrite x p b o off v s
  | .idx b page t =>
    let k := idxKey b page t
    if bitsOf v 16 15 ≠ 0 ∨ t.entries ≤ idxEntry v then s.discardAt x b codeRANGE (x.pf off) p v
    else s.loadTable x p b t k (idxEntry v) (idxAinc v)
  | .data b page i t =>
    let k := idxKey b page t
    if t.staged && s.frozen x then s.discardAt x b codeCOMMIT_PENDING (x.pf off) p v
    else
      let s := s.tableReady x p b t k
      let buf := s.tableBuf x b k
      let buf := { buf with w := buf.w.set i (BitVec.ofNat 32 v) }
      let s := s.modBankAt x b (fun r => { r with bufs := (k, buf) :: r.bufs.filter (fun y => y.1 != k) })
      if i + 1 = t.words then s.storeEntry x p b page t off v else s
  | .reg b page rep w d =>
    let k := off - 4 * w
    if d.words = 2 then
      if d.staged && s.frozen x then
        (s.modBankAt x b (fun r => { r with held := r.held.filter (fun y => y.1 != k) })).discardAt x b codeCOMMIT_PENDING
          (x.pf off) p v
      else if w = 0 then
        s.modBankAt x b (fun r => { r with held := (k, BitVec.ofNat 32 v) :: r.held.filter (fun y => y.1 != k) })
      else
        let low := match (s.bankAt x b).held.find? (fun y => y.1 == k) with
          | some y => y.2.toNat
          | none => (s.copyAt x b k false).toNat
        let s := s.modBankAt x b (fun r => { r with held := r.held.filter (fun y => y.1 != k) })
        s.storeReg x p b d page rep k off (low + 2 ^ 32 * v) v
    else s.storeReg x p b d page rep k off v v

/-- Keep a high word for a path (R87). -/
def State.latch (x : Site) (p : Path) (b : Block) (k v : Nat) (s : State) : State :=
  s.modBankAt x b (fun r => { r with
    latches := ((p, k), BitVec.ofNat 32 v) :: r.latches.filter (fun y => y.1 != (p, k)) })

/-- The high word kept for a path; zero when the path has read no low word. -/
def State.latched (s : State) (x : Site) (p : Path) (b : Block) (k : Nat) : Nat :=
  (((s.bankAt x b).latches.find? (fun y => y.1 == (p, k))).map (·.2.toNat)).getD 0

/-- Is the word at a site's offset one that a latch answers: TIM_NOW1 and TIM_NOW2 (13), latched by TIM_NOW0. -/
def nowHigh (x : Site) (off : Nat) : Bool :=
  match x with
  | .unit _ => off == 0x120104 || off == 0x120108
  | .hub => false

/-- A read of a register's word, with what it latches or clears (R8, R87, R469). -/
def State.regRead (x : Site) (p : Path) (b : Block) (page rep w : Nat) (d : RegDef) (off : Nat) (s : State) : Nat × State :=
  let s := if x = .hub ∧ off = 0x44100 then
      let now := s.summary
      s.modUmp (fun u => { u with status := (p, now) :: u.status.filter (fun e => e.1 != p) })
    else s
  if (d.words = 2 ∧ w = 1) ∨ nowHigh x off then (s.latched x p b off, s)
  else
    let v := s.readWord x p b off
    let s := if d.words = 2 then
        let full := v + 2 ^ 32 * s.readWord x p b (off + 4)
        s.latch x p b (off + 4) (readFields d.fields full / 2 ^ 32)
      else if x ≠ .hub ∧ off = 0x120100 then
        (s.latch x p b 0x120104 (s.readWord x p b 0x120104)).latch x p b 0x120108 (s.readWord x p b 0x120108)
      else s
    let s := if d.fields.any (fun f => f.acc == .rc) then s.putAt x b off (afterRead d.fields (page - d.page) rep v) else s
    let s := if x = .hub ∧ 0x45120 ≤ off ∧ off < 0x45134 then s.draw else s
    (readFields d.fields v % 2 ^ 32, s)

/-- A read at offset `off` of a site. -/
def State.regReadAt (x : Site) (p : Path) (off : Nat) (s : State) : Nat × State :=
  match x.hit off with
  | .hole _ => (0, s)
  | .common b o => commonRead x b o s
  | .idx b _ _ => (s.idxAt x b off, s)
  | .data b page i t =>
    let k := idxKey b page t
    let s := s.tableReady x p b t k
    let buf := s.tableBuf x b k
    let v := ((if s.viewActive x b then buf.active else buf.r).getD i 0#32).toNat
    (v, if i + 1 = t.words then s.tableNext x p b t k else s)
  | .reg b page rep w d => s.regRead x p b page rep w d off

/-! ### BAR0 (R76 to R82, R104, R105) -/

/-- Block of a site's offset for an error of the access itself; HST where none is assigned (R79). -/
def blockFor (x : Site) (off : Nat) : Block :=
  (match x with
    | .hub => blockAt hubBlocks off
    | .unit _ => blockAt unitBlocks off).getD .hst

/-- A write to where a target lies. -/
def State.writeAt (p : Path) (t : Target) (v : Word) (be : BitVec 4) (s : State) : State :=
  let go (x : Site) (off : Nat) (s : State) : State :=
    if be ≠ 15#4 then s.discardAt x (blockFor x off) codeACCESS (x.pf off) p be.toNat
    else s.regWriteAt x p off v.toNat
  match t with
  | .none o =>
    if be ≠ 15#4 then s.discardHub .hst codeACCESS o (pathCode p) be.toNat
    else s.discardHub .hst codeNO_REG o (pathCode p) v.toNat
  | .hub o => go .hub o s
  | .unit n o => if !s.running n then s.unavailable n (bar0Unit n o) p true else go (.unit n) o s

/-- A read of where a target lies. -/
def State.readAt (p : Path) (t : Target) (s : State) : Nat × State :=
  match t with
  | .none _ => (0, s)
  | .hub o => s.regReadAt .hub p o
  | .unit n o =>
    if !s.running n then (0xFFFFFFFF, s.unavailable n (bar0Unit n o) p false) else s.regReadAt (.unit n) p o

/-- The path reaches the target (R104). -/
def reaches (p : Path) (t : Target) : Bool :=
  match p, t with
  | .vf m, .unit n _ => n == m.val
  | .vf m, .hub o =>
    (decide (0x2000 + 0x1000 * m.val ≤ o) && decide (o < 0x3000 + 0x1000 * m.val)) ||
      (decide (0x10000 + 0x8000 * m.val ≤ o) && decide (o < 0x18000 + 0x8000 * m.val))
  | .vf _, .none _ => false
  | _, _ => true

/-- A write command of a named register: it does nothing where the path has no such access. -/
def State.writeTo (p : Path) (t : Target) (v : Word) (s : State) : State :=
  if s.arrives p && reaches p t then s.writeAt p t v 15#4 else s

/-- A BAR0 write at an offset of the path's BAR (R80: the low two bits of the address are not used). -/
def State.writeBar0 (p : Path) (off : Nat) (v : Word) (be : BitVec 4) (s : State) : State :=
  if s.arrives p && decide (off < barSize p) then s.writeAt p (target p (off - off % 4)) v be else s

/-- A BAR0 read; its data goes to the requester. -/
def State.readBar0 (p : Path) (off : Nat) (s : State) : State :=
  if s.arrives p && decide (off < barSize p) then
    let (v, s) := s.readAt p (target p (off - off % 4))
    s.put (.readData (BitVec.ofNat 32 v))
  else s

/-- The function of a path over PCI Express. -/
def pathFn (p : Path) : Nat :=
  match p with
  | .vf n => n.val + 1
  | _ => 0

/-- A non-posted request on VC1 to BAR2 or BAR4: Unsupported Request (R125), logged by AER (R101). -/
def State.unsupported (p : Path) (s : State) : State := (s.put .unsupported).aer (pathFn p) 3

/-! ### BAR4 (R103, R104, R121) -/

/-- Where the Pending Bit Array of a function lies in its BAR4 (R103, R104). -/
def pbaAt (f : Nat) : Nat := if f = 0 then 0x8000 else 0x2000

/-- A word of BAR4 of function `f`: its MSI-X table, its Pending Bit Array, zero elsewhere. -/
def State.bar4Word (s : State) (f o : Nat) : Nat :=
  if o < msixSize f * 16 then (s.msixWord f o).toNat
  else if pbaAt f ≤ o ∧ o < pbaAt f + msixSize f / 8 then
    (List.range 32).foldl (fun x i => x + 2 ^ i * b2n (s.hub.pend.contains (f, 8 * (o - pbaAt f) + i))) 0
  else 0

/-- A BAR4 read. -/
def State.readBar4 (p : Path) (off : Nat) (vc1 : Bool) (s : State) : State :=
  if p = .mgt || !s.arrives p then s
  else if vc1 then s.unsupported p
  else if off < (if p = .pf then 0x10000 else 0x4000) then
    s.put (.readData (BitVec.ofNat 32 (s.bar4Word (pathFn p) (off - off % 4))))
  else s

/-- A read of a BAR that a path has. -/
def State.readBar (p : Path) (bar off : Nat) (vc1 : Bool) (s : State) : State :=
  if bar = 0 then s.readBar0 p off else if bar = 4 then s.readBar4 p off vc1 else s

/-- A write of the MSI-X table of function `f`; the pending bits and every other offset take none. -/
def State.writeMsix (f off : Nat) (v : Word) (s : State) : State :=
  let o := off - off % 4
  if msixSize f * 16 ≤ o then s
  else
    let w := if o % 16 = 12 then v &&& 1#32 else if o % 16 = 0 then v &&& 0xFFFFFFFC#32 else v
    (s.modHub (fun h => { h with msix := storeSet msixReset h.msix (f * 2 ^ 16 + o) w })).sendPending f

/-- A write to a BAR that a path has: BAR0, or the MSI-X table in BAR4. -/
def State.writeBar (p : Path) (bar off : Nat) (v : Word) (be : BitVec 4) (s : State) : State :=
  if bar = 0 then s.writeBar0 p off v be
  else if bar = 4 ∧ s.arrives p ∧ be = 15#4 then
    if p = .mgt then s else s.writeMsix (pathFn p) off v
  else s

/-! ### BAR2 (R108 to R110, R422) -/

/-- Bytes that a write sink holds. -/
def sinkSize : Nat := 262144

/-- Unit and slot offset of a BAR2 offset. -/
def bar2Slot (p : Path) (off : Nat) : Option (Nat × Nat) :=
  match p with
  | .pf => if off < 0x2800000000 then some (off / 0x800000000, off % 0x800000000) else none
  | .vf n => if off < 0x800000000 then some (n.val, off) else none
  | .mgt => none

/-- A BAR2 write (R110). DESIGN CHOICE (log entry 82): one that does not fit the rest of the sink is discarded whole, and
counts once. -/
def State.bar2Write (p : Path) (off : Nat) (bytes : List Byte) (vc1 : Bool) (s : State) : State :=
  if !s.arrives p then s
  else match bar2Slot p off with
    | none => s
    | some (n, a) =>
      let k := (s.chan n).sink
      if vc1 || decide (hbmSize < a + bytes.length) || !s.running n || decide (sinkSize < k.held + bytes.length) then
        s.hbump (Reg.HST_SINK_DROP_COUNT n) 1
      else s.modRun n (fun c => { c with sink := { c.sink with
        writes := c.sink.writes ++ [(a, bytes)], held := c.sink.held + bytes.length, received := c.sink.received + 1 } })

/-- The oldest write drains into HBM at the rate of port 6's regulator (R110, R408), unless the array is being initialised
(R406). -/
def opSinkDrain (c : Chan) : Chan :=
  if c.mem.initialising then c
  else match c.sink.writes with
    | [] => c
    | (a, bs) :: rest =>
      if memGrants c 6 a bs.length then
        let c := memWrite c a 6 bs
        { c with sink := { c.sink with writes := rest, held := c.sink.held - bs.length, drained := c.sink.drained + 1 } }
      else c

/-- HBM as a BAR2 read sees it: no older than every write that the sink still holds (R422). -/
def sinkSeen (c : Chan) : Chan := sinkDrainAll { c with mem := { c.mem with initialising := false } }

/-- A BAR2 read of HBM: what the controller finds, the log of a failing beat (R413), its marks (R253). A beat that a waiting
write replaces whole does not fail. -/
def opBar2Read (a len : Nat) (beats : List (Nat × BeatCheck)) (c : Chan) : Chan :=
  let c := memFind c beats
  let c := memCorrect c (c.flag Reg.MEM_STAT_WBACK) (memSoft c a len)
  (memBad (sinkSeen c) a len).foldl (fun c e => memFail c e.1 6 e.2) (memMoved c 6 a len)

/-- A BAR2 read (R109, R125). DESIGN CHOICE (log entry 83): the hole comes first, so that it reads as zeros in the slot of a
unit that is not in RUN too. -/
def State.bar2Read (p : Path) (off len : Nat) (vc1 : Bool) (beats : List (Nat × BeatCheck)) (s : State) : State :=
  if !s.arrives p then s
  else if vc1 then s.unsupported p
  else match bar2Slot p off with
    | none => s.put (.bar2Data (List.replicate len 0#8) false)
    | some (n, a) =>
      if hbmSize ≤ a then s.put (.bar2Data (List.replicate len 0#8) false)
      else if !s.running n then s.put (.bar2Data (List.replicate len 0xFF#8) false)
      else
        let c := sinkSeen (memFind (s.chan n) beats)
        (s.modRun n (opBar2Read a len beats)).put (.bar2Data (c.load a len) (memReadFails c a len))

end Sys2Proof.Machine
end

