-- ==== Sys2Proof/Machine/Mgmt.lean ====
section
/-! DEFINITION. The management bus (R129 to R135): Parnouz requests and responses, the I3C common command codes, the SMBus
alert. -/

namespace Sys2Proof.Machine

/-! ### Requests and responses (R132, R133) -/

/-- Codes of STATUS. -/
def stOK : Nat := 0
def stPENDING : Nat := 1
def stBAD_OPCODE : Nat := 3
def stBAD_LENGTH : Nat := 4
def stBAD_ARG : Nat := 5
def stTIMEOUT : Nat := 6
def stREFUSED : Nat := 8

/-- The request in hand completes; its response is ready (R129, R130). -/
def State.respond (status : Nat) (data : List Nat) (s : State) : State :=
  (s.modMgt (fun m => { m with
    pending := none, resp := { tag := (m.pending.map (·.2)).getD 0, status := status, data := data } })).mgtSignal 0x01

/-- REFUSED with a sticky code (R133). -/
def State.refuse (code : Nat) (s : State) : State := s.respond stREFUSED [code % 256, code / 256]

/-- TAG of a request: its first byte after OPCODE in I3C mode, after the byte count in SMBus mode (R132). -/
def reqTag (q : MgtReq) (smbus : Bool) : Nat := (q.bytes.getD (b2n smbus) 0#8).toNat

/-- The arguments, which follow TAG, and in I3C mode LEN, and end before the CRC-8. -/
def reqArgs (q : MgtReq) : List Nat := ((q.bytes.drop 2).dropLast).map BitVec.toNat

/-- Bytes that the CRC-8 of a request covers (R132): OPCODE, TAG, LEN and the arguments; as the PEC the whole transaction,
the address byte (`addr`) included. -/
def reqCovered (q : MgtReq) (smbus : Bool) (addr opcode : Nat) : List Byte :=
  (if smbus then [BitVec.ofNat 8 addr, BitVec.ofNat 8 opcode] else [BitVec.ofNat 8 opcode]) ++ q.bytes.dropLast

/-- The request is whole and its CRC-8 checks: LEN, or the byte count, agrees with the bytes that came, and LEN is 0 to
60. -/
def reqCrcOk (q : MgtReq) (smbus : Bool) (addr opcode : Nat) : Bool :=
  let n := (q.bytes.getD (b2n (!smbus)) 0#8).toNat
  q.bytes.length == (if smbus then n + 2 else n + 3) && decide ((reqArgs q).length ≤ 60) &&
    (!smbus || decide (1 ≤ n)) && (q.bytes.getLastD 0#8).toNat == crc8 (reqCovered q smbus addr opcode)

/-- The request as the target hears it (R132). -/
def State.mgtOk (s : State) (opcode : Nat) (q : MgtReq) : Bool :=
  reqCrcOk q s.ump.mgt.smbus (2 * s.ump.mgt.static) opcode

/-- A request arrives (R57, R132, R133): it is discarded, or taken in hand and carried out by `f`. DESIGN CHOICE (log entry
84): a new request, which ends the readable response of the last, cancels a change of the bus mode whose response has not
been read. -/
def State.mgtRequest (opcode : Nat) (q : MgtReq) (f : State → State) (s : State) : State :=
  if !s.mgtUp || (s.ump.straps.test && opcode != 0x10) then s
  else if !s.mgtOk opcode q then s.hubErr .mgt codeINPUT 0 6
  else if s.ump.mgt.pending.isSome then (s.hubErr .mgt codeBUSY 0 6).post 0x0008 .mgt opcode 0
  else f (s.modMgt (fun m => { m with pending := some (opcode, reqTag q m.smbus), resp := {}, mode := none }))

/-- A request of LEN `len` whose arguments pass `ok` (R134). -/
def State.mgtCommand (opcode : Nat) (q : MgtReq) (len : Nat) (ok : List Nat → Bool) (f : List Nat → State → State)
    (s : State) : State :=
  s.mgtRequest opcode q (fun s =>
    if (reqArgs q).length ≠ len then s.respond stBAD_LENGTH []
    else if !ok (reqArgs q) then s.respond stBAD_ARG []
    else f (reqArgs q) s)

/-- Argument byte `i`, and the word that begins there. -/
def argAt (a : List Nat) (i : Nat) : Nat := a.getD i 0
def argWord (a : List Nat) (i : Nat) : Nat := wordOfNats (a.drop i) 0

/-- A BAR0 offset in range and aligned. -/
def bar0Ok (a : List Nat) : Bool := decide (argWord a 0 < 0x04000000) && decide (argWord a 0 % 4 = 0)

/-- A unit number. -/
def unitOk (a : List Nat) : Bool := decide (argAt a 0 ≤ 4)

/-- Bytes of a word. -/
def wordBytes (n v : Nat) : List Nat := (bytesLE n v).map BitVec.toNat

/-- READ32: through the hub; it does not complete while the hub is not ready (R134, R470). -/
def State.mgtRead32 (a : List Nat) (s : State) : State :=
  if !s.arrives .mgt then s
  else
    let (v, s) := s.readAt .mgt (target .mgt (argWord a 0))
    s.respond stOK (wordBytes 4 v)

/-- CODE of the block that an offset reaches: HST for a unit that is not in RUN, and where no block is assigned. -/
def State.codeAt (s : State) (off : Nat) : Nat :=
  let code (x : Site) (b : Block) : Nat := (s.copyAt x b (b.common 0x030) true).toNat % 2 ^ 16
  match target .mgt off with
  | .hub o => code .hub (blockFor .hub o)
  | .unit n o =>
    let b := blockFor (.unit n) o
    if s.running n ∧ b.isUnit then code (.unit n) b else code .hub .hst
  | .none _ => code .hub .hst

/-- WRITE32. -/
def State.mgtWrite32 (a : List Nat) (s : State) : State :=
  if !s.arrives .mgt then s
  else
    let s := s.writeAt .mgt (target .mgt (argWord a 0)) (BitVec.ofNat 32 (argWord a 4)) 15#4
    s.respond stOK (wordBytes 2 (s.codeAt (argWord a 0)))

/-- READ_LOG. -/
def State.mgtReadLog (a : List Nat) (s : State) : State :=
  s.respond stOK ((s.logSlot (argAt a 0 + 256 * argAt a 1)).map BitVec.toNat)

/-- READ_SCORECARD (R135). -/
def State.mgtReadCard (a : List Nat) (s : State) : State :=
  let n := argAt a 0
  let w := argAt a 1
  let k := argAt a 2
  let s := if k = 0 then s.modMgt (fun m => { m with snap := some (n, w, s.cardOf n w) }) else s
  match s.ump.mgt.snap with
  | some (n', w', card) =>
    if n' = n ∧ w' = w then s.respond stOK ((cardChunk card k).map BitVec.toNat) else s.respond stBAD_ARG []
  | none => s.respond stBAD_ARG []

/-- A discard of a management command of the umpire, with what R98 says it carries. -/
def State.mgtDiscard (code off arg : Nat) (s : State) : State := (s.discardHub .sup code off 6 arg).refuse code

/-- Store REQ and KEEP of SUP_UNIT_CTLn. -/
def State.setUnitCtl (n req keep : Nat) (s : State) : State :=
  (s.uset (Reg.SUP_UNIT_CTL_REQ n) req).uset (Reg.SUP_UNIT_CTL_KEEP n) keep

/-- SET_POWER (R74, R134). -/
def State.mgtSetPower (a : List Nat) (s : State) : State :=
  let n := argAt a 0
  let req := argAt a 1
  let keep := argAt a 2
  let code := s.requestCode n req keep
  if code ≠ 0 then s.mgtDiscard code (0x40110 + 4 * n) n
  else ((s.setUnitCtl n req keep).request n req keep).respond stOK []

/-- RESET_UNIT: refused as a request for RUN (R74); the unit passes through HELD back to RUN. -/
def State.mgtResetUnit (a : List Nat) (s : State) : State :=
  let n := argAt a 0
  let keep := s.uget (Reg.SUP_UNIT_CTL_KEEP n)
  let code := s.requestCode n 3 keep
  if code ≠ 0 then s.mgtDiscard code (0x40110 + 4 * n) n
  else ((s.setUnitCtl n 3 keep).request n 4 keep).respond stOK []

/-- SUBSTITUTE: trigger 1 (R430, R432). -/
def State.mgtSubstitute (a : List Nat) (s : State) : State :=
  let n := argAt a 0
  let code := s.goCode n
  if code ≠ 0 then (s.modSubst (fun y => { y with trigger := 1 })).mgtDiscard code 0x43108 n
  else (s.declare n 1).respond stOK []

/-- QUENCH and RESUME of the units in a mask; a hub that is not ready holds its quenches at reset. -/
def State.mgtMask (f : Nat → State → State) (a : List Nat) (s : State) : State :=
  let s := if s.hub.ready then forN 5 (fun n s => if bitAt (argAt a 0) n then f n s else s) s else s
  s.respond stOK []

/-- The response is read (R131, R132, R133). A read before completion returns PENDING. In SMBus mode the PEC covers the
address bytes, the command code and the byte count too. -/
def State.mgtRead (s : State) : State :=
  if !s.mgtUp then s
  else
    let m := s.ump.mgt
    let r : MgtResp := match m.pending with
      | some (_, tag) => { tag := tag, status := stPENDING }
      | none => m.resp
    let body : List Byte := [BitVec.ofNat 8 r.tag, BitVec.ofNat 8 r.status, BitVec.ofNat 8 r.data.length] ++
      r.data.map (BitVec.ofNat 8)
    let addr := 2 * m.static
    let bytes : List Byte :=
      if m.smbus then
        let block := BitVec.ofNat 8 body.length :: body
        block ++ [BitVec.ofNat 8 (crc8 ([BitVec.ofNat 8 addr, 0xFF#8, BitVec.ofNat 8 (addr + 1)] ++ block))]
      else body ++ [BitVec.ofNat 8 (crc8 body)]
    let s := s.put (.mgt bytes)
    match m.mode, m.pending with
    | some b, none => s.modMgt (fun m => { m with smbus := b, mode := none })
    | _, _ => s

/-- A request is not complete within its bound (R133). -/
def State.mgtTimeout (s : State) : State := if s.mgtUp ∧ s.ump.mgt.pending.isSome then s.respond stTIMEOUT [] else s

/-! ### I3C common command codes (R129) and SMBus (R130) -/

/-- A CCC, in I3C mode. -/
def State.ccc (f : State → State) (s : State) : State := if s.mgtUp ∧ ¬ s.ump.mgt.smbus then f s else s

/-- A directed GET at the dynamic address. -/
def State.cccRead (v : Nat) (s : State) : State := s.ccc (fun s => if s.ump.mgt.dyn.isSome then s.put (.mgtValue v) else s)

/-- A directed GET other than GETSTATUS: under TEST_MODE the target answers status reads alone (R57). DEDUCED (log entry
28): what gives it the address at which it answers them is taken all the same. -/
def State.cccGet (v : Nat) (s : State) : State := if s.ump.straps.test then s else s.cccRead v

/-- An address is assigned to a target that has none. -/
def State.assign (addr : Nat) (s : State) : State :=
  s.ccc (fun s => if s.ump.mgt.dyn.isNone then s.modMgt (fun m => { m with dyn := some (addr % 128) }) else s)

/-- The Alert Response Address, 0b0001100, as the address byte of a read. -/
def alertAddress : Byte := 0x19#8

/-- The Alert Response Address is read (R57, R130): the target's own address, with the PEC over both bytes. -/
def State.alertRead (s : State) : State :=
  let m := s.ump.mgt
  let own := BitVec.ofNat 8 (2 * m.static)
  if s.mgtUp ∧ m.smbus ∧ ¬ s.ump.straps.test ∧ 0 < m.alerts then
    (s.modMgt (fun m => { m with alerts := m.alerts - 1 })).put (.mgt [own, BitVec.ofNat 8 (crc8 [alertAddress, own])])
  else s

end Sys2Proof.Machine
end

