-- ==== Sys2Proof/Machine/AccessCommands.lean ====
section
/-! DEFINITION. Commands of register access, events, rings, MSI-X, the host window and QUENCH (04_register_model.md,
05_host_port.md). -/

namespace Sys2Proof.Machine

/-! ### Register access -/

def execRegWrite (path : Path) (bar off : Nat) (value : Word) (be : BitVec 4) (s : State) : Host.Outcome State Fault Refusal :=
  run (State.writeBar path bar off value be) s

def execLatchedRead (path : Path) (at_ : BarAt) (s : State) : Host.Outcome State Fault Refusal :=
  run (State.readBar path at_.bar at_.off at_.vc1) s

def execReadClear (path : Path) (off : Nat) (s : State) : Host.Outcome State Fault Refusal :=
  run (State.readBar0 path off) s

def execTableIdxWrite (path : Path) (off : Nat) (value : Word) (s : State) : Host.Outcome State Fault Refusal :=
  run (State.writeBar0 path off value 15#4) s

def execTableDataWrite (path : Path) (off : Nat) (value : Word) (s : State) : Host.Outcome State Fault Refusal :=
  run (State.writeBar0 path off value 15#4) s

def execTableDataRead (path : Path) (off : Nat) (s : State) : Host.Outcome State Fault Refusal :=
  run (State.readBar0 path off) s

/-- The common register at `o` of the page at a BAR0 offset. -/
def pageReg (page o : Nat) : Nat := page - page % 0x1000 + o

/-- REVERT (R84): `page` is the offset of a page of the block, `value` what is written with REVERT set. -/
def execRevert (path : Path) (page : Nat) (value : Word) (s : State) : Host.Outcome State Fault Refusal :=
  run (State.writeBar0 path (pageReg page 0x010) (value ||| 2#32) 15#4) s

def execErrClear (path : Path) (page : Nat) (s : State) : Host.Outcome State Fault Refusal :=
  run (State.writeBar0 path (pageReg page 0x030) 0x80000000#32 15#4) s

def execIntClr (path : Path) (page : Nat) (value : Word) (s : State) : Host.Outcome State Fault Refusal :=
  run (State.writeBar0 path (pageReg page 0x02C) value 15#4) s

/-- BLOCK_TIMEOUT (R84): wait `wait` of a block ends at LIMIT. -/
def opBlockTimeout (u : Option (Fin 5)) (block wait : Nat) (s : State) : State :=
  match u with
  | some n =>
    match unitBlocks.find? (fun b => b.code == block) with
    | some b => s.modRun n (fun c => (c.err b codeTIMEOUT 0 7).post 0x0007 b wait (c.get (blkLimit b)))
    | none => s
  | none =>
    match hubBlocks.find? (fun b => b.code == block) with
    | some b =>
      if b.ofUmpire || s.hub.ready then (s.hubErr b codeTIMEOUT 0 7).post 0x0007 b wait (s.bget b (blkLimit b)) else s
    | none => s

def execBlockTimeout (u : Option (Fin 5)) (block wait : Nat) (s : State) : Host.Outcome State Fault Refusal :=
  run (opBlockTimeout u block wait) s

/-! ### Events (R96 to R99) -/

def injectTarget (u : Option (Fin 5)) : Target :=
  match u with
  | some n => .unit n 0x1A0114
  | none => .hub 0x1114

def execEvtInject (path : Path) (u : Option (Fin 5)) (value : Word) (s : State) : Host.Outcome State Fault Refusal :=
  run (State.writeTo path (injectTarget u) value) s

def execEventDeliver (u : Option (Fin 5)) (s : State) : Host.Outcome State Fault Refusal :=
  run (State.deliver ((u.map Fin.val).getD 5)) s

/-! ### Rings (R111 to R122) -/

/-- HST page of a unit's rings, or of the hub's. -/
def ringPage (u : Option (Fin 5)) : Nat :=
  match u with
  | some n => 0x2000 + 0x1000 * n.val
  | none => 0x7000

/-- The ring is one of the page. -/
def ringOk (u : Option (Fin 5)) (ring : Nat) : Bool := if u.isSome then decide (ring < 32) else ring == 0

def execDoorbell (path : Path) (u : Option (Fin 5)) (ring : Nat) (value : Word) (s : State) : Host.Outcome State Fault Refusal :=
  run (fun s => if ringOk u ring then s.writeTo path (.hub (ringPage u + 0x400 + 4 * ring)) value else s) s

/-- Select a ring's entry and store it with another ENABLE (R88). -/
def storeEnable (path : Path) (u : Option (Fin 5)) (ring : Nat) (on : Bool) (s : State) : State :=
  if !ringOk u ring then s
  else
    let s := s.writeTo path (.hub (ringPage u + 0x110)) (BitVec.ofNat 32 ring)
    let w := s.ringWord (ringIx u ring) 5
    s.writeTo path (.hub (ringPage u + 0x134)) (BitVec.ofNat 32 (setBitsOf w 17 1 (b2n on)))

def execRingEnable (path : Path) (u : Option (Fin 5)) (ring : Nat) (s : State) : Host.Outcome State Fault Refusal :=
  run (storeEnable path u ring true) s

def execRingDisable (path : Path) (u : Option (Fin 5)) (ring : Nat) (s : State) : Host.Outcome State Fault Refusal :=
  run (storeEnable path u ring false) s

def execDescriptorComplete (ring : Nat) (s : State) : Host.Outcome State Fault Refusal := run (State.completeNext ring) s

def execPcieCompletion (ring : Nat) (r : ReadReply) (s : State) : Host.Outcome State Fault Refusal :=
  run (State.readReply ring r) s

def execDmaReadTimeout (ring : Nat) (s : State) : Host.Outcome State Fault Refusal := run (State.readTimeout ring) s

/-- MSIX_MODERATION_TIMEOUT (R122). -/
def opModerationTimeout (ring : Nat) (s : State) : State :=
  if 0 < (s.ring ring).gathered then (s.modRing ring (fun r => { r with gathered := 0 })).signalRing ring else s

def execMsixModerationTimeout (ring : Nat) (s : State) : Host.Outcome State Fault Refusal := run (opModerationTimeout ring) s

/-! ### The host window (R108 to R110) -/

def execBar2Write (path : Path) (off : Nat) (bytes : List Byte) (vc1 : Bool) (s : State) : Host.Outcome State Fault Refusal :=
  run (State.bar2Write path off bytes vc1) s

def execBar2Read (path : Path) (at_ : WindowAt) (len : Nat) (beats : List (Nat × BeatCheck)) (s : State) :
    Host.Outcome State Fault Refusal :=
  run (State.bar2Read path at_.off len at_.vc1 beats) s

def execSinkDrain (n : Fin 5) (s : State) : Host.Outcome State Fault Refusal := unitOp n opSinkDrain s

/-! ### QUENCH (R127) -/

def execQuench (path : Path) (n : Fin 5) (s : State) : Host.Outcome State Fault Refusal :=
  run (State.writeTo path (.hub (0x2100 + 0x1000 * n.val)) 1#32) s

/-- QUENCH_DONE: the engines have stopped, `ns` after the receipt. -/
def opQuenchDone (n ns : Nat) (s : State) : State :=
  let q := s.quenchOf n
  if q.on && !q.stopped then s.quenchStop n ns else s

def execQuenchDone (n : Fin 5) (ns : Nat) (s : State) : Host.Outcome State Fault Refusal := run (opQuenchDone n ns) s

def execResume (path : Path) (n : Fin 5) (s : State) : Host.Outcome State Fault Refusal :=
  run (State.writeTo path (.hub (0x2100 + 0x1000 * n.val)) 2#32) s

end Sys2Proof.Machine
end

