-- ==== Sys2Proof/Machine/LaneCommands.lean ====
section
/-! DEFINITION. Commands of the serial lanes (14), the audio ports (15) and the memory controller (16). -/

namespace Sys2Proof.Machine

/-! ### Lanes (R362 to R385) -/

def execLaneSignalDetect (n : Fin 5) (lane : Nat) (s : State) : Host.Outcome State Fault Refusal :=
  unitOp n (opLaneSignal lane) s

def execCdrLock (n : Fin 5) (lane : Nat) (s : State) : Host.Outcome State Fault Refusal := unitOp n (opCdrLock lane) s

def execCommaAlign (n : Fin 5) (lane : Nat) (s : State) : Host.Outcome State Fault Refusal :=
  unitOp n (opCommaAlign lane) s

def execPolarityPass (n : Fin 5) (lane : Nat) (s : State) : Host.Outcome State Fault Refusal :=
  unitOp n (opPolarityPass lane) s

def execPolarityInvert (n : Fin 5) (lane : Nat) (s : State) : Host.Outcome State Fault Refusal :=
  unitOp n (opPolarityInvert lane) s

def execBringupTimeout (n : Fin 5) (lane : Nat) (s : State) : Host.Outcome State Fault Refusal :=
  unitOp n (opBringupTimeout lane) s

def execSLaneTxStart (n : Fin 5) (lane : Nat) (s : State) : Host.Outcome State Fault Refusal :=
  unitOp n (opSLaneTxStart lane) s

def execLaneOrder (n : Fin 5) (group : Nat) (rev : Bool) (s : State) : Host.Outcome State Fault Refusal :=
  unitOp n (opLaneOrder group rev) s

def execLaneUp (n : Fin 5) (group : Nat) (skews : List Nat) (s : State) : Host.Outcome State Fault Refusal :=
  unitOp n (opLaneUp group skews) s

def execLaneLost (n : Fin 5) (lane cause violations : Nat) (s : State) : Host.Outcome State Fault Refusal :=
  unitOp n (opLaneLost lane cause violations) s

def execAlignmentMarker (n : Fin 5) (lane laneNo count check skew : Nat) (s : State) : Host.Outcome State Fault Refusal :=
  unitOp n (opAlignmentMarker lane laneNo count check skew) s

def execAlignLost (n : Fin 5) (group : Nat) (s : State) : Host.Outcome State Fault Refusal :=
  unitOp n (opAlignLost group) s

def execAutonegComplete (n : Fin 5) (partner : Nat) (s : State) : Host.Outcome State Fault Refusal :=
  unitOp n (opAutonegComplete partner) s

def execLrefLoss (n : Fin 5) (s : State) : Host.Outcome State Fault Refusal := unitOp n opLrefLoss s

/-- A write of LNK_PCTL of a P-lane that sets one of its action bits and keeps HOLD and DWELL. -/
def lanePctl (path : Path) (n lane bit : Nat) (s : State) : State :=
  if lane < 16 then
    let old := (storeGet unitReset (s.chan n).bank.regs (0x1104 + 0x1000 * lane)).toNat
    s.writeTo path (.unit n (0x1104 + 0x1000 * lane)) (BitVec.ofNat 32 (setBitsOf old bit 1 1))
  else s

def execEyeScan (path : Path) (n : Fin 5) (lane : Nat) (s : State) : Host.Outcome State Fault Refusal :=
  run (lanePctl path n lane 2) s

def execPrbsClear (path : Path) (n : Fin 5) (lane : Nat) (s : State) : Host.Outcome State Fault Refusal :=
  run (lanePctl path n lane 1) s

def execEyeScanDone (n : Fin 5) (lane : Nat) (errors : List Nat) (s : State) : Host.Outcome State Fault Refusal :=
  unitOp n (opEyeScanDone lane errors) s

def execPrbsLock (n : Fin 5) (lane : Nat) (before window after : List Bool) (s : State) :
    Host.Outcome State Fault Refusal :=
  unitOp n (opPrbsLock lane (before ++ (window ++ after))) s

def execAdaptationUpdate (n : Fin 5) (lane : Nat) (moves : List Int) (s : State) : Host.Outcome State Fault Refusal :=
  unitOp n (opAdaptation lane moves) s

def execFomUpdate (n : Fin 5) (lane fom : Nat) (s : State) : Host.Outcome State Fault Refusal :=
  unitOp n (opFomUpdate lane fom) s

/-! ### Audio (R389 to R399) -/

def execTdmFrame (n : Fin 5) (port : Nat) (sync : AudSync) (line : TdmLine) (errors : List Nat) (s : State) :
    Host.Outcome State Fault Refusal :=
  unitOp n (opTdmFrame port sync line errors) s

def execTdmFrameTransmit (n : Fin 5) (port : Nat) (sync : AudSync) (beats : List (Nat × BeatCheck)) (s : State) : Host.Outcome State Fault Refusal :=
  unitOp n (opTdmFrameTransmit port sync beats) s

/-- A write of AUD_xCTL of a side. -/
def audCtl (path : Path) (n port side : Nat) (v : Word) (s : State) : State :=
  if port < 4 ∧ side < 2 then s.writeTo path (.unit n (0x14111C + 0x1000 * port + 0x40 * side)) v else s

def execMaskArm (path : Path) (n : Fin 5) (port side : Nat) (s : State) : Host.Outcome State Fault Refusal :=
  run (audCtl path n port side 1#32) s

def execRestartRequest (path : Path) (n : Fin 5) (port side : Nat) (s : State) : Host.Outcome State Fault Refusal :=
  run (audCtl path n port side 2#32) s

def execBitClockLoss (n : Fin 5) (port side : Nat) (s : State) : Host.Outcome State Fault Refusal :=
  unitOp n (opBitClockLoss port side) s

/-! ### Memory (R406, R416, R417, R420) -/

def execInitDone (n : Fin 5) (s : State) : Host.Outcome State Fault Refusal := unitOp n opInitDone s

def execScrubBeat (n : Fin 5) (k : BeatCheck) (s : State) : Host.Outcome State Fault Refusal :=
  unitOp n (opScrubBeat k) s

def execRecalibration (n : Fin 5) (temp : Int) (s : State) : Host.Outcome State Fault Refusal :=
  unitOp n (opRecalibration temp) s

def execStormClear (n : Fin 5) (s : State) : Host.Outcome State Fault Refusal := unitOp n opStormClear s

end Sys2Proof.Machine
end

