-- ==== Sys2Proof/Machine/MgmtCommands.lean ====
section
/-! DEFINITION. Commands of the management bus (R129 to R135). -/

namespace Sys2Proof.Machine

/-! ### Parnouz requests (R134) -/

/-- Every argument is in range. -/
def anyArg (_ : List Nat) : Bool := true

def execRead32 (q : MgtReq) (s : State) : Host.Outcome State Fault Refusal :=
  run (State.mgtCommand 0x01 q 4 bar0Ok State.mgtRead32) s

def execWrite32 (q : MgtReq) (s : State) : Host.Outcome State Fault Refusal :=
  run (State.mgtCommand 0x02 q 8 bar0Ok State.mgtWrite32) s

def execGetStatus (q : MgtReq) (s : State) : Host.Outcome State Fault Refusal :=
  run (State.mgtCommand 0x10 q 0 anyArg (fun _ s => s.respond stOK s.summary)) s

def execReadLog (q : MgtReq) (s : State) : Host.Outcome State Fault Refusal :=
  run (State.mgtCommand 0x11 q 2 (fun a => decide (argAt a 0 + 256 * argAt a 1 < 1024)) State.mgtReadLog) s

def execReadScorecard (q : MgtReq) (s : State) : Host.Outcome State Fault Refusal :=
  run (State.mgtCommand 0x12 q 3 (fun a => unitOk a && decide (argAt a 1 ≤ 1) && decide (argAt a 2 ≤ 127))
    State.mgtReadCard) s

def execSetPower (q : MgtReq) (s : State) : Host.Outcome State Fault Refusal :=
  run (State.mgtCommand 0x20 q 3 (fun a => unitOk a && decide (argAt a 1 ≤ 3)) State.mgtSetPower) s

def execResetUnit (q : MgtReq) (s : State) : Host.Outcome State Fault Refusal :=
  run (State.mgtCommand 0x21 q 1 unitOk State.mgtResetUnit) s

def execSubstitute (q : MgtReq) (s : State) : Host.Outcome State Fault Refusal :=
  run (State.mgtCommand 0x22 q 1 unitOk State.mgtSubstitute) s

/-- FORCE_SHUTDOWN (R453): 0x0F names CU0 to CU4. -/
def execForceShutdown (q : MgtReq) (s : State) : Host.Outcome State Fault Refusal :=
  run (State.mgtCommand 0x23 q 1 (fun a => unitOk a || argAt a 0 == 0x0F)
    (fun a s => (s.forceDies (if argAt a 0 = 0x0F then 0x1F else 2 ^ argAt a 0)).respond stOK [])) s

def execMgtQuench (q : MgtReq) (s : State) : Host.Outcome State Fault Refusal :=
  run (State.mgtCommand 0x24 q 1 (fun a => decide (argAt a 0 ≤ 0x1F)) (State.mgtMask (fun n s => s.quenchStart n false))) s

def execMgtResume (q : MgtReq) (s : State) : Host.Outcome State Fault Refusal :=
  run (State.mgtCommand 0x25 q 1 (fun a => decide (argAt a 0 ≤ 0x1F)) (State.mgtMask (fun n s => s.quenchResume n))) s

def execLaneState (q : MgtReq) (s : State) : Host.Outcome State Fault Refusal :=
  run (State.mgtCommand 0x30 q 1 unitOk (fun a s => s.respond stOK (s.laneCopy (argAt a 0)))) s

def execLinkState (q : MgtReq) (s : State) : Host.Outcome State Fault Refusal :=
  run (State.mgtCommand 0x31 q 0 anyArg
    (fun _ s => s.respond stOK (wordBytes 4 (storeGet hubReset s.hub.bank.regs 0x100).toNat))) s

/-- SET_BUS_MODE (R131): in force once its response has been read. -/
def execSetBusMode (q : MgtReq) (s : State) : Host.Outcome State Fault Refusal :=
  run (State.mgtCommand 0x3E q 1 (fun a => decide (argAt a 0 ≤ 1))
    (fun a s => (s.modMgt (fun m => { m with mode := some (argAt a 0 == 1) })).respond stOK [])) s

/-- An OPCODE that R134 does not list. -/
def unknownOp (opcode : Nat) : Bool :=
  !([0x01, 0x02, 0x10, 0x11, 0x12, 0x20, 0x21, 0x22, 0x23, 0x24, 0x25, 0x30, 0x31, 0x3E].contains opcode)

def execUnknownOpcode (opcode : Nat) (q : MgtReq) (s : State) : Host.Outcome State Fault Refusal :=
  run (fun s => if unknownOp opcode then s.mgtRequest (opcode % 256) q (fun s => s.respond stBAD_OPCODE []) else s) s

def execResponseRead (s : State) : Host.Outcome State Fault Refusal := run State.mgtRead s

def execRequestTimeout (s : State) : Host.Outcome State Fault Refusal := run State.mgtTimeout s

/-! ### Common command codes (R129) -/

/-- Target events enabled or disabled. -/
def orByte (x : Nat) (b : Byte) : Nat := ((BitVec.ofNat 8 x) ||| b).toNat
def clearByte (x : Nat) (b : Byte) : Nat := ((BitVec.ofNat 8 x) &&& ~~~b).toNat

def execEnec (events : Byte) (s : State) : Host.Outcome State Fault Refusal :=
  run (State.ccc (State.modMgt (fun m => { m with events := orByte m.events events }))) s

def execDisec (events : Byte) (s : State) : Host.Outcome State Fault Refusal :=
  run (State.ccc (State.modMgt (fun m => { m with events := clearByte m.events events }))) s

def execRstdaa (s : State) : Host.Outcome State Fault Refusal :=
  run (State.ccc (State.modMgt (fun m => { m with dyn := none }))) s

def execEntdaa (addr : Nat) (s : State) : Host.Outcome State Fault Refusal := run (State.assign addr) s

def execSetdasa (addr : Nat) (s : State) : Host.Outcome State Fault Refusal := run (State.assign addr) s

def execSetmwl (len : Nat) (s : State) : Host.Outcome State Fault Refusal :=
  run (State.ccc (State.modMgt (fun m => { m with mwl := len % 2 ^ 16 }))) s

def execSetmrl (len : Nat) (s : State) : Host.Outcome State Fault Refusal :=
  run (State.ccc (State.modMgt (fun m => { m with mrl := len % 2 ^ 16 }))) s

def execGetpid (s : State) : Host.Outcome State Fault Refusal := run (State.cccGet (Config.pid % 2 ^ 48)) s

def execGetbcr (s : State) : Host.Outcome State Fault Refusal := run (State.cccGet (Config.bcr % 2 ^ 8)) s

def execGetdcr (s : State) : Host.Outcome State Fault Refusal := run (State.cccGet (Config.dcr % 2 ^ 8)) s

/-- GETSTATUS: the specification gives the word no content; it is a free value. -/
def execGetstatus (s : State) : Host.Outcome State Fault Refusal := run (fun s => (s.cccRead (s.freeNat % 2 ^ 16)).draw) s

def execGetmxds (s : State) : Host.Outcome State Fault Refusal := run (State.cccGet Config.mxds) s

def execRstact (action : Nat) (s : State) : Host.Outcome State Fault Refusal :=
  run (State.ccc (State.modMgt (fun m => { m with rstact := action % 256 }))) s

/-! ### SMBus (R130) -/

def execAlertResponse (s : State) : Host.Outcome State Fault Refusal := run State.alertRead s

/-- SMBUS_TIMEOUT: the interface drops the transaction under way. A request exists in the state only once its transaction
is whole, so nothing of the state goes. -/
def opSmbusTimeout (s : State) : State := s

def execSmbusTimeout (s : State) : Host.Outcome State Fault Refusal := run opSmbusTimeout s

end Sys2Proof.Machine
end

