-- ==== Sys2Proof/Machine/PictureCommands.lean ====
section
/-! DEFINITION. Commands of commits, the scheduler, capture, composition, encoding, streams, decoding and scorecards
(06 to 12, 17). -/

namespace Sys2Proof.Machine

/-! ### Commits (R144 to R148, R429, R474) -/

def execCommit (path : Path) (n : Fin 5) (s : State) : Host.Outcome State Fault Refusal :=
  run (State.writeTo path (.unit n 0x100104) 1#32) s

def execCommitAt (path : Path) (n : Fin 5) (s : State) : Host.Outcome State Fault Refusal :=
  run (State.writeTo path (.unit n 0x100104) 3#32) s

/-- ADMISSION_VERDICT (R153): a commit of firmware on a unit involved in a substitution fails step 1 (R436). -/
def execAdmissionVerdict (n : Fin 5) (s : State) : Host.Outcome State Fault Refusal :=
  run (fun s => s.modRun n (opVerdict (s.involved n))) s

def execCommitDone (n : Fin 5) (s : State) : Host.Outcome State Fault Refusal := unitOp n opCommitDone s

def execSlipPending (n : Fin 5) (s : State) : Host.Outcome State Fault Refusal := unitOp n opSlipPending s

/-- CONFIG_RECORD_TIMEOUT (R474): the record of the latest commit did not come. -/
def opConfigTimeout (n : Nat) (s : State) : State :=
  match (s.card n).newest with
  | some k => s.modCards n (fun c => { c with configs := c.configs.filter (fun r => r.commit != k), newest := none })
  | none => s

def execConfigRecordTimeout (n : Fin 5) (s : State) : Host.Outcome State Fault Refusal := run (opConfigTimeout n) s

/-! ### Line time, tasks, capture and composition (07, 08) -/

def execLineTick (n : Fin 5) (back : Nat) (s : State) : Host.Outcome State Fault Refusal :=
  unitOp n (opLineTick back) s

def execContextFreedRelease (n : Fin 5) (s : State) : Host.Outcome State Fault Refusal := unitOp n opContextFreed s

def execTaskComplete (n : Fin 5) (executor : Nat) (r : TaskResult) (s : State) : Host.Outcome State Fault Refusal :=
  unitOp n (opTaskComplete executor r) s

def execLinePacket (n : Fin 5) (k : ColumnRun) (s : State) : Host.Outcome State Fault Refusal :=
  unitOp n (opLinePacket k) s

/-- FLIP_ARM (R208): ARM written to CMP_LFLIP. -/
def execFlipArm (path : Path) (n : Fin 5) (ctx layer : Nat) (s : State) : Host.Outcome State Fault Refusal :=
  run (fun s => if ctx < 4 ∧ layer < 8 then
    s.writeTo path (.unit n (0x48120 + 0x1000 * (8 * ctx + layer))) 1#32 else s) s

def execFlipApply (n : Fin 5) (ctx layer : Nat) (s : State) : Host.Outcome State Fault Refusal :=
  unitOp n (opFlipApply ctx layer) s

/-! ### Encoding and streams (09, 11) -/

/-- A write of ENC_PCTL of a programme. -/
def encPctl (path : Path) (n prog : Nat) (v : Word) (s : State) : State :=
  if prog < 8 then s.writeTo path (.unit n (0x81120 + 0x1000 * prog)) v else s

def execCycle (path : Path) (n : Fin 5) (prog : Nat) (s : State) : Host.Outcome State Fault Refusal :=
  run (encPctl path n prog 1#32) s

def execFreeze (path : Path) (n : Fin 5) (prog : Nat) (s : State) : Host.Outcome State Fault Refusal :=
  run (encPctl path n prog 2#32) s

def execPcrOnlyPacket (n : Fin 5) (prog : Nat) (s : State) : Host.Outcome State Fault Refusal :=
  unitOp n (opPcrOnly prog) s

def execPathUnderrun (n : Fin 5) (x : Nat) (s : State) : Host.Outcome State Fault Refusal :=
  unitOp n (opPathUnderrun x) s

def execUbnenSReceive (n : Fin 5) (group : Nat) (rds : List Bool) (columns : List (List Nat)) (s : State) :
    Host.Outcome State Fault Refusal :=
  unitOp n (opUbnenS { group := group, rds := rds, columns := columns }) s

def execHoldExpiry (n : Fin 5) (s : State) : Host.Outcome State Fault Refusal := unitOp n opHoldExpiry s

/-! ### Decoding (12) -/

def execAccessUnitDecode (n : Fin 5) (r : DecodeResult) (s : State) : Host.Outcome State Fault Refusal :=
  unitOp n (opAccessUnit r) s

def execDecoderResume (path : Path) (n : Fin 5) (s : State) : Host.Outcome State Fault Refusal :=
  run (State.writeTo path (.unit n 0xE0104) 1#32) s

def execDecoderStarved (n : Fin 5) (s : State) : Host.Outcome State Fault Refusal := unitOp n opDecoderStarved s

/-! ### Scorecards (R427, R474) -/

/-- SCORECARD_RECEIVE: the transfer under way ends; a card whose CRC checks is kept, and copied to ring 30 if SUP_SC_HOST
says so. -/
def opCardReceive (n : Nat) (crcOk : Bool) (s : State) : State :=
  match (s.card n).transfer with
  | none => s
  | some k =>
    let s := s.modCards n (fun c => { c with transfer := none })
    if !crcOk then s
    else
      let s := s.modCards n (fun c => { c with latest := some k, previous := c.latest })
      if bitAt (s.uget Reg.SUP_SC_HOST_HOST) n then s.ringRecord (32 * n + 30) (cardBytes k) else s

def execScorecardReceive (n : Fin 5) (crcOk : Bool) (s : State) : Host.Outcome State Fault Refusal :=
  run (opCardReceive n crcOk) s

/-- SCORECARD_TIMEOUT (R474): the partial scorecard is discarded. -/
def execScorecardTimeout (n : Fin 5) (s : State) : Host.Outcome State Fault Refusal :=
  run (State.modCards n (fun c => { c with transfer := none })) s

end Sys2Proof.Machine
end

