-- ==== Sys2Proof/Machine/PowerCommands.lean ====
section
/-! DEFINITION. Commands of supplies, resets, the link, power states and images (03_power_reset_startup.md, R100 to R106,
R128, R472, R473). -/

namespace Sys2Proof.Machine

/-! ### Supplies and AUX resets -/

/-- VDD_AUX_RISE (R55): the umpire starts; every record of its SRAM is lost; PWR_GOOD and VDD_HUB are to come. -/
def opVddAuxRise (straps : Straps) (s : State) : State := if s.ump.on then s else s.auxReset straps none

def execVddAuxRise (straps : Straps) (s : State) : Host.Outcome State Fault Refusal := runAlways (opVddAuxRise straps) s

def execAuxRstAssert (straps : Straps) (kept : KeptRecords) (s : State) : Host.Outcome State Fault Refusal :=
  run (State.auxReset straps (some kept)) s

/-- POWER_FAIL (R56, R61): a level that was good is lost; `link` is what the device reset samples of STRAP_LINK. -/
def opPowerFail (hubSupply : Bool) (link : Nat) (s : State) : State :=
  if hubSupply then
    if s.ump.vddHub then
      ((s.modUmp (fun u => { u with vddHub := false })).uset Reg.SUP_RESET_CAUSE_HUB_SUPPLY 1).hubOff 1 link
    else s
  else if s.ump.pwrGood then
    ((s.modUmp (fun u => { u with pwrGood := false })).uset Reg.SUP_RESET_CAUSE_PWR_GOOD 1).hubOff 0 link
  else s

def execPowerFail (loss : SupplyLoss) (s : State) : Host.Outcome State Fault Refusal :=
  run (opPowerFail loss.hub loss.link) s

/-- PWR_GOOD_RISE (R56, R58): the device reset, STRAP_LINK sampled. -/
def opPwrGoodRise (link : Nat) (s : State) : State :=
  if s.ump.pwrGood then s
  else (s.modUmp (fun u => { u with pwrGood := true, vddHub := true, dark := (s.die 5).shut })).deviceReset link

def execPwrGoodRise (link : Nat) (s : State) : Host.Outcome State Fault Refusal := run (opPwrGoodRise link) s

/-- VDD_AUX_LOSS (R41): the umpire stops and drives nothing. -/
def opVddAuxLoss (s : State) : State :=
  (s.modUmp (fun u => { u with on := false })).modSubst (fun x => { x with benchEn := false })

def execVddAuxLoss (s : State) : Host.Outcome State Fault Refusal := run opVddAuxLoss s

/-- BANK_SUPPLY_CHANGE (R59): bank 0 MGT, 1 GPIO, 2 to 6 AUD0 to AUD4. -/
def opBankSupplyChange (bank : Nat) (up : Bool) (s : State) : State :=
  s.modUmp (fun u => { u with banks := u.banks.set bank up })

def execBankSupplyChange (bank : Nat) (up : Bool) (s : State) : Host.Outcome State Fault Refusal :=
  runAlways (opBankSupplyChange bank up) s

/-- SUPPLY_ISOLATION (R62, R430): the unit is gated at once. -/
def opSupplyIsolation (n : Nat) (s : State) : State :=
  let mode := s.modeOf n
  let onAir := s.onAir n
  let s := (s.modPower n (fun u => { u with isolated := true })).gate n 3
  ((s.post 0x0C03 .sup n 0).trigger n 5 mode onAir).afterStop n

def execSupplyIsolation (n : Fin 5) (s : State) : Host.Outcome State Fault Refusal := run (opSupplyIsolation n) s

/-- AVS_TIMEOUT (R51). -/
def execAvsTimeout (rail : Nat) (s : State) : Host.Outcome State Fault Refusal :=
  run (fun s => (s.railTimeout rail).benchCheck) s

/-! ### Training (R63, R65) -/

/-- HBM_TRAINING_START: the hub is ready; stacks without a valid record are trained; BENCH_SEL shows a trained bench. -/
def opTrainingStart (invalid : List Nat) (s : State) : State :=
  if !s.hub.powered || s.hub.ready then s
  else
    let s := s.modHub (fun h => { h with ready := true })
    (forN 5 (fun n s =>
      (if invalid.contains n then s.modPower n (fun u => { u with trained := false }) else s).train n) s).showBench

def execHbmTrainingStart (invalid : List Nat) (s : State) : Host.Outcome State Fault Refusal := run (opTrainingStart invalid) s

def execHbmTrainingDone (n : Fin 5) (failing : Nat) (s : State) : Host.Outcome State Fault Refusal :=
  run (State.trainDone n failing) s

def execStartAfterTraining (n : Fin 5) (s : State) : Host.Outcome State Fault Refusal := run (State.afterWait n) s

/-! ### The link (R52, R100 to R106, R128) -/

/-- A link reset, with the LTSSM back in Detect (R52, R100). -/
def State.linkGone (s : State) : State :=
  let was := s.hget Reg.HST_LINK_STAT_LTSSM
  let s := s.linkReset
  if was = 0 then s else s.post 0x0D01 .hst 0 0

/-- LINK_RESET (R52): a hot reset in the states Hot Reset and Disabled, else PERST# low. -/
def opLinkReset (s : State) : State :=
  if !s.hub.ready then s.modHub (fun h => { h with perst := false })
  else
    let st := s.hget Reg.HST_LINK_STAT_LTSSM
    (if st = 5 ∨ st = 7 then s else s.modHub (fun h => { h with perst := false })).linkGone

def execLinkReset (s : State) : Host.Outcome State Fault Refusal := run opLinkReset s

/-- LINK_DOWN (R128): reads are abandoned, and the link reset follows. -/
def execLinkDown (s : State) : Host.Outcome State Fault Refusal := run (fun s => if s.hub.link then s.linkGone else s) s

def execPerstDeassert (s : State) : Host.Outcome State Fault Refusal :=
  run (State.modHub (fun h => { h with perst := true })) s

/-- A rate the link may train at: up to that of STRAP_LINK, above 32 GT/s in FLIT mode alone (R56, R100). -/
def rateOk (link rate : Nat) (flit : Bool) : Bool := decide (rate + link ≤ 6) && (flit || decide (rate ≤ 4))

/-- Widths that the link may show (R101): before lanes are trained, up to Configuration, there may be none. -/
def widthOk (state width : Nat) : Bool := [1, 2, 4, 8, 16].contains width || (decide (state ≤ 2) && width == 0)

/-- FLIT mode of the present training (R100): negotiated once, from Configuration on; a change of state says it only then. -/
def State.flitMode (s : State) (state : Nat) (flit : Bool) : Option Bool :=
  if state = 0 then none else match s.hub.flit with
    | some b => some b
    | none => if 2 ≤ state then some flit else none

/-- LTSSM_CHANGE (R100): HST_LINK_STAT follows; the data link is up from L0 on. FLIT is negotiated at the first training
and reads the same at every rate of it; a rate that it does not allow cannot come about. -/
def opLtssm (state rate width : Nat) (flit : Bool) (s : State) : State :=
  let fl := s.flitMode state flit
  if !s.hub.ready || !s.hub.perst || decide (7 < state) || !rateOk s.ump.straps.link rate (fl.getD flit) ||
      !widthOk state width || s.hget Reg.HST_LINK_STAT_LTSSM == state then s
  else
    let s := ((s.hset Reg.HST_LINK_STAT_LTSSM state).hset Reg.HST_LINK_STAT_RATE rate).hset Reg.HST_LINK_STAT_WIDTH width
    let s := (s.hset Reg.HST_LINK_STAT_FLIT (b2n (fl.getD false))).modHub (fun h => { h with
      flit := fl, link := h.link || state == 3 })
    s.post 0x0D01 .hst state rate

def execLtssmChange (state rate width : Nat) (flit : Bool) (s : State) : Host.Outcome State Fault Refusal :=
  run (opLtssm state rate width flit) s

/-- The function is there: the PF, or a VF that exists (R104). -/
def State.fnExists (s : State) (f : Nat) : Bool := f == 0 || (decide (f ≤ 5) && s.vfExists (f - 1))

/-- Everything of the VFs goes when VF Enable clears, or their number changes. -/
def State.dropVfs (s : State) : State :=
  s.modHub (fun h => { h with
    fns := h.fns.take 1 ++ List.replicate 5 {}
    msix := h.msix.filter (fun e => e.1 < 2 ^ 16), pend := h.pend.filter (fun e => e.1 == 0) })

/-- The option is supported by function `f` (R101): FLR on the VFs alone, VC1 and SR-IOV in the PF; every option that the
table does not list is absent. -/
def featureOf (f : Nat) (x : PciFeature) : Bool :=
  match x with
  | .aer | .ari | .d3hot | .tags14 | .relaxedOrdering | .noSnoop => true
  | .vc1 | .sriov => f == 0
  | .flr => f != 0
  | .aspmL0s | .aspmL1 | .l1Substates | .l0p | .ats | .pri | .pasid | .tph | .ide | .peerToPeer | .retryStatus => false

/-- AER status as bits (R101): 0 completion timeout, 1 poisoned TLP, 2 unexpected completion, 3 unsupported request. -/
def aerBits (l : List Bool) : Nat := (List.range 4).foldl (fun x i => x + 2 ^ i * b2n (l.getD i false)) 0

/-- Device Control (R101): a size outside what the port supports leaves the size as it is. -/
def deviceControl (mps mrrs : Nat) (relaxed noSnoop : Bool) (k : Function) : Function :=
  { k with mps := if mps ≤ 2 then mps else k.mps, mrrs := if mrrs ≤ 5 then mrrs else k.mrrs
           relaxed := relaxed, noSnoop := noSnoop }

/-- CONFIG_REQUEST (R101 to R104): a read of what the specification does not give returns a free value; a write acts on the
controls that this specification names, and every other write has no effect on the device. -/
def opConfig (r : ConfigReq) (s : State) : State :=
  if !s.linkUp then s
  else match r with
    | .read f _ => if s.fnExists f then (s.put (.configData (s.freeNat % 2 ^ 32))).draw else s
    | .feature f x => if s.fnExists f then s.put (.configData (b2n (featureOf f x))) else s
    | .readAer f => if s.fnExists f then s.put (.configData (aerBits (s.fn f).aer)) else s
    | .clearAer f mask =>
      if s.fnExists f then
        s.modFn f (fun k => { k with aer := (List.range 4).map (fun i => k.aer.getD i false && !bitAt mask i) })
      else s
    | .deviceControl f mps mrrs relaxed noSnoop =>
      if s.fnExists f then s.modFn f (deviceControl mps mrrs relaxed noSnoop) else s
    | .busMaster f on =>
      if s.fnExists f then (s.modFn f (fun k => { k with busMaster := on })).sendPending f else s
    | .sriov on num =>
      if 5 < num ∨ (on = s.hub.vfEnable ∧ num = s.hub.numVfs) then s
      else (s.modHub (fun h => { h with vfEnable := on, numVfs := num })).dropVfs
    | .msix f on mask =>
      if s.fnExists f then (s.modFn f (fun k => { k with msixOn := on, msixMask := mask })).sendPending f else s
    | .vc1 on => s.hset Reg.HST_LINK_STAT_VC1 (b2n on)
    | .write _ _ _ => s

def execConfigRequest (r : ConfigReq) (s : State) : Host.Outcome State Fault Refusal := run (opConfig r) s

/-- FUNCTION_RESET of VF n + 1 (R52). -/
def execFunctionReset (n : Fin 5) (s : State) : Host.Outcome State Fault Refusal :=
  run (fun s => if s.linkUp && s.vfExists n then s.functionReset n else s) s

/-- Rings whose requests function `f` issues (R106). -/
def State.ringsOf (s : State) (f : Nat) : List Nat := (List.range 161).filter (fun i => s.ringFn i == f)

/-- An outstanding read is abandoned; it is issued again when the engine resumes (R102, R128). -/
def Ring.abandon (input : Bool) (r : Ring) : Ring :=
  match r.stage with
  | .fetch => { r with stage := .idle }
  | .read d l _ => { r with stage := if input then .wait d l else .hold d }
  | _ => r

/-- D3HOT_ENTRY (R102): the engines of the function pause, those of the PF with the image engine. -/
def opD3hot (f : Nat) (s : State) : State :=
  if !s.linkUp || !s.fnExists f then s
  else
    let s := s.modFn f (fun k => { k with d3 := true })
    let s := if f = 0 then s.imgAbandon else s
    (s.ringsOf f).foldl (fun s i => s.modRing i (Ring.abandon (decide (i < 160) && decide (i % 32 ≤ 3)))) s

def execD3hotEntry (fn : Nat) (s : State) : Host.Outcome State Fault Refusal := run (opD3hot fn) s

/-- D0_RETURN (R102). -/
def execD0Return (fn : Nat) (s : State) : Host.Outcome State Fault Refusal :=
  run (fun s => if s.linkUp && s.fnExists fn then (s.modFn fn (fun k => { k with d3 := false })).sendPending fn else s) s

/-! ### Images (R66 to R70) -/

def execImgLoad (path : Path) (value : Word) (s : State) : Host.Outcome State Fault Refusal :=
  run (State.writeTo path (.hub 0x4015C) value) s

/-- The load in progress has come to its end: a read has failed, or the whole image is in the staging area. -/
def ImgLoad.over (l : ImgLoad) : Bool := l.failed || decide (l.len ≤ l.got.length)

/-- RESULT of a load (R68): a failed read, or the first check that fails, or OK. -/
def ImgLoad.result (l : ImgLoad) : Nat := if l.failed then 8 else imgCheck l.got l.len

/-- A load ends with a result (R68): the resident image is replaced in one step, only when every check passes. -/
def State.imgFinish (l : ImgLoad) (res : Nat) (s : State) : State :=
  let s := (s.modUmp (fun u => { u with
    loading := none, image := if res = 2 then some l.got else u.image })).uset Reg.SUP_IMG_STAT_RESULT res
  s.post 0x0C04 .sup res (if res = 8 then 0 else imgVersion l.got)

/-- IMG_LOAD_DONE. -/
def opImgLoadDone (s : State) : State :=
  match s.ump.loading with
  | some l => if l.over then s.imgFinish l l.result else s
  | none => s

/-- The completion that IMG_LOAD_DONE brings with it, if any, is taken first. -/
def imgLast (last : Option ReadReply) (s : State) : State :=
  match last with
  | some r => s.imgReply r
  | none => s

def execImgLoadDone (last : Option ReadReply) (s : State) : Host.Outcome State Fault Refusal :=
  run (fun s => opImgLoadDone (imgLast last s)) s

/-! ### Power states (R71 to R74, R421, R472, R473) -/

/-- A write of SUP_UNIT_CTLn. -/
def unitCtl (path : Path) (n req : Nat) (keep : Byte) (s : State) : State :=
  s.writeTo path (.hub (0x40110 + 4 * n)) (BitVec.ofNat 32 (req + 2 ^ 8 * keep.toNat))

def execUnitReqCold (path : Path) (n : Fin 5) (keep : Byte) (s : State) : Host.Outcome State Fault Refusal :=
  run (unitCtl path n 0 keep) s

def execUnitReqParked (path : Path) (n : Fin 5) (keep : Byte) (s : State) : Host.Outcome State Fault Refusal :=
  run (unitCtl path n 1 keep) s

def execUnitReqHeld (path : Path) (n : Fin 5) (keep : Byte) (s : State) : Host.Outcome State Fault Refusal :=
  run (unitCtl path n 2 keep) s

def execUnitReqRun (path : Path) (n : Fin 5) (keep : Byte) (s : State) : Host.Outcome State Fault Refusal :=
  run (unitCtl path n 3 keep) s

def execUnitStartComplete (n : Fin 5) (r : StartResult) (s : State) : Host.Outcome State Fault Refusal :=
  run (State.startDone n r) s

/-- UNIT_STOP_COMPLETE (R73): what waited for the stop goes on. -/
def opUnitStopComplete (n : Nat) (s : State) : State :=
  match (s.pw n).move with
  | .stop _ => (s.stopDone n).afterStop n
  | _ => s

def execUnitStopComplete (n : Fin 5) (s : State) : Host.Outcome State Fault Refusal := run (opUnitStopComplete n) s

def execForcedStep (n : Fin 5) (step : Nat) (s : State) : Host.Outcome State Fault Refusal := run (State.forceStep n step) s

def execParkFailed (n : Fin 5) (s : State) : Host.Outcome State Fault Refusal := run (State.parkFailed n) s

def execHeldWriteAfterSubst (n : Fin 5) (s : State) : Host.Outcome State Fault Refusal := run (State.afterWait n) s

end Sys2Proof.Machine
end

