-- ==== Sys2Proof/Machine/TimingCommands.lean ====
section
/-! DEFINITION. Commands of the timing unit and the PTP port (13_timing_unit.md). -/

namespace Sys2Proof.Machine

/-! ### Timing (R340 to R354) -/

def execHostTimeSample (path : Path) (n : Fin 5) (value : Word) (s : State) : Host.Outcome State Fault Refusal :=
  run (State.writeTo path (.unit n 0x120158) value) s

def execPhaseAdjust (path : Path) (n : Fin 5) (value : Word) (s : State) : Host.Outcome State Fault Refusal :=
  run (State.writeTo path (.unit n 0x120144) value) s

def execPpsEdge (n : Fin 5) (width : Nat) (tenMeg : Option Int) (s : State) : Host.Outcome State Fault Refusal :=
  unitOp n (fun c => timPps c width tenMeg) s

def execLoscFail (n : Fin 5) (hz : Nat) (s : State) : Host.Outcome State Fault Refusal :=
  unitOp n (fun c => timLoscFail c hz) s

def execLoscReturn (x : UnitValue) (s : State) : Host.Outcome State Fault Refusal :=
  unitOp x.unit (fun c => timLoscReturn c x.value) s

def execReferenceQualified (n : Fin 5) (ref : Nat) (offset : Int) (s : State) : Host.Outcome State Fault Refusal :=
  unitOp n (fun c => timQualified c ref offset) s

def execReferenceAbsent (n : Fin 5) (ref : Nat) (s : State) : Host.Outcome State Fault Refusal :=
  unitOp n (fun c => timAbsent c ref) s

def execTimDrift (n : Fin 5) (ref : Nat) (offset : Int) (s : State) : Host.Outcome State Fault Refusal :=
  unitOp n (fun c => timDrift c ref offset) s

def execTimSwitch (n : Fin 5) (offset : Int) (s : State) : Host.Outcome State Fault Refusal :=
  unitOp n (fun c => timHardSelected c offset) s

def execHardCrossing (n : Fin 5) (ref : Nat) (offset : Int) (s : State) : Host.Outcome State Fault Refusal :=
  unitOp n (fun c => timHardOther c ref offset) s

def execTimContest (n : Fin 5) (a b : RefAt) (s : State) : Host.Outcome State Fault Refusal :=
  unitOp n (fun c => timContest c a.ref b.ref a.offset b.offset) s

def execContestWindowEnd (n : Fin 5) (a b : RefAt) (offsetW : Int) (s : State) :
    Host.Outcome State Fault Refusal :=
  unitOp n (fun c => timContestEnd c a.ref b.ref a.offset b.offset offsetW) s

def execPairAgree (n : Fin 5) (a b : RefAt) (s : State) : Host.Outcome State Fault Refusal :=
  unitOp n (fun c => timPairAgree c a.ref b.ref a.offset b.offset) s

def execRevertSwitch (n : Fin 5) (ref : Nat) (s : State) : Host.Outcome State Fault Refusal :=
  unitOp n (fun c => timRevert c ref) s

def execLockAchieved (x : UnitValue) (s : State) : Host.Outcome State Fault Refusal :=
  unitOp x.unit (opLockAchieved x.value) s

def execLockLost (x : UnitValue) (s : State) : Host.Outcome State Fault Refusal :=
  unitOp x.unit (opLockLost x.value) s

def execHoldoverExpiry (n : Fin 5) (s : State) : Host.Outcome State Fault Refusal := unitOp n opHoldoverExpiry s

/-! ### The PTP port (R355 to R358) -/

def execPtpSync (n : Fin 5) (frame : List Byte) (s : State) : Host.Outcome State Fault Refusal := unitOp n (opPtpSync frame) s

def execPtpFollowUp (n : Fin 5) (frame : List Byte) (s : State) : Host.Outcome State Fault Refusal :=
  unitOp n (opPtpFollowUp frame) s

def execPtpDelayResp (n : Fin 5) (frame : List Byte) (s : State) : Host.Outcome State Fault Refusal :=
  unitOp n (opPtpDelayResp frame) s

def execPtpDelayReqReceive (n : Fin 5) (frame : List Byte) (s : State) : Host.Outcome State Fault Refusal :=
  unitOp n (opPtpDelayReqReceive frame) s

def execPtpAnnounce (n : Fin 5) (header body : List Byte) (s : State) : Host.Outcome State Fault Refusal :=
  unitOp n (opPtpAnnounce (header ++ body)) s

def execPtpSyncTransmit (n : Fin 5) (s : State) : Host.Outcome State Fault Refusal := unitOp n opPtpSyncTransmit s

def execPtpDelayReqTransmit (n : Fin 5) (s : State) : Host.Outcome State Fault Refusal :=
  unitOp n opPtpDelayReqTransmit s

def execAnnounceTransmit (n : Fin 5) (s : State) : Host.Outcome State Fault Refusal := unitOp n opAnnounceTransmit s

def execAnnounceTimeout (n : Fin 5) (s : State) : Host.Outcome State Fault Refusal := unitOp n opAnnounceTimeout s

def execDiscardedFrame (f : UnitFrame) (s : State) : Host.Outcome State Fault Refusal :=
  unitOp f.unit (opDiscardedFrame f.frame) s

def execArpRequest (n : Fin 5) (header body : List Byte) (s : State) : Host.Outcome State Fault Refusal :=
  unitOp n (opArpRequest (header ++ body)) s

def execIcmpEcho (n : Fin 5) (header ip body : List Byte) (s : State) : Host.Outcome State Fault Refusal :=
  unitOp n (opIcmpEcho (header ++ (ip ++ body))) s

end Sys2Proof.Machine
end

