-- ==== Sys2Proof/Machine/UmpireCommands.lean ====
section
/-! DEFINITION. Commands of the bench and substitution (17), thermal management, power and telemetry (18), the log and the
status summary (19). -/

namespace Sys2Proof.Machine

/-! ### Bench and substitution (R425, R430 to R439) -/

def execBenchDesignate (path : Path) (value : Word) (s : State) : Host.Outcome State Fault Refusal :=
  run (State.writeTo path (.hub 0x43100) value) s

def execSubstGo (path : Path) (unit : Nat) (s : State) : Host.Outcome State Fault Refusal :=
  run (State.writeTo path (.hub 0x43108) (BitVec.ofNat 32 (unit % 8 + 2 ^ 8))) s

def execSubstReturn (path : Path) (unit : Nat) (s : State) : Host.Outcome State Fault Refusal :=
  run (State.writeTo path (.hub 0x43108) (BitVec.ofNat 32 (unit % 8 + 2 ^ 9))) s

/-- WATCHDOG (R431): a programme on air in M1 to M5 whose watchdog is armed and whose span has passed on the umpire's crystal. -/
def opWatchdog (n p : Nat) (s : State) : State :=
  let mode := s.modeOf n
  if 1 ≤ mode ∧ mode ≤ 5 ∧ p < 8 ∧ (s.chan n).flag (Reg.PKT_PSTAT_ONAIR p) ∧
      s.ump.watches.any (fun w => w.unit == n && w.prog == p && decide (w.at_ + w.span ≤ s.centre.xcount)) then
    let s := (s.fault Reg.SUP_FAULT_STAT_WATCHDOG).modUmp (fun u =>
      { u with watches := u.watches.filter (fun w => !(w.unit == n && w.prog == p)) })
    s.trigger n 2 mode (s.onAir n)
  else s

def execWatchdog (n : Fin 5) (prog : Nat) (s : State) : Host.Outcome State Fault Refusal := run (opWatchdog n prog) s

def execBenchSelDrive (s : State) : Host.Outcome State Fault Refusal := run State.driveSel s

/-! ### Thermal management, power and telemetry (R441 to R459) -/

def execHousekeepingRound (r : Round) (s : State) : Host.Outcome State Fault Refusal := run (State.round r) s

def execStartAfterCooling (n : Fin 5) (s : State) : Host.Outcome State Fault Refusal :=
  run (fun s => if (s.die n).shut then s else s.afterWait n) s

def execThermTripRelease (s : State) : Host.Outcome State Fault Refusal := run State.tripRelease s

def execForce (path : Path) (value : Word) (s : State) : Host.Outcome State Fault Refusal :=
  run (State.writeTo path (.hub 0x45180) value) s

def execMarginComparator (rail : Nat) (s : State) : Host.Outcome State Fault Refusal := run (State.fastStep rail) s

def execAvsStepDue (rail : Nat) (s : State) : Host.Outcome State Fault Refusal := run (State.stepDue rail) s

def execEnergySecond (e : EnergyReport) (s : State) : Host.Outcome State Fault Refusal := run (State.energy e) s

/-! ### The log and the status summary (R464, R467, R469) -/

def execLogClear (path : Path) (s : State) : Host.Outcome State Fault Refusal :=
  run (State.writeTo path (.hub 0x41134) 1#32) s

/-- SUPPRESSED (R467): the crystal second of a SOURCE and TYPE is over. -/
def opSuppressed (source typ : Nat) (s : State) : State :=
  match s.ump.log.rates.find? (fun r => r.source == source && r.typ == typ) with
  | some r => if r.second < s.centre.xcount / xSec then s.logSuppressed source typ else s
  | none => s

def execSuppressed (source typ : Nat) (s : State) : Host.Outcome State Fault Refusal :=
  run (opSuppressed source typ) s

/-- A read of SUP_STATUS0 (R469). -/
def opStatusRead (path : Path) (s : State) : State :=
  if s.arrives path && reaches path (.hub 0x44100) then
    let (v, s) := s.readAt path (.hub 0x44100)
    s.put (.readData (BitVec.ofNat 32 v))
  else s

def execStatusRead (path : Path) (s : State) : Host.Outcome State Fault Refusal := run (opStatusRead path) s

end Sys2Proof.Machine
end

