-- ==== Sys2Proof/Machine/Dispatch.lean ====
section
/-! DEFINITION. The effect of a command on everything but the queue: one arm per constructor of Instr. -/

namespace Sys2Proof.Machine

def exec (i : Instr) (s : State) : Host.Outcome State Fault Refusal :=
  match i with
  | .vddAuxRise straps => Sys2Proof.Machine.execVddAuxRise straps s
  | .auxRstAssert straps kept => Sys2Proof.Machine.execAuxRstAssert straps kept s
  | .powerFail loss => Sys2Proof.Machine.execPowerFail loss s
  | .pwrGoodRise link => Sys2Proof.Machine.execPwrGoodRise link s
  | .hbmTrainingStart invalid => Sys2Proof.Machine.execHbmTrainingStart invalid s
  | .hbmTrainingDone n failing => Sys2Proof.Machine.execHbmTrainingDone n failing s
  | .startAfterTraining n => Sys2Proof.Machine.execStartAfterTraining n s
  | .linkReset => Sys2Proof.Machine.execLinkReset s
  | .linkDown => Sys2Proof.Machine.execLinkDown s
  | .ltssmChange state rate width flit => Sys2Proof.Machine.execLtssmChange state rate width flit s
  | .configRequest r => Sys2Proof.Machine.execConfigRequest r s
  | .functionReset n => Sys2Proof.Machine.execFunctionReset n s
  | .d3hotEntry fn => Sys2Proof.Machine.execD3hotEntry fn s
  | .d0Return fn => Sys2Proof.Machine.execD0Return fn s
  | .supplyIsolation n => Sys2Proof.Machine.execSupplyIsolation n s
  | .avsTimeout rail => Sys2Proof.Machine.execAvsTimeout rail s
  | .imgLoad path value => Sys2Proof.Machine.execImgLoad path value s
  | .imgLoadDone last => Sys2Proof.Machine.execImgLoadDone last s
  | .unitReqCold path n keep => Sys2Proof.Machine.execUnitReqCold path n keep s
  | .unitReqParked path n keep => Sys2Proof.Machine.execUnitReqParked path n keep s
  | .unitReqHeld path n keep => Sys2Proof.Machine.execUnitReqHeld path n keep s
  | .unitReqRun path n keep => Sys2Proof.Machine.execUnitReqRun path n keep s
  | .unitStartComplete n r => Sys2Proof.Machine.execUnitStartComplete n r s
  | .unitStopComplete n => Sys2Proof.Machine.execUnitStopComplete n s
  | .forcedStep n step => Sys2Proof.Machine.execForcedStep n step s
  | .parkFailed n => Sys2Proof.Machine.execParkFailed n s
  | .heldWriteAfterSubst n => Sys2Proof.Machine.execHeldWriteAfterSubst n s
  | .regWrite path bar off value be => Sys2Proof.Machine.execRegWrite path bar off value be s
  | .latchedRead path at_ => Sys2Proof.Machine.execLatchedRead path at_ s
  | .readClear path off => Sys2Proof.Machine.execReadClear path off s
  | .tableIdxWrite path off value => Sys2Proof.Machine.execTableIdxWrite path off value s
  | .tableDataWrite path off value => Sys2Proof.Machine.execTableDataWrite path off value s
  | .tableDataRead path off => Sys2Proof.Machine.execTableDataRead path off s
  | .revert path page value => Sys2Proof.Machine.execRevert path page value s
  | .errClear path page => Sys2Proof.Machine.execErrClear path page s
  | .intClr path page value => Sys2Proof.Machine.execIntClr path page value s
  | .blockTimeout u block wait => Sys2Proof.Machine.execBlockTimeout u block wait s
  | .evtInject path u value => Sys2Proof.Machine.execEvtInject path u value s
  | .eventDeliver u => Sys2Proof.Machine.execEventDeliver u s
  | .doorbell path u ring value => Sys2Proof.Machine.execDoorbell path u ring value s
  | .ringEnable path u ring => Sys2Proof.Machine.execRingEnable path u ring s
  | .ringDisable path u ring => Sys2Proof.Machine.execRingDisable path u ring s
  | .descriptorComplete ring => Sys2Proof.Machine.execDescriptorComplete ring s
  | .pcieCompletion ring r => Sys2Proof.Machine.execPcieCompletion ring r s
  | .dmaReadTimeout ring => Sys2Proof.Machine.execDmaReadTimeout ring s
  | .msixModerationTimeout ring => Sys2Proof.Machine.execMsixModerationTimeout ring s
  | .bar2Write path off bytes vc1 => Sys2Proof.Machine.execBar2Write path off bytes vc1 s
  | .bar2Read path at_ len beats => Sys2Proof.Machine.execBar2Read path at_ len beats s
  | .sinkDrain n => Sys2Proof.Machine.execSinkDrain n s
  | .quench path n => Sys2Proof.Machine.execQuench path n s
  | .quenchDone n ns => Sys2Proof.Machine.execQuenchDone n ns s
  | .resume path n => Sys2Proof.Machine.execResume path n s
  | .read32 q => Sys2Proof.Machine.execRead32 q s
  | .write32 q => Sys2Proof.Machine.execWrite32 q s
  | .getStatus q => Sys2Proof.Machine.execGetStatus q s
  | .readLog q => Sys2Proof.Machine.execReadLog q s
  | .readScorecard q => Sys2Proof.Machine.execReadScorecard q s
  | .setPower q => Sys2Proof.Machine.execSetPower q s
  | .resetUnit q => Sys2Proof.Machine.execResetUnit q s
  | .substitute q => Sys2Proof.Machine.execSubstitute q s
  | .forceShutdown q => Sys2Proof.Machine.execForceShutdown q s
  | .mgtQuench q => Sys2Proof.Machine.execMgtQuench q s
  | .mgtResume q => Sys2Proof.Machine.execMgtResume q s
  | .laneState q => Sys2Proof.Machine.execLaneState q s
  | .linkState q => Sys2Proof.Machine.execLinkState q s
  | .setBusMode q => Sys2Proof.Machine.execSetBusMode q s
  | .unknownOpcode opcode q => Sys2Proof.Machine.execUnknownOpcode opcode q s
  | .responseRead => Sys2Proof.Machine.execResponseRead s
  | .requestTimeout => Sys2Proof.Machine.execRequestTimeout s
  | .enec events => Sys2Proof.Machine.execEnec events s
  | .disec events => Sys2Proof.Machine.execDisec events s
  | .rstdaa => Sys2Proof.Machine.execRstdaa s
  | .entdaa addr => Sys2Proof.Machine.execEntdaa addr s
  | .setdasa addr => Sys2Proof.Machine.execSetdasa addr s
  | .setmwl len => Sys2Proof.Machine.execSetmwl len s
  | .setmrl len => Sys2Proof.Machine.execSetmrl len s
  | .getpid => Sys2Proof.Machine.execGetpid s
  | .getbcr => Sys2Proof.Machine.execGetbcr s
  | .getdcr => Sys2Proof.Machine.execGetdcr s
  | .getstatus => Sys2Proof.Machine.execGetstatus s
  | .getmxds => Sys2Proof.Machine.execGetmxds s
  | .rstact action => Sys2Proof.Machine.execRstact action s
  | .alertResponse => Sys2Proof.Machine.execAlertResponse s
  | .smbusTimeout => Sys2Proof.Machine.execSmbusTimeout s
  | .commit path n => Sys2Proof.Machine.execCommit path n s
  | .commitAt path n => Sys2Proof.Machine.execCommitAt path n s
  | .admissionVerdict n => Sys2Proof.Machine.execAdmissionVerdict n s
  | .commitDone n => Sys2Proof.Machine.execCommitDone n s
  | .slipPending n => Sys2Proof.Machine.execSlipPending n s
  | .configRecordTimeout n => Sys2Proof.Machine.execConfigRecordTimeout n s
  | .lineTick n back => Sys2Proof.Machine.execLineTick n back s
  | .contextFreedRelease n => Sys2Proof.Machine.execContextFreedRelease n s
  | .taskComplete n executor r => Sys2Proof.Machine.execTaskComplete n executor r s
  | .linePacket n k => Sys2Proof.Machine.execLinePacket n k s
  | .flipArm path n ctx layer => Sys2Proof.Machine.execFlipArm path n ctx layer s
  | .flipApply n ctx layer => Sys2Proof.Machine.execFlipApply n ctx layer s
  | .cycle path n prog => Sys2Proof.Machine.execCycle path n prog s
  | .freeze path n prog => Sys2Proof.Machine.execFreeze path n prog s
  | .pcrOnlyPacket n prog => Sys2Proof.Machine.execPcrOnlyPacket n prog s
  | .pathUnderrun n x => Sys2Proof.Machine.execPathUnderrun n x s
  | .ubnenSReceive n group rds columns => Sys2Proof.Machine.execUbnenSReceive n group rds columns s
  | .holdExpiry n => Sys2Proof.Machine.execHoldExpiry n s
  | .accessUnitDecode n r => Sys2Proof.Machine.execAccessUnitDecode n r s
  | .decoderResume path n => Sys2Proof.Machine.execDecoderResume path n s
  | .decoderStarved n => Sys2Proof.Machine.execDecoderStarved n s
  | .scorecardReceive n crcOk => Sys2Proof.Machine.execScorecardReceive n crcOk s
  | .scorecardTimeout n => Sys2Proof.Machine.execScorecardTimeout n s
  | .hostTimeSample path n value => Sys2Proof.Machine.execHostTimeSample path n value s
  | .phaseAdjust path n value => Sys2Proof.Machine.execPhaseAdjust path n value s
  | .ppsEdge n width tenMeg => Sys2Proof.Machine.execPpsEdge n width tenMeg s
  | .loscFail n hz => Sys2Proof.Machine.execLoscFail n hz s
  | .referenceQualified n ref offset => Sys2Proof.Machine.execReferenceQualified n ref offset s
  | .referenceAbsent n ref => Sys2Proof.Machine.execReferenceAbsent n ref s
  | .timDrift n ref offset => Sys2Proof.Machine.execTimDrift n ref offset s
  | .timSwitch n offset => Sys2Proof.Machine.execTimSwitch n offset s
  | .timContest n a b => Sys2Proof.Machine.execTimContest n a b s
  | .contestWindowEnd n a b offsetW => Sys2Proof.Machine.execContestWindowEnd n a b offsetW s
  | .revertSwitch n ref => Sys2Proof.Machine.execRevertSwitch n ref s
  | .lockAchieved x => Sys2Proof.Machine.execLockAchieved x s
  | .lockLost x => Sys2Proof.Machine.execLockLost x s
  | .holdoverExpiry n => Sys2Proof.Machine.execHoldoverExpiry n s
  | .ptpSync n frame => Sys2Proof.Machine.execPtpSync n frame s
  | .ptpFollowUp n frame => Sys2Proof.Machine.execPtpFollowUp n frame s
  | .ptpDelayResp n frame => Sys2Proof.Machine.execPtpDelayResp n frame s
  | .ptpAnnounce n header body => Sys2Proof.Machine.execPtpAnnounce n header body s
  | .ptpDelayReqReceive n frame => Sys2Proof.Machine.execPtpDelayReqReceive n frame s
  | .ptpSyncTransmit n => Sys2Proof.Machine.execPtpSyncTransmit n s
  | .ptpDelayReqTransmit n => Sys2Proof.Machine.execPtpDelayReqTransmit n s
  | .announceTimeout n => Sys2Proof.Machine.execAnnounceTimeout n s
  | .arpRequest n header body => Sys2Proof.Machine.execArpRequest n header body s
  | .icmpEcho n header ip body => Sys2Proof.Machine.execIcmpEcho n header ip body s
  | .laneSignalDetect n lane => Sys2Proof.Machine.execLaneSignalDetect n lane s
  | .cdrLock n lane => Sys2Proof.Machine.execCdrLock n lane s
  | .commaAlign n lane => Sys2Proof.Machine.execCommaAlign n lane s
  | .polarityPass n lane => Sys2Proof.Machine.execPolarityPass n lane s
  | .polarityInvert n lane => Sys2Proof.Machine.execPolarityInvert n lane s
  | .laneOrder n group rev => Sys2Proof.Machine.execLaneOrder n group rev s
  | .laneUp n group skews => Sys2Proof.Machine.execLaneUp n group skews s
  | .bringupTimeout n lane => Sys2Proof.Machine.execBringupTimeout n lane s
  | .laneLost n lane cause violations => Sys2Proof.Machine.execLaneLost n lane cause violations s
  | .alignmentMarker n lane laneNo count check skew => Sys2Proof.Machine.execAlignmentMarker n lane laneNo count check skew s
  | .alignLost n group => Sys2Proof.Machine.execAlignLost n group s
  | .autonegComplete n partner => Sys2Proof.Machine.execAutonegComplete n partner s
  | .sLaneTxStart n lane => Sys2Proof.Machine.execSLaneTxStart n lane s
  | .eyeScan path n lane => Sys2Proof.Machine.execEyeScan path n lane s
  | .eyeScanDone n lane errors => Sys2Proof.Machine.execEyeScanDone n lane errors s
  | .prbsClear path n lane => Sys2Proof.Machine.execPrbsClear path n lane s
  | .prbsLock n lane before window after => Sys2Proof.Machine.execPrbsLock n lane before window after s
  | .adaptationUpdate n lane moves => Sys2Proof.Machine.execAdaptationUpdate n lane moves s
  | .fomUpdate n lane fom => Sys2Proof.Machine.execFomUpdate n lane fom s
  | .tdmFrame n port sync line errors => Sys2Proof.Machine.execTdmFrame n port sync line errors s
  | .tdmFrameTransmit n port sync beats => Sys2Proof.Machine.execTdmFrameTransmit n port sync beats s
  | .maskArm path n port side => Sys2Proof.Machine.execMaskArm path n port side s
  | .restartRequest path n port side => Sys2Proof.Machine.execRestartRequest path n port side s
  | .bitClockLoss n port side => Sys2Proof.Machine.execBitClockLoss n port side s
  | .initDone n => Sys2Proof.Machine.execInitDone n s
  | .scrubBeat n k => Sys2Proof.Machine.execScrubBeat n k s
  | .recalibration n temp => Sys2Proof.Machine.execRecalibration n temp s
  | .stormClear n => Sys2Proof.Machine.execStormClear n s
  | .benchDesignate path value => Sys2Proof.Machine.execBenchDesignate path value s
  | .substGo path unit => Sys2Proof.Machine.execSubstGo path unit s
  | .substReturn path unit => Sys2Proof.Machine.execSubstReturn path unit s
  | .watchdog n prog => Sys2Proof.Machine.execWatchdog n prog s
  | .benchSelDrive => Sys2Proof.Machine.execBenchSelDrive s
  | .housekeepingRound r => Sys2Proof.Machine.execHousekeepingRound r s
  | .startAfterCooling n => Sys2Proof.Machine.execStartAfterCooling n s
  | .thermTripRelease => Sys2Proof.Machine.execThermTripRelease s
  | .force path value => Sys2Proof.Machine.execForce path value s
  | .marginComparator rail => Sys2Proof.Machine.execMarginComparator rail s
  | .avsStepDue rail => Sys2Proof.Machine.execAvsStepDue rail s
  | .energySecond e => Sys2Proof.Machine.execEnergySecond e s
  | .logClear path => Sys2Proof.Machine.execLogClear path s
  | .suppressed source typ => Sys2Proof.Machine.execSuppressed source typ s
  | .statusRead path => Sys2Proof.Machine.execStatusRead path s
  | .vddAuxLoss => Sys2Proof.Machine.execVddAuxLoss s
  | .bankSupplyChange bank up => Sys2Proof.Machine.execBankSupplyChange bank up s
  | .perstDeassert => Sys2Proof.Machine.execPerstDeassert s
  | .lrefLoss n => Sys2Proof.Machine.execLrefLoss n s
  | .loscReturn x => Sys2Proof.Machine.execLoscReturn x s
  | .hardCrossing n ref offset => Sys2Proof.Machine.execHardCrossing n ref offset s
  | .pairAgree n a b => Sys2Proof.Machine.execPairAgree n a b s
  | .discardedFrame f => Sys2Proof.Machine.execDiscardedFrame f s
  | .announceTransmit n => Sys2Proof.Machine.execAnnounceTransmit n s

end Sys2Proof.Machine
end

