-- ==== Sys2Proof/Machine/Idle.lean ====
section
/-! DEFINITION. What passes with time alone, when no command waits: one period of the 25 MHz crystal. -/

namespace Sys2Proof.Machine

/-- One crystal period within unit `n` in RUN: device time and frequency move (R340, R341), tokens accrue (R408), packets leave
the paths (R297). -/
def State.unitPass (n : Nat) (s : State) : State := s.modRun n (fun c => pathFlush 1 (pathFlush 0 (memPass (timPass c))))

/-- One period of the crystal (40 ns) with VDD_AUX in range: XCOUNT counts (R55) and the units in RUN keep time. -/
def State.idle (s : State) : State :=
  if s.ump.on then
    (forN 5 State.unitPass { s with centre := { s.centre with xcount := s.centre.xcount + 1, out := [] } }).flushAll
  else s

end Sys2Proof.Machine
end

