-- ==== Sys2Proof/Safety.lean ====
section
/-! DEFINITION. The terms in which claims are stated: when a command completes with an effect, when a unit and a path are
open to commands, when nothing follows of itself, and what every step keeps. -/

namespace Sys2Proof

/-! ### Which commands are events within a unit -/

/-- An event of the serial lanes of a unit. -/
def Instr.laneEvent (c : Instr) : Option (Fin 5) :=
  match c with
  | .laneSignalDetect n _ | .cdrLock n _ | .commaAlign n _ | .polarityPass n _ | .polarityInvert n _
  | .bringupTimeout n _ | .sLaneTxStart n _ | .laneOrder n _ _ | .laneUp n _ _ | .laneLost n _ _ _
  | .alignmentMarker n _ _ _ _ _ | .alignLost n _ | .autonegComplete n _ | .lrefLoss n | .eyeScanDone n _ _
  | .prbsLock n _ _ _ _ | .adaptationUpdate n _ _ | .fomUpdate n _ _ => some n
  | _ => none

/-- An event of the timing unit or the PTP port of a unit. -/
def Instr.timingEvent (c : Instr) : Option (Fin 5) :=
  match c with
  | .ppsEdge n _ _ | .loscFail n _ | .referenceQualified n _ _ | .referenceAbsent n _
  | .timDrift n _ _ | .timSwitch n _ | .hardCrossing n _ _ | .timContest n _ _ | .contestWindowEnd n _ _ _
  | .pairAgree n _ _ | .revertSwitch n _ | .holdoverExpiry n | .ptpSync n _
  | .ptpFollowUp n _ | .ptpDelayResp n _ | .ptpDelayReqReceive n _ | .ptpAnnounce n _ _ | .ptpSyncTransmit n
  | .ptpDelayReqTransmit n | .announceTransmit n | .announceTimeout n | .arpRequest n _ _
  | .icmpEcho n _ _ _ => some n
  | .loscReturn x | .lockAchieved x | .lockLost x => some x.unit
  | .discardedFrame f => some f.unit
  | _ => none

/-- Another event within a unit. -/
def Instr.pictureEvent (c : Instr) : Option (Fin 5) :=
  match c with
  | .commitDone n | .slipPending n | .lineTick n _ | .contextFreedRelease n | .taskComplete n _ _ | .linePacket n _
  | .flipApply n _ _ | .pcrOnlyPacket n _ | .pathUnderrun n _ | .ubnenSReceive n _ _ _ | .holdExpiry n
  | .accessUnitDecode n _ | .decoderStarved n | .tdmFrame n _ _ _ _ | .tdmFrameTransmit n _ _ _
  | .bitClockLoss n _ _ | .initDone n | .scrubBeat n _ | .recalibration n _ | .stormClear n | .sinkDrain n => some n
  | _ => none

/-- An event within a unit, which happens while the unit is in RUN. -/
def Instr.unitEvent (c : Instr) : Option (Fin 5) :=
  (c.laneEvent.or c.timingEvent).or c.pictureEvent

namespace Machine

/-- From `s` the command `c` completes, and its own effect is `f`: the next state is what every command makes of such an
effect (`effect`), with the queue as it stands. -/
def Completes (c : Instr) (s : State) (f : State → State) : Prop :=
  exec c s = .next { effect f s with pending := s.pending }

/-- The command `c` of unit `n` completes, and its own effect is `g` within the unit, everything else being left alone. -/
def CompletesIn (c : Instr) (n : Nat) (s : State) (g : Chan → Chan) : Prop := Completes c s (State.modChan n g)

/-- The command `c` of unit `n` completes, its own effect is within the unit, and leaves the unit as `P` says. -/
def CompletesWith (c : Instr) (n : Nat) (s : State) (P : Chan → Prop) : Prop :=
  ∃ g : Chan → Chan, CompletesIn c n s g ∧ P (g (s.chan n))

/-- The umpire runs (R54) and unit `n` is in RUN (R71). -/
def State.live (s : State) (n : Nat) : Prop := s.ump.on = true ∧ s.running n = true

/-- A register access on path `p` arrives and reaches what lies at `t` (R81, R104, R134). -/
def State.opens (s : State) (p : Path) (t : Target) : Prop := s.ump.on = true ∧ s.arrives p = true ∧ reaches p t = true

/-- A word of a live register holds `w`. -/
def Chan.putWord (c : Chan) (k : Nat) (w : Word) : Chan :=
  { c with bank := { c.bank with regs := storeSet unitReset c.bank.regs k w } }

/-- A word of a hub register of block `b` holds `w`. -/
def State.putWord (b : Block) (k : Nat) (w : Word) (s : State) : State :=
  s.modBank b (fun r => { r with regs := storeSet hubReset r.regs k w })

/-- A request of the management bus can be taken: the bus works, TEST_MODE is low, none is in hand. -/
def State.mgtFree (s : State) : Prop :=
  s.ump.on = true ∧ s.mgtUp = true ∧ s.ump.straps.test = false ∧ s.ump.mgt.pending = none

/-- The request `q` of opcode `op` is in hand (R133). -/
def State.taken (op : Nat) (q : MgtReq) (s : State) : State :=
  s.modMgt (fun m => { m with pending := some (op, reqTag q m.smbus), resp := {}, mode := none })

/-- Nothing is left that follows of itself: no signal of a unit is on its way, no enabled ring can go on, the blocks that
signal are those already signalled, and FAULT# does not fall. -/
def State.atRest (before s : State) : Prop :=
  (∀ n < 5, (s.chan n).outbox = []) ∧ (s.dlUp = true → s.enabledRings = [] ∧ s.ump.loading = none) ∧
    (s.hub.powered = true → s.hub.intUp = s.masked) ∧ (s.faultLow = true → before.faultLow = true)

/-- Units that are in HELD or RUN, or on their way there. -/
def State.upCount (s : State) : Nat := ((List.range 5).filter (fun m => (s.pw m).up)).length

/-- What every step keeps: five units of which at most four are in HELD or RUN or on their way there (R15), a substitution
among them (R430), BENCH_SEL at a code of R37, and event queues of at most 256 records (R97). -/
structure State.Inv (s : State) : Prop where
  five : s.power.units.length = 5
  four : s.upCount ≤ 4
  src : s.subst.src ≤ 4
  dst : s.subst.dst ≤ 4
  sel : s.subst.sel ≤ 4 ∨ s.subst.sel = 7
  full : ∀ q ∈ s.queues, q.recs.length ≤ queueSize

/-- What lanes, timing and PTP leave alone: HBM and its controller, pictures and their contexts, audio. -/
def Chan.samePictures (c d : Chan) : Prop :=
  d.num = c.num ∧ d.hbm = c.hbm ∧ d.mem = c.mem ∧ d.sink = c.sink ∧ d.aud = c.aud ∧ d.sched = c.sched ∧ d.sources = c.sources ∧
    d.layers = c.layers ∧ d.comps = c.comps ∧ d.rens = c.rens ∧ d.regions = c.regions ∧ d.progs = c.progs ∧
    d.paths = c.paths ∧ d.rx = c.rx ∧ d.dec = c.dec

end Machine

end Sys2Proof
end

