-- ==== Sys2Proof/WellFormed.lean ====
section
/-! DEFINITION. Well-formed commands: operands within the ranges that the specification gives what they name. A command
outside them has a meaning in the model too; no meaning asks whether its command is well-formed. -/

namespace Sys2Proof

/-- Receiving lanes (R360): the 16 P-lanes and the T-lane, 20. -/
def laneOk (k : Nat) : Bool := decide (k < 16) || k == 20

/-- The lanes that EYE_SCAN and PRBS act on: P-lanes (R382, R383). -/
def pLaneOk (k : Nat) : Bool := decide (k < 16)

/-- Lane groups (R362). -/
def groupOk (g : Nat) : Bool := decide (g ≤ 4)

/-- Programmes of a unit. -/
def progOk (p : Nat) : Bool := decide (p < 8)

/-- References of the timing unit (R342). -/
def refOk (r : Nat) : Bool := decide (r < 5)

/-- Audio ports and their two sides (R386). -/
def portOk (j : Nat) : Bool := decide (j < 4)
def sideOk (x : Nat) : Bool := decide (x < 2)

/-- Rings (R111): 32 of each unit and the hub's. -/
def ringOkAll (i : Nat) : Bool := decide (i < 161)

/-- What a read may belong to: a ring, or the image load of engine 41, which serves no ring, as 161. -/
def readerOk (i : Nat) : Bool := decide (i < 162)

/-- Functions (R101): the PF and five VFs. -/
def fnOk (f : Nat) : Bool := decide (f ≤ 5)

/-- Supply rails that the umpire steers (R454). -/
def railOk (r : Nat) : Bool := decide (r < 6)

/-- A BAR0 offset of a register (R76). -/
def offOk (o : Nat) : Bool := decide (o < 2 ^ 26) && o % 4 == 0

/-- A dynamic address of the management bus (R129). -/
def addrOk (a : Nat) : Bool := decide (a < 128)

def dword (v : Nat) : Bool := decide (v < 2 ^ 32)

def ConfigReq.wf (r : ConfigReq) : Bool :=
  match r with
  | .read f o => fnOk f && decide (o < 4096) && o % 4 == 0
  | .feature f _ | .readAer f => fnOk f
  | .clearAer f m => fnOk f && decide (m < 16)
  | .deviceControl f a b _ _ => fnOk f && decide (a < 8) && decide (b < 8)
  | .busMaster f _ => fnOk f
  | .sriov _ n => decide (n ≤ 5)
  | .msix f _ _ => fnOk f
  | .vc1 _ => true
  | .write f o v => fnOk f && decide (o < 4096) && o % 4 == 0 && dword v

def Straps.wf (s : Straps) : Bool := decide (s.addr < 4) && decide (s.link < 4)

/-- LTSSM, rate and width as HST_LINK_STAT gives them (R100). -/
def linkOk (state rate width : Nat) : Bool :=
  decide (state ≤ 7) && decide (rate ≤ 6) && [0, 1, 2, 4, 8, 16].contains width

/-- The operands are in range. -/
def Instr.wf (i : Instr) : Bool :=
  match i with
  | .vddAuxRise x | .auxRstAssert x _ => x.wf
  | .pwrGoodRise l => decide (l < 4)
  | .powerFail x => decide (x.link < 4)
  | .hbmTrainingStart l => l.all (fun n => decide (n < 5))
  | .hbmTrainingDone _ f => decide (f ≤ 32)
  | .ltssmChange st r w _ => linkOk st r w
  | .configRequest r => r.wf
  | .d3hotEntry f | .d0Return f => fnOk f
  | .avsTimeout r | .marginComparator r | .avsStepDue r => railOk r
  | .forcedStep _ k => decide (1 ≤ k) && decide (k ≤ 4)
  | .regWrite _ b o _ _ => (b == 0 || b == 4) && offOk o
  | .latchedRead _ x => (x.bar == 0 || x.bar == 4) && offOk x.off
  | .readClear _ o | .tableIdxWrite _ o _ | .tableDataWrite _ o _ | .tableDataRead _ o => offOk o
  | .revert _ o _ | .errClear _ o | .intClr _ o _ => offOk o
  | .blockTimeout _ b w => decide (b < 32) && decide (w < 2 ^ 32)
  | .doorbell _ u r _ | .ringEnable _ u r | .ringDisable _ u r => if u.isSome then decide (r < 32) else r == 0
  | .descriptorComplete r | .msixModerationTimeout r => ringOkAll r
  | .dmaReadTimeout r | .pcieCompletion r _ => readerOk r
  | .bar2Write _ o bs _ => decide (o + bs.length ≤ 2 ^ 38)
  | .bar2Read _ x l _ => decide (x.off + l ≤ 2 ^ 38)
  | .unknownOpcode o _ => decide (o < 256)
  | .entdaa a | .setdasa a => addrOk a
  | .setmwl l | .setmrl l => decide (l < 2 ^ 16)
  | .rstact a => decide (a < 256)
  | .linePacket _ k => groupOk k.group
  | .ubnenSReceive _ g _ _ => groupOk g
  | .taskComplete _ e _ => decide (e ≤ 0x50)
  | .flipArm _ _ c l | .flipApply _ c l => decide (c < 4) && decide (l < 8)
  | .cycle _ _ p | .freeze _ _ p | .pcrOnlyPacket _ p | .watchdog _ p => progOk p
  | .pathUnderrun _ x => sideOk x
  | .laneUp _ g _ | .laneOrder _ g _ | .alignLost _ g => groupOk g
  | .referenceQualified _ r _ | .referenceAbsent _ r | .timDrift _ r _ | .revertSwitch _ r | .hardCrossing _ r _ => refOk r
  | .timContest _ a b | .pairAgree _ a b | .contestWindowEnd _ a b _ => refOk a.ref && refOk b.ref
  | .laneSignalDetect _ k | .cdrLock _ k | .commaAlign _ k | .polarityPass _ k | .polarityInvert _ k
  | .bringupTimeout _ k | .adaptationUpdate _ k _ => laneOk k
  | .laneLost _ k cause _ => laneOk k && decide (cause < 4)
  | .fomUpdate _ k f => laneOk k && decide (f ≤ 255)
  | .alignmentMarker _ k l c x _ => pLaneOk k && decide (l < 256) && decide (c < 256) && decide (x < 256)
  | .autonegComplete _ p => decide (p < 2 ^ 16)
  | .sLaneTxStart _ k => decide (k < 4)
  | .eyeScan _ _ k | .eyeScanDone _ k _ | .prbsClear _ _ k | .prbsLock _ k _ _ _ => pLaneOk k
  | .tdmFrame _ j _ _ _ => portOk j
  | .tdmFrameTransmit _ j _ _ => portOk j
  | .maskArm _ _ j x | .restartRequest _ _ j x | .bitClockLoss _ j x => portOk j && sideOk x
  | .substGo _ u | .substReturn _ u => decide (u ≤ 4)
  | .suppressed so t => decide (so < 16) && decide (t < 2 ^ 16)
  | .bankSupplyChange b _ => decide (b < 7)
  | .startAfterTraining _ | .linkReset | .linkDown | .functionReset _ | .supplyIsolation _ | .imgLoad _ _ | .imgLoadDone _
  | .unitReqCold _ _ _ | .unitReqParked _ _ _ | .unitReqHeld _ _ _ | .unitReqRun _ _ _ | .unitStartComplete _ _
  | .unitStopComplete _ | .parkFailed _ | .heldWriteAfterSubst _ | .evtInject _ _ _ | .eventDeliver _ | .sinkDrain _
  | .quench _ _ | .quenchDone _ _ | .resume _ _ | .read32 _ | .write32 _ | .getStatus _ | .readLog _ | .readScorecard _
  | .setPower _ | .resetUnit _ | .substitute _ | .forceShutdown _ | .mgtQuench _ | .mgtResume _ | .laneState _
  | .linkState _ | .setBusMode _ | .responseRead | .requestTimeout | .enec _ | .disec _ | .rstdaa | .getpid | .getbcr
  | .getdcr | .getstatus | .getmxds | .alertResponse | .smbusTimeout | .commit _ _ | .commitAt _ _ | .admissionVerdict _
  | .commitDone _ | .slipPending _ | .configRecordTimeout _ | .lineTick _ _ | .contextFreedRelease _ | .holdExpiry _
  | .accessUnitDecode _ _ | .decoderResume _ _ | .decoderStarved _ | .scorecardReceive _ _ | .scorecardTimeout _
  | .hostTimeSample _ _ _ | .phaseAdjust _ _ _ | .ppsEdge _ _ _ | .loscFail _ _ | .timSwitch _ _ | .arpRequest _ _ _ | .icmpEcho _ _ _ _
  | .lockAchieved _ | .lockLost _ | .holdoverExpiry _ | .ptpSync _ _ | .ptpFollowUp _ _ | .ptpDelayResp _ _
  | .ptpAnnounce _ _ _ | .ptpDelayReqReceive _ _ | .ptpSyncTransmit _ | .ptpDelayReqTransmit _ | .announceTimeout _
  | .initDone _ | .scrubBeat _ _ | .recalibration _ _ | .stormClear _ | .benchDesignate _ _ | .benchSelDrive
  | .housekeepingRound _ | .startAfterCooling _ | .thermTripRelease | .force _ _ | .energySecond _ | .logClear _
  | .statusRead _ | .vddAuxLoss | .perstDeassert | .lrefLoss _ | .loscReturn _ | .discardedFrame _ | .announceTransmit _ => true

end Sys2Proof
end

