-- ==== Sys2Proof/Certificates/Slice0/Obligations.lean ====
section
/-! DEFINITION. What is to be proved of the model. A statement that a command completes gives its own effect; what
follows of itself from any effect (signals of the units, DMA engines, interrupts, FAULT#) is `State.settle`. The rules that a
docstring names are those from which its clauses are taken: a derived statement says of them what its clauses say. -/

open Sys2Proof Sys2Proof.Machine

/-! ### The machine as a whole -/

/-- A step with a command in front is that command's effect on the state with the rest of the queue. -/
def Obligations.StepTakesFront : Prop :=
  ∀ (c : Instr) (s : State), step { s with pending := c :: s.pending } = exec c s

/-- Of R55, and the model's choice of log entry 3: with no command waiting a period of the crystal passes: XCOUNT counts it, the
units in RUN keep time, and what their paths have sent by then goes out, if VDD_AUX is in range.

Of R41 and R55: with VDD_AUX out of range every command but its rise and the change of a bank's supply does nothing. -/
def Obligations.IdleAndOff : Prop :=
  (∀ s : State, s.pending = [] →
    (s.ump.on = true → step s = .next (forN 5 State.unitPass
      { s with centre := { s.centre with xcount := s.centre.xcount + 1, out := [] } }).flushAll) ∧
    (s.ump.on = false → step s = .next s)) ∧
  (∀ (c : Instr) (s : State), s.ump.on = false → (∀ x, c ≠ .vddAuxRise x) → (∀ b u, c ≠ .bankSupplyChange b u) →
    exec c s = .next { s with centre := { s.centre with out := [] } })

/-- No command of this device ends the run: each answers a next state, and leaves the queue as it stands. -/
def Obligations.EveryCommandCompletes : Prop :=
  ∀ (c : Instr) (s : State), ∃ t, exec c s = .next t ∧ t.pending = s.pending

/-- Of R52, R53, R55, R71 and R75: the machine right after reset: the umpire starts with AUX_POR set and FAULT# low, every unit
is COLD, untrained and not isolated, no power is good, the link is down, no event, command or log entry waits, CU4 is the
bench unit with BENCH_EN low and BENCH_SEL at 111. -/
def Obligations.ResetValues : Prop :=
  let s := State.reset
  s.pending = [] ∧ s.uget Reg.SUP_RESET_CAUSE_AUX_POR = 1 ∧ s.faultLow = true ∧ s.ump.on = true ∧ s.ump.pwrGood = false ∧
    s.hub.ready = false ∧ s.hub.link = false ∧ s.ump.log.entries = [] ∧ s.centre.xcount = 0 ∧ s.subst.bench = 4 ∧
    s.subst.benchEn = false ∧ s.subst.sel = 7 ∧ (∀ q < 6, s.queues[q]? = some ({} : EventQueue)) ∧
    ∀ n < 5, (s.pw n).state = .cold ∧ (s.pw n).trained = false ∧ (s.pw n).isolated = false ∧ (s.chan n).hbm = [] ∧
      (s.chan n).mode = 7 ∧ storeGet unitReset (s.chan n).bank.regs 0x1103C = 1000#32

/-- What every step keeps holds after reset. -/
def Obligations.ResetInvariant : Prop := State.reset.Inv

/-- Of R15, R37, R97 and R430: every step keeps at most four units in HELD or RUN or on their way there, BENCH_SEL at a code
that it may carry, and event queues within their size, from any state in which they hold. -/
def Obligations.StepKeepsInvariant : Prop := ∀ s t : State, s.Inv → step s = .next t → t.Inv

/-- What follows of itself ends: a state with no signal under way, no ring and no image load to serve, and every block interrupt
already seen is left as it is. -/
def Obligations.SettledStays : Prop :=
  ∀ before s : State, State.atRest before s → State.settle before s = s

/-- The frame of an event within a unit, and of every other command whose own effect is within one: of that unit alone, and
where nothing follows of itself every other unit, every queue, the power states, hub and umpire are as they were. An event of
a unit that is not in RUN changes nothing. -/
def Obligations.UnitFrame : Prop :=
  (∀ (c : Instr) (n : Fin 5) (s : State), c.unitEvent = some n → s.ump.on = true →
    (s.running n = true → ∃ g, CompletesIn c n s g) ∧ (s.running n = false → Completes c s id)) ∧
  ∀ (c : Instr) (n : Nat) (g : Chan → Chan) (s : State), CompletesIn c n s g → s.ump.on = true →
    State.atRest { s with centre := { s.centre with out := [] } }
      (State.modChan n g { s with centre := { s.centre with out := [] } }) →
    ∃ t, exec c s = .next t ∧ t.pending = s.pending ∧ t.queues = s.queues ∧ t.power = s.power ∧
      t.centre = { s.centre with out := [] } ∧ (∀ m, m ≠ n → t.chan m = s.chan m) ∧
      (n < s.units.length → t.chan n = g (s.chan n))

/-- The frame of the lane events (14_serial_lanes.md): HBM, the memory controller, pictures, streams, the decoder and audio are
as they were.

The frame of the events of timing and PTP (13_timing_unit.md): the same, and the lanes are as they were. -/
def Obligations.LaneAndTimingFrames : Prop :=
  (∀ (c : Instr) (n : Fin 5) (s : State), c.laneEvent = some n → s.live n →
    CompletesWith c n s (fun d => Chan.samePictures (s.chan n) d)) ∧
  (∀ (c : Instr) (n : Fin 5) (s : State), c.timingEvent = some n → s.live n →
    CompletesWith c n s (fun d => Chan.samePictures (s.chan n) d ∧ d.lanes = (s.chan n).lanes))

/-- Of R104: a register write of a virtual function in the window of its unit reaches no other unit, no power state, no ring and
nothing of the umpire. -/
def Obligations.VfWritesStayInside : Prop :=
  ∀ (n : Fin 5) (off : Nat) (v : Word) (be : BitVec 4) (s : State), s.ump.on = true → off < 0x00800000 →
    ∃ g : State → State, Completes (.regWrite (.vf n) 0 off v be) s g ∧ (g s).power = s.power ∧ (g s).ump = s.ump ∧
      (g s).hub.rings = s.hub.rings ∧ (∀ m, m ≠ n.val → (g s).chan m = s.chan m) ∧
      ∀ q, q ≠ n.val → q ≠ 5 → (g s).queues[q]? = s.queues[q]?

/-- Of R8, R53 and R91: a field that is set reads back what was set, modulo its width; a field of another register, and one of
the same register beside it, reads as before. -/
def Obligations.FieldsReadBack : Prop :=
  ∀ (c : Chan) (f g : Fld) (v : Nat), f.lo + f.w ≤ 32 → g.lo + g.w ≤ 32 → storeWf unitReset c.bank.regs = true →
    (c.set f v).get f = v % 2 ^ f.w ∧ storeWf unitReset (c.set f v).bank.regs = true ∧
      (g.key ≠ f.key → (c.set f v).get g = c.get g) ∧
      (g.key = f.key → g.lo + g.w ≤ f.lo ∨ f.lo + f.w ≤ g.lo → (c.set f v).get g = c.get g)

/-! ### Supplies, resets and the link (03_power_reset_startup.md, 05_host_port.md) -/

/-- Of R41, R55, R56, R58, R59 and R61: the supplies. A rise of VDD_AUX starts the umpire with its records lost; AUX_RST# resets
it with the records that check; the loss of a level that was good turns the hub off, and POWER_FAIL of one that is not good
changes nothing; PWR_GOOD brings the device reset, which samples STRAP_LINK; a bank's supply only shows. -/
def Obligations.Supplies : Prop :=
  ∀ (straps : Straps) (kept : KeptRecords) (link : Nat) (s : State),
    (s.ump.on = false → Completes (.vddAuxRise straps) s (fun s => s.auxReset straps none)) ∧
    (s.ump.on = true →
      Completes (.vddAuxRise straps) s id ∧
      Completes (.auxRstAssert straps kept) s (fun s => s.auxReset straps (some kept)) ∧
      Completes .vddAuxLoss s (fun s =>
        (s.modUmp (fun u => { u with on := false })).modSubst (fun x => { x with benchEn := false }))) ∧
    (∀ bank up, Completes (.bankSupplyChange bank up) s (State.modUmp (fun u => { u with banks := u.banks.set bank up }))) ∧
    (s.ump.on = true → s.ump.vddHub = true → Completes (.powerFail ⟨true, link⟩) s (fun s =>
      ((s.modUmp (fun u => { u with vddHub := false })).uset Reg.SUP_RESET_CAUSE_HUB_SUPPLY 1).hubOff 1 link)) ∧
    (s.ump.on = true → s.ump.pwrGood = true → Completes (.powerFail ⟨false, link⟩) s (fun s =>
      ((s.modUmp (fun u => { u with pwrGood := false })).uset Reg.SUP_RESET_CAUSE_PWR_GOOD 1).hubOff 0 link)) ∧
    (s.ump.on = true → s.ump.vddHub = false → Completes (.powerFail ⟨true, link⟩) s id) ∧
    (s.ump.on = true → s.ump.pwrGood = false → Completes (.powerFail ⟨false, link⟩) s id) ∧
    (s.ump.on = true → s.ump.pwrGood = false → Completes (.pwrGoodRise link) s (fun s => (s.modUmp (fun u => { u with
      pwrGood := true, vddHub := true, dark := (s.die 5).shut })).deviceReset link)) ∧
    (s.ump.on = true → s.ump.pwrGood = true → Completes (.pwrGoodRise link) s id)

/-- Of R52 and R55: a rise of VDD_AUX leaves no record in the umpire's SRAM: an empty log, no scorecard, no image, no training;
the crystal count starts at zero and STRAP_ADDR chooses the management address.

Of R52, R56 and R425: a device reset takes every unit to COLD with no move, empties the hub's event queue, samples STRAP_LINK,
abandons a substitution, and returns the bench to CU4 with BENCH_EN low and BENCH_SEL at 111. -/
def Obligations.ResetsLeave : Prop :=
  (∀ (straps : Straps) (s : State), let t := s.auxReset straps none
    t.ump.log = {} ∧ t.ump.cards = List.replicate 5 {} ∧ t.ump.image = none ∧ t.centre.xcount = 0 ∧
      t.ump.straps = { straps with link := straps.link % 4 } ∧ t.ump.pwrGood = false ∧ t.ump.mgt = { smbus := straps.smb, static := 0x58 + straps.addr } ∧
      ∀ n < 5, (t.pw n).trained = false ∧ (t.pw n).isolated = false) ∧
  (∀ (link : Nat) (s : State), let t := s.deviceReset link
    (∀ n < 5, (t.pw n).state = .cold ∧ (t.pw n).move = .none ∧ (t.pw n).held = none) ∧ t.queues.getD 5 {} = ({} : EventQueue) ∧
      t.ump.straps.link = link % 4 ∧ t.subst.state = 0 ∧ t.subst.bench = 4 ∧ t.subst.benchEn = false ∧ t.subst.sel = 7 ∧
      t.hub.link = false ∧ t.hub.ready = false)

/-- Of R63, R64 and R474: the hub becomes ready and each stack without a valid record is trained; a full training that succeeds
makes the record valid; one that fails is run once more, and then logged as HBM_TRAINING with the count of failing
pseudo-channels; a start held for it then ends as TIMEOUT, and a substitution that waits for it fails. A hub that has no
power, or is ready already, and a stack that is not in training change nothing. -/
def Obligations.Training : Prop :=
  ∀ (n : Fin 5) (s : State), s.ump.on = true →
    let failed (k : Nat) (s : State) : State := (s.modPower n (fun u => { u with
      trained := false, training := false, retried := false })).logOnly 0x0E04 5 n k
    (∀ bad, s.hub.powered = true → s.hub.ready = false → Completes (.hbmTrainingStart bad) s (fun s =>
      (forN 5 (fun k s => (if bad.contains k then s.modPower k (fun u => { u with trained := false }) else s).train k)
        (s.modHub (fun h => { h with ready := true }))).showBench)) ∧
    (∀ bad, s.hub.ready = true ∨ s.hub.powered = false → Completes (.hbmTrainingStart bad) s id) ∧
    (∀ k, (s.pw n).training = false → Completes (.hbmTrainingDone n k) s id) ∧
    ((s.pw n).training = true → Completes (.hbmTrainingDone n 0) s (fun s =>
      (s.modPower n (fun u => { u with trained := true, training := false, retried := false })).showBench)) ∧
    (∀ k, (s.pw n).training = true → k ≠ 0 → (s.pw n).retried = false →
      Completes (.hbmTrainingDone n k) s (State.modPower n (fun u => { u with retried := true }))) ∧
    (∀ k, (s.pw n).training = true → k ≠ 0 → (s.pw n).retried = true →
      ((s.pw n).held = none → s.substBusy = false → Completes (.hbmTrainingDone n k) s (failed k)) ∧
      ((s.pw n).held.isSome = true → s.substBusy = false → Completes (.hbmTrainingDone n k) s (fun s =>
        let t := ((failed k s).modPower n (fun u => { u with held := none })).hubErr .sup codeTIMEOUT (0x40110 + 4 * n) 7
        (t.post 0x0007 .sup t.freeNat 250000).draw)) ∧
      ((s.pw n).held = none → s.substBusy = true → s.subst.step = 5 → s.subst.dst = n →
        Completes (.hbmTrainingDone n k) s (fun s => (failed k s).substFail 4)))

/-- Of R52, R56, R58, R100 and R128: PERST# and the link. PERST# rises and falls; a link reset with PERST# low, or by a hot reset
in the states Hot Reset and Disabled, with its LINK_STATE event when the LTSSM leaves a state other than Detect; the loss of
the data link; and a change of the LTSSM's state, at a rate that STRAP_LINK and FLIT mode allow, with the width that is
trained, which HST_LINK_STAT and a LINK_STATE event then show. -/
def Obligations.LinkEvents : Prop :=
  ∀ s : State, s.ump.on = true →
    Completes .perstDeassert s (State.modHub (fun h => { h with perst := true })) ∧
    (s.hub.ready = false → Completes .linkReset s (State.modHub (fun h => { h with perst := false }))) ∧
    (s.hub.ready = true → s.hget Reg.HST_LINK_STAT_LTSSM = 0 →
      Completes .linkReset s (fun s => (s.modHub (fun h => { h with perst := false })).linkReset)) ∧
    (s.hub.ready = true → s.hget Reg.HST_LINK_STAT_LTSSM ∈ [1, 2, 3, 4, 6] →
      Completes .linkReset s (fun s => (s.modHub (fun h => { h with perst := false })).linkReset.post 0x0D01 .hst 0 0)) ∧
    (s.hub.ready = true → s.hget Reg.HST_LINK_STAT_LTSSM = 5 ∨ s.hget Reg.HST_LINK_STAT_LTSSM = 7 →
      Completes .linkReset s (fun s => s.linkReset.post 0x0D01 .hst 0 0)) ∧
    (s.hub.link = false → Completes .linkDown s id) ∧
    (s.hub.link = true → s.hget Reg.HST_LINK_STAT_LTSSM ≠ 0 →
      Completes .linkDown s (fun s => s.linkReset.post 0x0D01 .hst 0 0)) ∧
    (s.hub.link = true → s.hget Reg.HST_LINK_STAT_LTSSM = 0 → Completes .linkDown s State.linkReset) ∧
    (∀ state rate width flit, s.hub.ready = true → s.hub.perst = true → state ≤ 7 → rate + s.ump.straps.link ≤ 6 →
      ((s.flitMode state flit).getD flit = true ∨ rate ≤ 4) → (width ∈ [1, 2, 4, 8, 16] ∨ width = 0 ∧ state ≤ 2) →
      s.hget Reg.HST_LINK_STAT_LTSSM ≠ state → Completes (.ltssmChange state rate width flit) s (fun s =>
        (((((s.hset Reg.HST_LINK_STAT_LTSSM state).hset Reg.HST_LINK_STAT_RATE rate).hset Reg.HST_LINK_STAT_WIDTH width).hset
          Reg.HST_LINK_STAT_FLIT (b2n ((s.flitMode state flit).getD false))).modHub (fun h => { h with
            flit := s.flitMode state flit, link := h.link || state == 3 })).post 0x0D01 .hst state rate)) ∧
    (∀ state rate width flit, s.hub.ready = false ∨ s.hub.perst = false ∨ 6 < rate + s.ump.straps.link ∨
      s.hget Reg.HST_LINK_STAT_LTSSM = state → Completes (.ltssmChange state rate width flit) s id)

/-- Of R52 and R101 to R104: configuration requests and the functions. With the link up, for a function that exists: what the
port supports and its AER status are read, AER status and Device Control are written, Bus Master Enable, MSI-X Enable and
Function Mask, VF Enable with its number and VC1 act, a read of what the specification does not give returns a free value and
a write of anything else has no effect; D3hot pauses the engines of the function and D0 lets them go on; a function reset
resets a VF that exists. A function that does not exist is not reached, and with the link down none is. -/
def Obligations.Functions : Prop :=
  ∀ (f : Nat) (s : State), s.ump.on = true →
    (s.linkUp = true → s.fnExists f = true →
      (∀ on, Completes (.configRequest (.busMaster f on)) s (fun s =>
        (s.modFn f (fun k => { k with busMaster := on })).sendPending f)) ∧
      (∀ on mask, Completes (.configRequest (.msix f on mask)) s (fun s =>
        (s.modFn f (fun k => { k with msixOn := on, msixMask := mask })).sendPending f)) ∧
      (∀ o, Completes (.configRequest (.read f o)) s (fun s => (s.put (.configData (s.freeNat % 2 ^ 32))).draw)) ∧
      (∀ x, Completes (.configRequest (.feature f x)) s (State.put (.configData (b2n (featureOf f x))))) ∧
      Completes (.configRequest (.readAer f)) s (fun s => s.put (.configData (aerBits (s.fn f).aer))) ∧
      (∀ mask, Completes (.configRequest (.clearAer f mask)) s (State.modFn f (fun k => { k with
        aer := (List.range 4).map (fun i => k.aer.getD i false && !bitAt mask i) }))) ∧
      (∀ mps mrrs ro ns, mps ≤ 2 → mrrs ≤ 5 → Completes (.configRequest (.deviceControl f mps mrrs ro ns)) s
        (State.modFn f (fun k => { k with mps := mps, mrrs := mrrs, relaxed := ro, noSnoop := ns }))) ∧
      (f ≠ 0 → Completes (.d3hotEntry f) s (fun s =>
        let t := s.modFn f (fun k => { k with d3 := true })
        (t.ringsOf f).foldl (fun t i => t.modRing i (Ring.abandon (decide (i < 160) && decide (i % 32 ≤ 3)))) t)) ∧
      Completes (.d0Return f) s (fun s => (s.modFn f (fun k => { k with d3 := false })).sendPending f)) ∧
    (s.linkUp = true → Completes (.d3hotEntry 0) s (fun s =>
      let t := (s.modFn 0 (fun k => { k with d3 := true })).imgAbandon
      (t.ringsOf 0).foldl (fun t i => t.modRing i (Ring.abandon (decide (i < 160) && decide (i % 32 ≤ 3)))) t)) ∧
    (s.fnExists f = false → Completes (.d3hotEntry f) s id ∧ Completes (.d0Return f) s id ∧
      ∀ on, Completes (.configRequest (.busMaster f on)) s id) ∧
    (s.linkUp = false → (∀ r, Completes (.configRequest r) s id) ∧ Completes (.d3hotEntry f) s id ∧
      Completes (.d0Return f) s id ∧ ∀ n, Completes (.functionReset n) s id) ∧
    (∀ o v, Completes (.configRequest (.write f o v)) s id) ∧
    (∀ on k, s.linkUp = true → k ≤ 5 → on ≠ s.hub.vfEnable ∨ k ≠ s.hub.numVfs →
      Completes (.configRequest (.sriov on k)) s (fun s =>
        (s.modHub (fun h => { h with vfEnable := on, numVfs := k })).dropVfs)) ∧
    (∀ on, s.linkUp = true → Completes (.configRequest (.vc1 on)) s (State.hset Reg.HST_LINK_STAT_VC1 (b2n on))) ∧
    (∀ n : Fin 5, s.linkUp = true → s.vfExists n = true → Completes (.functionReset n) s (State.functionReset n)) ∧
    (∀ n : Fin 5, s.vfExists n = false → Completes (.functionReset n) s id)

/-- Of R66 to R68: GO of IMG_LOAD starts the image read at the address and of the length that stand in the registers then, or
ends at once as BAD_LENGTH for LEN zero, and is discarded with BUSY during a load; with GO clear nothing is done. The end of
the read gives READ_ERROR, or the first of the checks of magic, length, digest and signature that fails, or OK; only with OK is
the resident image replaced, by the bytes read. A load that is not over, and none, has no end. Where the end
brings the last completion with it, that is taken first. -/
def Obligations.ImageLoad : Prop :=
  ∀ (p : Path) (s : State), s.ump.on = true →
    (s.opens p (.hub 0x4015C) →
      (s.uget Reg.SUP_IMG_STAT_RESULT = 1 →
        Completes (.imgLoad p 1) s (fun s => s.discardHub .sup codeBUSY 0x4015C (pathCode p) 1)) ∧
      (s.uget Reg.SUP_IMG_STAT_RESULT ≠ 1 → s.uget Reg.SUP_IMG_LEN_LEN = 0 →
        Completes (.imgLoad p 1) s (fun s => (s.uset Reg.SUP_IMG_STAT_RESULT 3).post 0x0C04 .sup 3 0)) ∧
      (s.uget Reg.SUP_IMG_STAT_RESULT ≠ 1 → s.uget Reg.SUP_IMG_LEN_LEN ≠ 0 → Completes (.imgLoad p 1) s (fun s =>
        (s.uset Reg.SUP_IMG_STAT_RESULT 1).modUmp (fun u => { u with
          loading := some { addr := s.imgAddr, len := s.uget Reg.SUP_IMG_LEN_LEN } }))) ∧
      Completes (.imgLoad p 0) s id) ∧
    (∀ last : Option ReadReply,
      let t := imgLast last
      ((t s).ump.loading = none → Completes (.imgLoadDone last) s t) ∧
      (∀ l, (t s).ump.loading = some l →
        let ends (res ver : Nat) (image : Option (List Byte)) (s : State) : State :=
          (((t s).modUmp (fun u => { u with loading := none, image := image })).uset Reg.SUP_IMG_STAT_RESULT res).post
            0x0C04 .sup res ver
        let ver := imgVersion l.got
        (l.failed = false → l.got.length < l.len → Completes (.imgLoadDone last) s t) ∧
        (l.failed = true → Completes (.imgLoadDone last) s (ends 8 0 s.ump.image)) ∧
        (l.failed = false → l.len ≤ l.got.length →
          (imgMagic l.got ≠ 0x555A4B53 → Completes (.imgLoadDone last) s (ends 4 ver s.ump.image)) ∧
          (imgMagic l.got = 0x555A4B53 →
            (imgLength l.got ≠ l.len → Completes (.imgLoadDone last) s (ends 5 ver s.ump.image)) ∧
            (imgLength l.got = l.len →
              (sha384 (imgBody l.got) ≠ imgDigest l.got → Completes (.imgLoadDone last) s (ends 6 ver s.ump.image)) ∧
              (sha384 (imgBody l.got) = imgDigest l.got →
                Completes (.imgLoadDone last) s (if imgSigOk l.got then ends 2 ver (some l.got) else ends 7 ver s.ump.image)))))))


/-! ### Power states (03_power_reset_startup.md, 19_faults_and_umpire.md) -/

/-- Of R74: a write of SUP_UNIT_CTLn that passes the checks is stored and requested; one that fails is discarded whole with its
code. A request for COLD fails no check. -/
def Obligations.PowerRequests : Prop :=
  ∀ (n : Fin 5) (p : Path) (keep : Byte) (s : State), s.opens p (.hub (0x40110 + 4 * n.val)) →
    let at_ := 0x40110 + 4 * n.val
    let goes (req : Nat) (s : State) : State := (s.putWord .sup at_ (BitVec.ofNat 32
      (setBitsOf (setBitsOf (storeGet hubReset s.ump.bank.regs at_).toNat 0 2 req) 8 8 keep.toNat))).request n req keep.toNat
    let not_ (req : Nat) (s : State) : State :=
      s.discardHub .sup (s.requestCode n req keep.toNat) at_ (pathCode p) (req + 2 ^ 8 * keep.toNat)
    Completes (.unitReqCold p n keep) s (goes 0) ∧
    (s.requestCode n 1 keep.toNat = 0 → Completes (.unitReqParked p n keep) s (goes 1)) ∧
    (s.requestCode n 2 keep.toNat = 0 → Completes (.unitReqHeld p n keep) s (goes 2)) ∧
    (s.requestCode n 3 keep.toNat = 0 → Completes (.unitReqRun p n keep) s (goes 3)) ∧
    (s.requestCode n 1 keep.toNat ≠ 0 → Completes (.unitReqParked p n keep) s (not_ 1)) ∧
    (s.requestCode n 2 keep.toNat ≠ 0 → Completes (.unitReqHeld p n keep) s (not_ 2)) ∧
    (s.requestCode n 3 keep.toNat ≠ 0 → Completes (.unitReqRun p n keep) s (not_ 3))

/-- Of R15, R52 and R69 to R73, and of the substitution's steps 5 and 6 (R433, R435): UNIT_START_COMPLETE and UNIT_STOP_COMPLETE.
A start to HELD ends in HELD after a unit reset. A start to RUN whose image passes its digest check enters M7 with that
image, and the unit of a substitution is then seeded; with an image that fails it, it ends in HELD (the model's choice, log
entry 73) with IMG_CORRUPT, and a substitution that waits for it fails. Training that does not restore well returns the unit
to COLD to be trained in full. A stop ends in COLD or PARKED, with the rail on the way home and what waited for the stop
going on. With no such move in progress neither command changes anything.

Of R65, R74, R419 and R451: a request that was held is acted on when its wait is over, or discarded if a check now fails; while
it must wait, and with none held, nothing happens, and nothing before the die has cooled. A substitution whose bench was
waiting goes on. -/
def Obligations.PowerMoves : Prop :=
  (∀ (n : Fin 5) (r : StartResult) (s : State), s.ump.on = true →
    let bench : Prop := s.substBusy = true ∧ s.subst.step = 5 ∧ s.subst.dst = n
    ((s.pw n).move = .start false → r ≠ .badMemory ∨ (s.pw n).state = .held →
      Completes (.unitStartComplete n r) s (fun s =>
        ((s.unitReset n (s.pw n).keep).modPower n (fun u => { u with cause := 1 })).raise n .held .none)) ∧
    ((s.pw n).move = .start true → r ≠ .badMemory ∨ (s.pw n).state = .held → s.imageGood r = true → ¬ bench →
      Completes (.unitStartComplete n r) s (State.enterRun n)) ∧
    ((s.pw n).move = .start true → r ≠ .badMemory ∨ (s.pw n).state = .held → s.imageGood r = true → bench →
      Completes (.unitStartComplete n r) s (fun s => (s.enterRun n).seedBench)) ∧
    ((s.pw n).move = .start true → r ≠ .badMemory ∨ (s.pw n).state = .held → s.imageGood r = false → ¬ bench →
      Completes (.unitStartComplete n r) s (fun s =>
        ((s.raise n .held .none).hubErr .sup codeIMG_CORRUPT 0 7).post 0x0C05 .sup n 0)) ∧
    ((s.pw n).move = .start true → r ≠ .badMemory ∨ (s.pw n).state = .held → s.imageGood r = false → bench →
      Completes (.unitStartComplete n r) s (fun s =>
        (((s.raise n .held .none).hubErr .sup codeIMG_CORRUPT 0 7).post 0x0C05 .sup n 0).substFail 4)) ∧
    (∀ b, (s.pw n).move = .start b → (s.pw n).state ≠ .held →
      Completes (.unitStartComplete n .badMemory) s (State.trainingBad n b)) ∧
    ((s.pw n).move = .none → Completes (.unitStartComplete n r) s id) ∧
    (n < s.power.units.length → s.othersUp n < 4 → let t := s.enterRun n
      (t.pw n).state = .run ∧ (t.pw n).move = .none ∧ (t.pw n).image = s.ump.image)) ∧
  (∀ (n : Fin 5) (park : Bool) (s : State), s.ump.on = true →
    ((s.pw n).move = .stop park → Completes (.unitStopComplete n) s (fun s => (s.stopDone n).afterStop n)) ∧
    ((s.pw n).move = .stop park → (s.pw n).forced = false ∨ park = false → (s.pw n).held = none → s.substBusy = false →
      Completes (.unitStopComplete n) s (fun s =>
        ((if (s.quenchOf n).own then s.modQuench n (fun _ => {}) else s).lower n park).railHome n)) ∧
    ((s.pw n).move = .none → Completes (.unitStopComplete n) s id)) ∧
  (∀ (n : Fin 5) (s : State), s.ump.on = true →
    let waits (c : Instr) : Prop := c = .startAfterTraining n ∨ c = .heldWriteAfterSubst n ∨ c = .startAfterCooling n
    ((s.die n).shut = true → Completes (.startAfterCooling n) s id) ∧
    (s.substBusy = false → ∀ c, waits c → (c = .startAfterCooling n → (s.die n).shut = false) →
      (∀ req keep, (s.pw n).held = some (req, keep) → s.mustWait n req = false →
        let free (s : State) : State := s.modPower n (fun u => { u with held := none })
        ((free s).requestCode n (min req 3) keep = 0 → Completes c s (fun s => (free s).actRequest n req)) ∧
        ((free s).requestCode n (min req 3) keep ≠ 0 → Completes c s (fun s => (free s).discardHub .sup
          ((free s).requestCode n (min req 3) keep) (0x40110 + 4 * n) 7 (min req 3 + 2 ^ 8 * keep)))) ∧
      (∀ req keep, (s.pw n).held = some (req, keep) → s.mustWait n req = true → Completes c s id) ∧
      ((s.pw n).held = none → Completes c s id)) ∧
    (s.substBusy = true → s.subst.step = 5 → s.subst.dst = n → ∀ c, waits c →
      (c = .startAfterCooling n → (s.die n).shut = false) →
      Completes c s (fun s => s.startBench.benchCheck.takeUp n)))

/-- Of R62 and R430: the isolation of a unit's supplies gates it at once, keeps ISOLATED, posts SUPPLY_ISOLATED, triggers a
substitution by the mode and the programmes on air that the unit had, and lets go on what waited for the unit to stop; of a
unit that is not in RUN, with nothing waiting, only the first three.

Of R472: a step of a stop that takes too long is forced, logged as FORCED_STEP, and remembered until the stop ends; with no stop
in progress there is none. -/
def Obligations.Isolation : Prop :=
  (∀ (n : Fin 5) (s : State), s.ump.on = true →
    let gated (s : State) : State :=
      ((s.modPower n (fun u => { u with isolated := true })).gate n 3).post 0x0C03 .sup n 0
    Completes (.supplyIsolation n) s (fun s => ((gated s).trigger n 5 (s.modeOf n) (s.onAir n)).afterStop n) ∧
    (s.running n = false → s.substBusy = false → (s.pw n).held = none → Completes (.supplyIsolation n) s gated)) ∧
  (∀ (n : Fin 5) (k : Nat) (s : State), s.ump.on = true →
    (∀ park, (s.pw n).move = .stop park → 1 ≤ k → k ≤ 4 → Completes (.forcedStep n k) s (fun s =>
      (s.modPower n (fun u => { u with forced := true })).logOnly 0x0E05 6 n k)) ∧
    ((s.pw n).move = .none → Completes (.forcedStep n k) s id))

/-- Of R473: a move to PARKED whose self-refresh is not confirmed, or one of whose steps was forced, completes as COLD with
nothing kept, and writes PARK_FAILED to the log; without such a move there is nothing to fail. -/
def Obligations.ParkFailures : Prop :=
  ∀ (n : Fin 5) (s : State), s.ump.on = true →
    let lost (s : State) : State :=
      (((s.unitReset n 0).modPower n (fun u => { u with keep := 0, map := [] })).hold n (.stop false)).logOnly 0x0E07 3 n 0
    ((s.pw n).move = .stop true → Completes (.parkFailed n) s lost) ∧
    ((s.pw n).move = .stop true → (s.pw n).forced = true → Completes (.unitStopComplete n) s (fun s =>
      (((lost (if (s.quenchOf n).own then s.modQuench n (fun _ => {}) else s)).lower n false).railHome n).afterStop n)) ∧
    ((s.pw n).move = .stop false ∨ (s.pw n).move = .none → Completes (.parkFailed n) s id)


/-! ### Register access (04_register_model.md) -/

/-- R79: a read of an offset that no register occupies returns zero; a write there is discarded with NO_REG in the block of its
page, or in HST where no block is assigned. Holes of a path's window, of the hub and of a unit in RUN, and the offsets of a
common area at which R84 places no register. -/
def Obligations.RegisterHoles : Prop :=
  ∀ (p : Path) (off : Nat) (v : Word) (vc1 : Bool) (s : State), s.ump.on = true → s.arrives p = true → off < barSize p →
    off % 4 = 0 →
    (∀ o, target p off = .none o →
      Completes (.latchedRead p ⟨0, off, vc1⟩) s (State.put (.readData 0)) ∧
      Completes (.regWrite p 0 off v 15#4) s (fun s => s.discardHub .hst codeNO_REG o (pathCode p) v.toNat)) ∧
    (∀ o b, target p off = .hub o → hubHit o = .hole b ∨ (∃ k, hubHit o = .common b k ∧ commonFields k = none) →
      Completes (.latchedRead p ⟨0, off, vc1⟩) s (State.put (.readData 0)) ∧
      Completes (.regWrite p 0 off v 15#4) s (fun s => s.discardHub b codeNO_REG o (pathCode p) v.toNat)) ∧
    (∀ n o b, target p off = .unit n o → s.running n = true →
      unitHit o = .hole b ∨ (∃ k, unitHit o = .common b k ∧ commonFields k = none) →
      Completes (.latchedRead p ⟨0, off, vc1⟩) s (State.put (.readData 0)) ∧
      (b.isUnit = true → CompletesIn (.regWrite p 0 off v 15#4) n s
        (discardUnit b codeNO_REG (bar0Unit n o) (pathCode p) v.toNat)) ∧
      (b.isUnit = false → Completes (.regWrite p 0 off v 15#4) s (fun s =>
        s.discardHub b codeNO_REG (bar0Unit n o) (pathCode p) v.toNat)))

/-- Of R80, R82 and R87 to R93: a write of a unit's register of one word: live fields are stored, staged ones go into the staged
copy; a value out of range is discarded whole with its code, a partial one with ACCESS, one to frozen staged fields with
COMMIT_PENDING, and one to a unit that is not in RUN with UNAVAILABLE.

The same of a register of two words: the write of its low word is held, that of its high word stores both, and while staged
fields are frozen each is discarded with COMMIT_PENDING. A register of the hub of one word is stored. A write of BAR4 reaches
the MSI-X table (R121), but for its reserved bits. -/
def Obligations.RegisterWrites : Prop :=
  (∀ (p : Path) (off n o : Nat) (v : Word) (b : Block) (page rep : Nat) (d : RegDef) (s : State), s.ump.on = true →
    s.arrives p = true → off < barSize p → off % 4 = 0 → target p off = .unit n o → unitHit o = .reg b page rep 0 d →
    b.isUnit = true → d.words = 1 →
    (s.running n = true → d.staged = false → stagedMask o = 0 → fieldsCode d.fields false v.toNat = 0 →
      crossOk d.cross page rep v.toNat = true → d.act = .none →
      d.fields.any (fun f => f.acc == .rw || f.acc == .w1c) = true →
      CompletesIn (.regWrite p 0 off v 15#4) n s (fun c => c.putWord o (BitVec.ofNat 32 (storeFields d.fields (fun _ => true)
        (storeGet unitReset c.bank.regs o).toNat v.toNat)))) ∧
    (s.running n = true → d.staged = false → fieldsCode d.fields false v.toNat ≠ 0 →
      CompletesIn (.regWrite p 0 off v 15#4) n s
        (discardUnit b (fieldsCode d.fields false v.toNat) (bar0Unit n o) (pathCode p) v.toNat)) ∧
    (s.running n = true → d.staged = true → (s.chan n).committing = true → d.fields.any (·.live) = false →
      CompletesIn (.regWrite p 0 off v 15#4) n s (discardUnit b codeCOMMIT_PENDING (bar0Unit n o) (pathCode p) v.toNat)) ∧
    (s.running n = true → d.staged = true → (s.chan n).committing = false → stagedMask o ≠ 0 →
      fieldsCode d.fields true v.toNat = 0 → crossOk d.cross page rep v.toNat = true → d.act = .none →
      d.fields.any (fun f => f.acc == .rw || f.acc == .w1c) = true →
      CompletesIn (.regWrite p 0 off v 15#4) n s (fun c =>
        let live := storeGet unitReset c.bank.regs o
        let old := storeGet unitReset c.bank.staged o
        let w := BitVec.ofNat 32 (storeFields d.fields (fun _ => true) (mergeBits (stagedMask o) old live).toNat v.toNat)
        { c with bank := { c.bank with
          regs := storeSet unitReset c.bank.regs o (mergeBits (stagedMask o) live w)
          staged := storeSet unitReset c.bank.staged o (mergeBits (stagedMask o) w old) } })) ∧
    (∀ be : BitVec 4, be ≠ 15#4 → s.running n = true → (blockFor (.unit n) o).isUnit = true →
      CompletesIn (.regWrite p 0 off v be) n s
        (discardUnit (blockFor (.unit n) o) codeACCESS (bar0Unit n o) (pathCode p) be.toNat)) ∧
    (∀ be : BitVec 4, s.running n = false →
      Completes (.regWrite p 0 off v be) s (State.unavailable n (bar0Unit n o) p true))) ∧
  (∀ (p : Path) (off n o w : Nat) (v : Word) (b : Block) (page rep : Nat) (d : RegDef) (s : State), s.live n →
    s.arrives p = true → off < barSize p → off % 4 = 0 → target p off = .unit n o → unitHit o = .reg b page rep w d →
    b.isUnit = true → d.words = 2 →
    let k := o - 4 * w
    let drop (c : Chan) : Chan := { c with bank := { c.bank with held := c.bank.held.filter (fun y => y.1 != k) } }
    (d.staged = true → (s.chan n).committing = true → CompletesIn (.regWrite p 0 off v 15#4) n s (fun c =>
      discardUnit b codeCOMMIT_PENDING (bar0Unit n o) (pathCode p) v.toNat (drop c))) ∧
    ((d.staged && (s.chan n).committing) = false →
      (w = 0 → CompletesIn (.regWrite p 0 off v 15#4) n s (fun c => { c with bank := { c.bank with
        held := (k, v) :: c.bank.held.filter (fun y => y.1 != k) } })) ∧
      (∀ low : Word, w ≠ 0 → (s.chan n).bank.held.find? (fun y => y.1 == k) = some (k, low) → d.act = .none →
        fieldsCode d.fields d.staged (low.toNat + 2 ^ 32 * v.toNat) = 0 →
        crossOk d.cross page rep (low.toNat + 2 ^ 32 * v.toNat) = true →
        d.fields.any (fun f => f.acc == .rw || f.acc == .w1c) = true →
        Completes (.regWrite p 0 off v 15#4) s (fun s =>
          let t := s.modChan n drop
          t.putReg (.unit n) b d k (storeFields d.fields (fun _ => true) (t.regAt (.unit n) b d k false)
            (low.toNat + 2 ^ 32 * v.toNat)))))) ∧
  (∀ (p : Path) (off o : Nat) (v : Word) (b : Block) (page rep : Nat) (d : RegDef) (s : State), s.ump.on = true →
    s.arrives p = true → off < barSize p → off % 4 = 0 → target p off = .hub o → hubHit o = .reg b page rep 0 d →
    d.words = 1 → d.staged = false → fieldsCode d.fields false v.toNat = 0 → crossOk d.cross page rep v.toNat = true →
    d.act = .none → d.fields.any (fun f => f.acc == .rw || f.acc == .w1c) = true →
    Completes (.regWrite p 0 off v 15#4) s (fun s => s.putWord b o (BitVec.ofNat 32 (storeFields d.fields (fun _ => true)
      (storeGet hubReset (s.bankOf b).regs o).toNat v.toNat)))) ∧
  (∀ (p : Path) (off : Nat) (v : Word) (s : State), s.ump.on = true → s.arrives p = true → p ≠ .mgt → off % 4 = 0 →
    off < msixSize (pathFn p) * 16 → Completes (.regWrite p 4 off v 15#4) s (fun s =>
      let w := if off % 16 = 12 then v &&& 1#32 else if off % 16 = 0 then v &&& 0xFFFFFFFC#32 else v
      (s.modHub (fun h => { h with msix := storeSet msixReset h.msix (pathFn p * 2 ^ 16 + off) w })).sendPending (pathFn p)))

/-- Of R8, R82, R87, R103, R121, R125 and R342: reads of a unit's registers. A word returns its fields; the low word of a pair
returns it and keeps the high word for the path, from which the high word is then read; TIM_NOW0 keeps TIM_NOW1 and TIM_NOW2
so; a read of RC fields returns and clears them; a unit that is not in RUN reads as all ones. A read of BAR4 returns the MSI-X
table or the Pending Bit Array, and on VC1 it is an Unsupported Request. -/
def Obligations.RegisterReads : Prop :=
  (∀ (p : Path) (off n o : Nat) (vc1 : Bool) (b : Block) (page rep : Nat) (d : RegDef) (s : State), s.ump.on = true →
    s.arrives p = true → off < barSize p → off % 4 = 0 → target p off = .unit n o →
    let v := s.readWord (.unit n) p b o
    let data : Output := .readData (BitVec.ofNat 32 (readFields d.fields v % 2 ^ 32))
    (s.running n = true → nowHigh (.unit n) o = false → o ≠ 0x120100 → d.fields.any (fun f => f.acc == .rc) = false →
      (unitHit o = .reg b page rep 0 d → d.words = 1 → Completes (.latchedRead p ⟨0, off, vc1⟩) s (State.put data)) ∧
      (unitHit o = .reg b page rep 0 d → d.words = 2 → Completes (.latchedRead p ⟨0, off, vc1⟩) s (fun s =>
        (State.latch (.unit n) p b (o + 4)
          (readFields d.fields (v + 2 ^ 32 * s.readWord (.unit n) p b (o + 4)) / 2 ^ 32) s).put data)) ∧
      (unitHit o = .reg b page rep 1 d → d.words = 2 → Completes (.latchedRead p ⟨0, off, vc1⟩) s (fun s =>
        s.put (.readData (BitVec.ofNat 32 (s.latched (.unit n) p b o)))))) ∧
    (s.running n = true → unitHit o = .reg b page rep 0 d → d.words = 1 →
      (nowHigh (.unit n) o = true → Completes (.latchedRead p ⟨0, off, vc1⟩) s (fun s =>
        s.put (.readData (BitVec.ofNat 32 (s.latched (.unit n) p b o))))) ∧
      (o = 0x120100 → Completes (.latchedRead p ⟨0, off, vc1⟩) s (fun s =>
        (((s.latch (.unit n) p b 0x120104 (s.readWord (.unit n) p b 0x120104)).latch (.unit n) p b 0x120108
          (s.readWord (.unit n) p b 0x120108))).put data))) ∧
    (s.running n = true → nowHigh (.unit n) o = false → o ≠ 0x120100 → unitHit o = .reg b page rep 0 d → d.words = 1 →
      d.fields.any (fun f => f.acc == .rc) = true →
      Completes (.readClear p off) s (fun s =>
        (s.putAt (.unit n) b o (afterRead d.fields (page - d.page) rep v)).put data)) ∧
    (s.running n = false →
      Completes (.latchedRead p ⟨0, off, vc1⟩) s (fun s =>
        (s.unavailable n (bar0Unit n o) p false).put (.readData 0xFFFFFFFF)) ∧
      Completes (.readClear p off) s (fun s => (s.unavailable n (bar0Unit n o) p false).put (.readData 0xFFFFFFFF)))) ∧
  (∀ (p : Path) (off : Nat) (s : State), s.ump.on = true → s.arrives p = true → p ≠ .mgt →
    (off < (if p = .pf then 0x10000 else 0x4000) → off % 4 = 0 → Completes (.latchedRead p ⟨4, off, false⟩) s (fun s =>
      s.put (.readData (BitVec.ofNat 32 (s.bar4Word (pathFn p) off))))) ∧
    Completes (.latchedRead p ⟨4, off, true⟩) s (fun s => (s.put .unsupported).aer (pathFn p) 3))

/-- Of R84 and R88: a table in a unit's page. Its index register loads an entry into the buffers, and an entry it does not have is
discarded with RANGE. A data word but the last goes into the write buffer; the last stores the entry if all its fields and what
ties them together allow it, and is discarded with their code if not; AINC then loads the next entry. A data word is read from
the read buffer, of the staged or, with VIEW, the active copy (log entry 80). The words of a staged table are frozen during a
commit. The buffers hold the entry of the index register from the first. -/
def Obligations.TableAccess : Prop :=
  ∀ (p : Path) (off n o : Nat) (v : Word) (b : Block) (page i : Nat) (t : TableDef) (s : State), s.live n →
    s.arrives p = true → off < barSize p → off % 4 = 0 → target p off = .unit n o → b.isUnit = true →
    let k := idxKey b page t
    let ready (s : State) : State := s.tableReady (.unit n) p b t k
    let fill (s : State) : State :=
      let buf := s.tableBuf (.unit n) b k
      s.modBankAt (.unit n) b (fun r => { r with
        bufs := (k, { buf with w := buf.w.set i v }) :: r.bufs.filter (fun y => y.1 != k) })
    let fields (j : Nat) : List FieldDef := (t.fields.filter (fun f => f.1 == j)).map (·.2)
    let whole := fill (ready s)
    let e := idxEntry (whole.idxAt (.unit n) b k)
    let ws := (whole.tableBuf (.unit n) b k).w.map BitVec.toNat
    (unitHit o = .idx b page t → bitsOf v.toNat 16 15 = 0 → idxEntry v.toNat < t.entries →
      Completes (.tableIdxWrite p off v) s (State.loadTable (.unit n) p b t k (idxEntry v.toNat) (idxAinc v.toNat))) ∧
    (unitHit o = .idx b page t → bitsOf v.toNat 16 15 ≠ 0 ∨ t.entries ≤ idxEntry v.toNat →
      CompletesIn (.tableIdxWrite p off v) n s (discardUnit b codeRANGE (bar0Unit n o) (pathCode p) v.toNat)) ∧
    (unitHit o = .data b page i t → (t.staged && (s.chan n).committing) = false →
      (i + 1 < t.words → Completes (.tableDataWrite p off v) s (fun s => fill (ready s))) ∧
      (i + 1 = t.words → t.cross ≠ .ring → (∀ j < t.words, fieldsCode (fields j) t.staged (ws.getD j 0) = 0) →
        (whole.entryCode (.unit n) b page t e ws = 0 → Completes (.tableDataWrite p off v) s (fun s =>
          (forN t.words (fun j s => s.putAt (.unit n) b (entryKey k e j) (storeFields (fields j) (fun _ => true)
            (s.copyAt (.unit n) b (entryKey k e j) false).toNat (ws.getD j 0))) (fill (ready s))).tableNext (.unit n) p b t k)) ∧
        (whole.entryCode (.unit n) b page t e ws ≠ 0 → Completes (.tableDataWrite p off v) s (fun s =>
          (fill (ready s)).discardAt (.unit n) b (whole.entryCode (.unit n) b page t e ws) (bar0Unit n o) p v.toNat)))) ∧
    (unitHit o = .data b page i t → t.staged = true → (s.chan n).committing = true →
      CompletesIn (.tableDataWrite p off v) n s (discardUnit b codeCOMMIT_PENDING (bar0Unit n o) (pathCode p) v.toNat)) ∧
    (unitHit o = .data b page i t → Completes (.tableDataRead p off) s (fun s =>
      let s := ready s
      let buf := s.tableBuf (.unit n) b k
      let w := (if s.viewActive (.unit n) b then buf.active else buf.r).getD i 0#32
      (if i + 1 = t.words then s.tableNext (.unit n) p b t k else s).put (.readData w)))

/-- Of R84 to R86: the common registers of a block of the hub, or of a unit in RUN. ERR CLEAR clears CODE and INFO, INT_CLR the
bits written as 1; REVERT, with VIEW and the block's own control bits written beside it, takes the staged fields of a unit's
block back to their active values unless a commit is in progress; a wait that ends at LIMIT is recorded as TIMEOUT. -/
def Obligations.BlockCommons : Prop :=
  (∀ (p : Path) (page o : Nat) (v : Word) (b : Block) (x : Site) (s : State), s.ump.on = true → s.arrives p = true →
    let at_ (k : Nat) : Prop := pageReg page k < barSize p ∧ x.hit o = .common b k ∧
      ((x = .hub ∧ target p (pageReg page k - pageReg page k % 4) = .hub o) ∨
        ∃ n, x = .unit n ∧ s.running n = true ∧ b.isUnit = true ∧ target p (pageReg page k - pageReg page k % 4) = .unit n o)
    (at_ 0x030 → Completes (.errClear p page) s (fun s =>
      (s.putAt x b (b.common 0x030) 0).putAt x b (b.common 0x038) 0)) ∧
    (at_ 0x02C → Completes (.intClr p page v) s (fun s =>
      s.putAt x b (b.common 0x020) ((s.copyAt x b (b.common 0x020) true) &&& ~~~v).toNat)) ∧
    (at_ 0x010 → v.toNat / 4 % 64 = 0 →
      let stored (s : State) : State := s.putAt x b (b.common 0x010) (setBitsOf (setBitsOf
        (s.copyAt x b (b.common 0x010) true).toNat 0 1 (v.toNat % 2)) 8 24 (v.toNat / 256))
      (x = .hub → Completes (.revert p page v) s stored) ∧
      (∀ n, x = .unit n → (s.chan n).committing = false →
        Completes (.revert p page v) s (fun s => (stored s).modRun n (fun c => revertBlock c b))) ∧
      (∀ n, x = .unit n → (s.chan n).committing = true → CompletesIn (.revert p page v) n s
        (discardUnit b codeCOMMIT_PENDING (bar0Unit n o) (pathCode p) (v ||| 2#32).toNat)))) ∧
  (∀ (n : Fin 5) (b : Block) (w : Nat) (s : State), s.live n → b ∈ unitBlocks →
    CompletesIn (.blockTimeout (some n) b.code w) n s (fun c =>
      let d := c.err b codeTIMEOUT 0 7
      d.post 0x0007 b w (d.get (blkLimit b)))) ∧
  (∀ (b : Block) (w : Nat) (s : State), s.ump.on = true → b ∈ hubBlocks → b.ofUmpire = true ∨ s.hub.ready = true →
    Completes (.blockTimeout none b.code w) s (fun s =>
      let t := s.hubErr b codeTIMEOUT 0 7
      t.post 0x0007 b w (t.bget b (blkLimit b))))

/-- Of R97, R99 and R117: an injected event passes every filter; the oldest record of a queue is delivered into a descriptor in
hand, and with nothing queued nothing is. (`u` none is the hub's queue, whose ring is 160.)

Of R97: a queue holds 256 records in their order; a record that finds it full is dropped, and the next record that enters says
so. -/
def Obligations.Events : Prop :=
  (∀ (p : Path) (n : Fin 5) (v : Word) (s : State), s.ump.on = true →
    (s.live n → s.opens p (.unit n 0x1A0114) →
      Completes (.evtInject p (some n) v) s (State.unitEvent n 0x00FE Block.evt.code v.toNat 0 true)) ∧
    (s.opens p (.hub 0x1114) → Completes (.evtInject p none v) s (State.hubEvent 0x00FE .hst v.toNat 0 true))) ∧
  (∀ (u : Option (Fin 5)) (s : State), s.ump.on = true →
    let q := (u.map Fin.val).getD 5
    let i := (u.map (fun n => 32 * n.val + 29)).getD 160
    (∀ d e rest, (s.ring i).stage = .hold d → (s.queues.getD q {}).recs = e :: rest → s.ringReady i = true →
      s.descrStatus i d = 0 →
      Completes (.eventDeliver u) s (fun s => (s.dequeue q).ringComplete i d 0 32 (eventBytes e))) ∧
    ((s.queues.getD q {}).recs = [] → Completes (.eventDeliver u) s id)) ∧
  (∀ (q : Nat) (e : EventQueue) (r : EventRec) (drop : State → State) (s : State), s.queues[q]? = some e →
    (e.recs.length < 256 → (s.enqueue q r drop).queues[q]? =
      some { recs := e.recs ++ [{ r with overflow := e.overflow }], overflow := false }) ∧
    (256 ≤ e.recs.length → s.enqueue q r drop = drop { s with queues := s.queues.set q { e with overflow := true } }) ∧
    (∀ k, k ≠ q → e.recs.length < 256 → (s.enqueue q r drop).queues[k]? = s.queues[k]?))


/-! ### Rings, the host window and quenches (05_host_port.md) -/

/-- R113: a doorbell of a ring that is disabled, or one that posts more than the ring holds, is discarded with RANGE; another
becomes PI. A ring that is enabled starts with PI and CI at zero. (`u` none is the hub's ring; the doorbell of ring `r` of
a page stands at 0x400 + 4r of it.) -/
def Obligations.Doorbells : Prop :=
  ∀ (p : Path) (u : Option (Fin 5)) (r : Nat) (v : Word) (s : State), ringOk u r = true →
    let at_ := ringPage u + 0x400 + 4 * r
    let i := ringIx u r
    (s.opens p (.hub at_) →
      (s.ringOn i = true → (v.toNat + 2 ^ 32 - s.ringCi i) % 2 ^ 32 ≤ s.ringSize i →
        Completes (.doorbell p u r v) s (State.putWord .hst at_ v)) ∧
      (s.ringOn i = false ∨ s.ringSize i < (v.toNat + 2 ^ 32 - s.ringCi i) % 2 ^ 32 →
        Completes (.doorbell p u r v) s (fun s => s.discardHub .hst codeRANGE at_ (pathCode p) v.toNat))) ∧
    (∀ i, s.ringOn i = true → s.ringStored i false =
      (((s.setRingWord i 0 0).setRingWord i 1 0).hset (ringDb i) 0).modRing i (fun _ => {}))

/-- Of R88, R113 and R116: RING_ENABLE and RING_DISABLE select a ring's entry and store it with another ENABLE: where the entry's
words are such as may be stored, a disabled ring comes on at indices of zero, and an enabled one goes off with nothing in
progress, its descriptor in progress FLUSHED.

Of R68, R101, R115, R120 and R122: a descriptor whose transfer is over completes while the engine may issue requests; the data of a
descriptor read puts it in hand, that of a decoder's input goes to the decoder, that of an image load to the staging area; a
read that fails, or goes unanswered for DMA_RD_TIMEOUT, ends the descriptor or the load with its status, or disables the ring
whose descriptor was read, and AER logs what it names; what was gathered is signalled when its time is over. With nothing
outstanding a completion is unexpected, and none of the others happens. -/
def Obligations.RingEvents : Prop :=
  (∀ (p : Path) (u : Option (Fin 5)) (r : Nat) (s : State), s.ump.on = true → s.arrives p = true → ringOk u r = true →
    reaches p (.hub (ringPage u + 0x110)) = true → reaches p (.hub (ringPage u + 0x134)) = true →
    let i := ringIx u r
    let select (s : State) : State := s.writeAt p (.hub (ringPage u + 0x110)) (BitVec.ofNat 32 r) 15#4
    let store (on : Nat) (s : State) : State := s.writeAt p (.hub (ringPage u + 0x134))
      (BitVec.ofNat 32 (setBitsOf (s.ringWord i 5) 17 1 on)) 15#4
    let storable (on : Nat) : Prop := storeWf hubReset s.hub.bank.regs = true ∧ ∀ b page t,
      hubHit (ringPage u + 0x110) = .idx b page t → ∀ j < t.words,
        fieldsCode ((t.fields.filter (fun f => f.1 == j)).map (·.2)) t.staged
          (if j = 5 then setBitsOf (s.ringWord i 5) 17 1 on else s.ringWord i j) = 0
    Completes (.ringEnable p u r) s (fun s => store 1 (select s)) ∧
    Completes (.ringDisable p u r) s (fun s => store 0 (select s)) ∧
    (storable 1 → s.ringOn i = false → i < s.hub.rings.length → let t := store 1 (select s)
      t.ringOn i = true ∧ t.ringCi i = 0 ∧ t.ringPi i = 0 ∧ t.ring i = {}) ∧
    (storable 0 → s.ringOn i = true → i < s.hub.rings.length → let t := store 0 (select s)
      t.ringOn i = false ∧ (t.ring i).stage = .idle ∧ (t.ring i).waiting = []) ∧
    (∀ i, s.ringOn i = false → s.ringStored i true =
      (s.ringStop i 7).modRing i (fun x => { x with stage := .idle }))) ∧
  (∀ (i : Nat) (s : State), s.ump.on = true →
    (∀ d st len bytes, (s.ring i).stage = .ready d st len bytes → s.ringOn i = true → s.dlUp = true →
      s.engineWaits (ringEngine i) = false →
      Completes (.descriptorComplete i) s (fun s => s.ringComplete i d st len bytes)) ∧
    (∀ bs, i ≠ imgRing → (s.ring i).stage = .fetch → Completes (.pcieCompletion i (.data bs)) s (fun s =>
      (s.modRing i (fun r => { r with stage := .hold (parseDescr bs) })).serve i)) ∧
    (∀ bad, i ≠ imgRing → (s.ring i).stage = .fetch → Completes (.pcieCompletion i (.error bad)) s (fun s =>
      (if bad then s.aer (s.ringFn i) 1 else s).fetchFailed i)) ∧
    (∀ d l got bs, i % 32 = 4 → i ≠ imgRing → (s.ring i).stage = .read d l got →
      d.length ≤ (got ++ fit (s.askedOf i d got) bs).length → Completes (.pcieCompletion i (.data bs)) s (fun s =>
        let p := (d.param.headD 0#8).toNat
        (s.modRun (i / 32) (decRing (got ++ fit (s.askedOf i d got) bs) (bitAt p 0) (bitAt p 1) (s.ring i).rseq)).modRing i
          (fun r => { r with stage := .ready d 0 d.length [] }))) ∧
    (∀ d l got, i ≠ imgRing → (s.ring i).stage = .read d l got →
      (∀ bad, Completes (.pcieCompletion i (.error bad)) s (fun s =>
        (if bad then s.aer (s.ringFn i) 1 else s).modRing i (fun r => { r with stage := .ready d 4 (s.moved i l) [] }))) ∧
      ((s.ring i).limit ≤ s.centre.xcount → Completes (.dmaReadTimeout i) s (fun s =>
        (s.modRing i (fun r => { r with stage := .ready d 5 (s.moved i l) [] })).aer (s.ringFn i) 0)) ∧
      (s.centre.xcount < (s.ring i).limit → Completes (.dmaReadTimeout i) s id)) ∧
    (i ≠ imgRing → (s.ring i).stage = .fetch → (s.ring i).limit ≤ s.centre.xcount →
      Completes (.dmaReadTimeout i) s (fun s => (s.fetchFailed i).aer (s.ringFn i) 0)) ∧
    (i ≠ imgRing → (s.ring i).stage = .idle → Completes (.descriptorComplete i) s id ∧ Completes (.dmaReadTimeout i) s id ∧
      ∀ bs, Completes (.pcieCompletion i (.data bs)) s (fun s => s.aer (s.ringFn i) 2)) ∧
    (∀ l, s.ump.loading = some l → l.asked ≠ 0 →
      (∀ bs, Completes (.pcieCompletion imgRing (.data bs)) s (fun s =>
        (s.modUmp (fun u => { u with loading := some { l with got := l.got ++ fit l.asked bs, asked := 0 } })).hset
          (Reg.DMA_BYTES 41) (s.hget (Reg.DMA_BYTES 41) + l.asked))) ∧
      Completes (.pcieCompletion imgRing (.error false)) s (State.modUmp (fun u => { u with
        loading := some { l with asked := 0, failed := true } })) ∧
      (l.limit ≤ s.centre.xcount → Completes (.dmaReadTimeout imgRing) s (fun s =>
        (s.modUmp (fun u => { u with loading := some { l with asked := 0, failed := true } })).aer 0 0))) ∧
    (0 < (s.ring i).gathered → Completes (.msixModerationTimeout i) s (fun s =>
      (s.modRing i (fun r => { r with gathered := 0 })).signalRing i)) ∧
    ((s.ring i).gathered = 0 → Completes (.msixModerationTimeout i) s id))

/-- Of R104, R108 to R110, R125 and R422: a write through BAR2 enters the sink of its unit, or is dropped and counted when it does
not fit, arrives on VC1, or its unit is not in RUN; it changes no other unit. A read of HBM returns what is there with the
writes that wait in the sink; beyond HBM and beyond the units zeros, of a unit that is not in RUN all ones; on VC1 it is an
Unsupported Request. -/
def Obligations.HostWindow : Prop :=
  ∀ (p : Path) (n : Fin 5) (off a len : Nat) (bytes : List Byte) (beats : List (Nat × BeatCheck)) (s : State),
    s.ump.on = true → s.arrives p = true → a < 0x800000000 →
    (p = .pf ∧ off = 0x800000000 * n.val + a ∨ p = .vf n ∧ off = a →
      (s.running n = true → a + bytes.length ≤ hbmSize → (s.chan n).sink.held + bytes.length ≤ sinkSize →
        CompletesIn (.bar2Write p off bytes false) n s (fun c => { c with sink := { c.sink with
          writes := c.sink.writes ++ [(a, bytes)], held := c.sink.held + bytes.length
          received := c.sink.received + 1 } })) ∧
      (∀ vc1, vc1 = true ∨ hbmSize < a + bytes.length ∨ s.running n = false ∨
        sinkSize < (s.chan n).sink.held + bytes.length →
        Completes (.bar2Write p off bytes vc1) s (fun s => s.hbump (Reg.HST_SINK_DROP_COUNT n) 1)) ∧
      (hbmSize ≤ a → Completes (.bar2Read p ⟨off, false⟩ len beats) s
        (State.put (.bar2Data (List.replicate len 0#8) false))) ∧
      (s.running n = false → a < hbmSize → Completes (.bar2Read p ⟨off, false⟩ len beats) s
        (State.put (.bar2Data (List.replicate len 0xFF#8) false))) ∧
      (s.running n = true → a < hbmSize → Completes (.bar2Read p ⟨off, false⟩ len beats) s (fun s =>
        let c := sinkSeen (memFind (s.chan n) beats)
        (s.modChan n (opBar2Read a len beats)).put (.bar2Data (c.load a len) (memReadFails c a len))))) ∧
    (∀ o, s.arrives .pf = true → 0x2800000000 ≤ o →
      Completes (.bar2Read .pf ⟨o, false⟩ len beats) s (State.put (.bar2Data (List.replicate len 0#8) false)) ∧
      Completes (.bar2Write .pf o bytes false) s id) ∧
    Completes (.bar2Read p ⟨off, true⟩ len beats) s (fun s => (s.put .unsupported).aer (pathFn p) 3)

/-- Of R127: QUENCH of a unit in RUN begins, of any other, or of one whose engines have stopped, it has stopped at once; the
engines' stop ends it with QUENCH_DONE; RESUME ends a quench that has stopped, and is remembered before that. A QUENCH takes
back such a RESUME (log entry 79). -/
def Obligations.Quenches : Prop :=
  ∀ (p : Path) (n : Fin 5) (ns : Nat) (s : State), s.ump.on = true →
    (s.opens p (.hub (0x2100 + 0x1000 * n.val)) →
      ((s.quenchOf n).stopped = false → s.running n = true → Completes (.quench p n) s (State.modQuench n (fun q =>
        { q with on := true, own := false, resume := false }))) ∧
      ((s.quenchOf n).stopped = true ∨ s.running n = false → Completes (.quench p n) s (fun s =>
        (s.modQuench n (fun q => { q with on := true, own := false, resume := false })).quenchStop n 0)) ∧
      ((s.quenchOf n).on = false → Completes (.resume p n) s id) ∧
      ((s.quenchOf n).on = true → (s.quenchOf n).stopped = true →
        Completes (.resume p n) s (State.modQuench n (fun _ => {}))) ∧
      ((s.quenchOf n).on = true → (s.quenchOf n).stopped = false →
        Completes (.resume p n) s (State.modQuench n (fun q => { q with resume := true })))) ∧
    ((s.quenchOf n).on = true → (s.quenchOf n).stopped = false →
      Completes (.quenchDone n ns) s (fun s => s.quenchStop n ns)) ∧
    ((s.quenchOf n).on = false → Completes (.quenchDone n ns) s id)


/-! ### The management bus (05_host_port.md) -/

/-- Of R132, R134, R135, R384 and R469: the requests that read. Each is taken in hand and answered OK with what it asks for: the
status summary, LINK_STATE, a unit's lane copy, a log slot, a chunk of a scorecard (the first takes the snapshot that the
others come from), a word of a register; READ32 stays in hand while the hub is not ready (R470). -/
def Obligations.ManagementReads : Prop :=
  ∀ (q : MgtReq) (s : State), s.mgtFree →
    (s.mgtOk 0x10 q = true → reqArgs q = [] →
      Completes (.getStatus q) s (fun s => (s.taken 0x10 q).respond stOK (s.taken 0x10 q).summary)) ∧
    (s.mgtOk 0x31 q = true → reqArgs q = [] → Completes (.linkState q) s (fun s =>
      (s.taken 0x31 q).respond stOK (wordBytes 4 (storeGet hubReset s.hub.bank.regs 0x100).toNat))) ∧
    (∀ n : Fin 5, s.mgtOk 0x30 q = true → reqArgs q = [n.val] → Completes (.laneState q) s (fun s =>
      (s.taken 0x30 q).respond stOK (s.laneCopy n))) ∧
    (∀ a b : Byte, s.mgtOk 0x11 q = true → reqArgs q = [a.toNat, b.toNat] → a.toNat + 256 * b.toNat < 1024 →
      Completes (.readLog q) s (fun s =>
        (s.taken 0x11 q).respond stOK ((s.logSlot (a.toNat + 256 * b.toNat)).map BitVec.toNat))) ∧
    (∀ (n : Fin 5) (w : Nat), s.mgtOk 0x12 q = true → w ≤ 1 → reqArgs q = [n.val, w, 0] →
      Completes (.readScorecard q) s (fun s =>
        ((s.taken 0x12 q).modMgt (fun m => { m with snap := some (n.val, w, s.cardOf n w) })).respond stOK
          ((cardChunk (s.cardOf n w) 0).map BitVec.toNat))) ∧
    (∀ (n : Fin 5) (w k : Nat) (card : Option Scorecard), s.mgtOk 0x12 q = true → w ≤ 1 → 1 ≤ k → k ≤ 127 →
      reqArgs q = [n.val, w, k] →
      (s.ump.mgt.snap = some (n.val, w, card) → Completes (.readScorecard q) s (fun s =>
        (s.taken 0x12 q).respond stOK ((cardChunk card k).map BitVec.toNat))) ∧
      (s.ump.mgt.snap = none → Completes (.readScorecard q) s (fun s => (s.taken 0x12 q).respond stBAD_ARG []))) ∧
    (∀ o, s.mgtOk 0x01 q = true → reqArgs q = wordBytes 4 o → o < 0x04000000 → o % 4 = 0 →
      (s.hub.ready = true → Completes (.read32 q) s (fun s =>
        let r := (s.taken 0x01 q).readAt .mgt (target .mgt o)
        r.2.respond stOK (wordBytes 4 r.1))) ∧
      (s.hub.ready = false → Completes (.read32 q) s (State.taken 0x01 q)))

/-- Of R74, R127, R131, R134, R430, R432 and R453: the requests that act: a write of a register (in hand while the hub is not
ready), power requests, SUBSTITUTE, FORCE_SHUTDOWN of one unit or of all, QUENCH and RESUME of the units of a mask, and
SET_BUS_MODE. A power request or a substitution that a check forbids answers REFUSED with its code, is recorded as a discard,
and does nothing else. -/
def Obligations.ManagementWrites : Prop :=
  ∀ (q : MgtReq) (n : Fin 5) (s : State), s.mgtFree →
    (∀ o (v : Word), s.mgtOk 0x02 q = true → reqArgs q = wordBytes 4 o ++ wordBytes 4 v.toNat → o < 0x04000000 → o % 4 = 0 →
      (s.hub.ready = true → Completes (.write32 q) s (fun s =>
        let t := (s.taken 0x02 q).writeAt .mgt (target .mgt o) v 15#4
        t.respond stOK (wordBytes 2 (t.codeAt o)))) ∧
      (s.hub.ready = false → Completes (.write32 q) s (State.taken 0x02 q))) ∧
    (∀ req keep : Nat, s.mgtOk 0x20 q = true → reqArgs q = [n.val, req, keep] → req ≤ 3 →
      (s.requestCode n req keep = 0 → Completes (.setPower q) s (fun s =>
        (((s.taken 0x20 q).setUnitCtl n req keep).request n req keep).respond stOK [])) ∧
      (s.requestCode n req keep ≠ 0 → Completes (.setPower q) s (fun s =>
        let code := s.requestCode n req keep
        ((s.taken 0x20 q).discardHub .sup code (0x40110 + 4 * n.val) 6 n).respond stREFUSED [code % 256, code / 256]))) ∧
    (s.mgtOk 0x21 q = true → reqArgs q = [n.val] →
      let keep := s.uget (Reg.SUP_UNIT_CTL_KEEP n)
      let code := s.requestCode n 3 keep
      (code = 0 → Completes (.resetUnit q) s (fun s =>
        (((s.taken 0x21 q).setUnitCtl n 3 keep).request n 4 keep).respond stOK [])) ∧
      (code ≠ 0 → Completes (.resetUnit q) s (fun s =>
        ((s.taken 0x21 q).discardHub .sup code (0x40110 + 4 * n.val) 6 n).respond stREFUSED [code % 256, code / 256]))) ∧
    (s.mgtOk 0x22 q = true → reqArgs q = [n.val] →
      (s.goCode n = 0 → Completes (.substitute q) s (fun s => ((s.taken 0x22 q).declare n 1).respond stOK [])) ∧
      (s.goCode n ≠ 0 → Completes (.substitute q) s (fun s =>
        (((s.taken 0x22 q).modSubst (fun y => { y with trigger := 1 })).discardHub .sup (s.goCode n) 0x43108 6 n).respond
          stREFUSED [s.goCode n % 256, s.goCode n / 256]))) ∧
    (s.mgtOk 0x23 q = true →
      (reqArgs q = [n.val] → Completes (.forceShutdown q) s (fun s =>
        ((s.taken 0x23 q).forceDies (2 ^ n.val)).respond stOK [])) ∧
      (reqArgs q = [0x0F] → Completes (.forceShutdown q) s (fun s => ((s.taken 0x23 q).forceDies 0x1F).respond stOK []))) ∧
    (∀ m : Nat, reqArgs q = [m] → m ≤ 0x1F → s.hub.ready = true →
      (s.mgtOk 0x24 q = true → Completes (.mgtQuench q) s (fun s =>
        (forN 5 (fun k t => if bitAt m k then t.quenchStart k false else t) (s.taken 0x24 q)).respond stOK [])) ∧
      (s.mgtOk 0x25 q = true → Completes (.mgtResume q) s (fun s =>
        (forN 5 (fun k t => if bitAt m k then t.quenchResume k else t) (s.taken 0x25 q)).respond stOK []))) ∧
    (∀ m : Nat, s.mgtOk 0x3E q = true → reqArgs q = [m] → m ≤ 1 → Completes (.setBusMode q) s (fun s =>
      ((s.taken 0x3E q).modMgt (fun y => { y with mode := some (m == 1) })).respond stOK []))

/-- Of R57, R132, R133 and R134: a request that is not whole or whose CRC-8 fails is recorded as INPUT, one that comes while
another is in hand as BUSY with MGT_BUSY; a LEN other than the opcode's, an argument out of range and an unknown OPCODE are
answered with their status; under TEST_MODE only GET_STATUS is answered, and with the bus's bank out of range none.

Of R129 to R133: the response is read, with its CRC-8, or in SMBus mode as a block with its PEC; it is PENDING while the request is
not complete; SET_BUS_MODE comes into force with its response's read; a request that does not complete in time is answered
TIMEOUT; the Alert Response Address is answered with the target's own and the PEC while an alert is out; an SMBus timeout
drops a transaction that has not become a request. -/
def Obligations.ManagementRejects : Prop :=
  (∀ (q : MgtReq) (s : State), s.ump.on = true → s.mgtUp = true →
    (s.ump.straps.test = false →
      (s.mgtOk 0x11 q = false → Completes (.readLog q) s (fun s => s.hubErr .mgt codeINPUT 0 6)) ∧
      (s.mgtOk 0x20 q = false → Completes (.setPower q) s (fun s => s.hubErr .mgt codeINPUT 0 6)) ∧
      (s.mgtOk 0x20 q = true → s.ump.mgt.pending.isSome = true →
        Completes (.setPower q) s (fun s => (s.hubErr .mgt codeBUSY 0 6).post 0x0008 .mgt 0x20 0))) ∧
    (s.mgtFree → s.mgtOk 0x20 q = true →
      ((reqArgs q).length ≠ 3 → Completes (.setPower q) s (fun s => (s.taken 0x20 q).respond stBAD_LENGTH [])) ∧
      (∀ a b c : Nat, reqArgs q = [a, b, c] → 4 < a ∨ 3 < b →
        Completes (.setPower q) s (fun s => (s.taken 0x20 q).respond stBAD_ARG []))) ∧
    (∀ op, s.mgtFree → s.mgtOk op q = true → op < 256 → unknownOp op = true →
      Completes (.unknownOpcode op q) s (fun s => (s.taken op q).respond stBAD_OPCODE [])) ∧
    (s.ump.straps.test = true → Completes (.setPower q) s id ∧ Completes (.write32 q) s id ∧
      (s.mgtOk 0x10 q = true → reqArgs q = [] → s.ump.mgt.pending = none →
        Completes (.getStatus q) s (fun s => (s.taken 0x10 q).respond stOK (s.taken 0x10 q).summary)))) ∧
  (∀ (q : MgtReq) (s : State), s.ump.on = true → s.mgtUp = false →
    Completes (.getStatus q) s id ∧ Completes (.setPower q) s id ∧ Completes .responseRead s id) ∧
  (∀ s : State, s.ump.on = true → s.mgtUp = true →
    let body (r : MgtResp) : List Byte := [BitVec.ofNat 8 r.tag, BitVec.ofNat 8 r.status, BitVec.ofNat 8 r.data.length] ++
      r.data.map (BitVec.ofNat 8)
    let framed (smbus : Bool) (r : MgtResp) : List Byte :=
      let addr := 2 * s.ump.mgt.static
      if smbus then
        let block := BitVec.ofNat 8 (body r).length :: body r
        block ++ [BitVec.ofNat 8 (crc8 ([BitVec.ofNat 8 addr, 0xFF#8, BitVec.ofNat 8 (addr + 1)] ++ block))]
      else body r ++ [BitVec.ofNat 8 (crc8 (body r))]
    (s.ump.mgt.pending = none → s.ump.mgt.mode = none → Completes .responseRead s
      (State.put (.mgt (framed s.ump.mgt.smbus s.ump.mgt.resp)))) ∧
    (∀ op tag, s.ump.mgt.pending = some (op, tag) → Completes .responseRead s
      (State.put (.mgt (framed s.ump.mgt.smbus { tag := tag, status := 1 })))) ∧
    (∀ b, s.ump.mgt.pending = none → s.ump.mgt.mode = some b → Completes .responseRead s (fun t =>
      (t.put (.mgt (framed s.ump.mgt.smbus s.ump.mgt.resp))).modMgt (fun m => { m with smbus := b, mode := none }))) ∧
    (s.ump.mgt.pending.isSome = true → Completes .requestTimeout s (fun s => s.respond stTIMEOUT [])) ∧
    (s.ump.mgt.pending = none → Completes .requestTimeout s id) ∧
    (s.ump.mgt.smbus = true → s.ump.straps.test = false → 0 < s.ump.mgt.alerts → Completes .alertResponse s (fun s =>
      let own := BitVec.ofNat 8 (2 * s.ump.mgt.static)
      (s.modMgt (fun m => { m with alerts := m.alerts - 1 })).put (.mgt [own, BitVec.ofNat 8 (crc8 [0x19#8, own])]))) ∧
    (s.ump.mgt.alerts = 0 ∨ s.ump.mgt.smbus = false ∨ s.ump.straps.test = true → Completes .alertResponse s id) ∧
    Completes .smbusTimeout s id)

/-- Of R57 and R129: the common command codes in I3C mode: events enabled and disabled, an address assigned to a target that has
none and taken away, lengths and the reset action set, and the values a target with an address returns, under TEST_MODE only
GETSTATUS. In SMBus mode none acts. The value of GETSTATUS is free (the specification gives it no content). -/
def Obligations.CommonCommandCodes : Prop :=
  ∀ (b : Byte) (k : Nat) (s : State), s.ump.on = true →
    (s.mgtUp = true → s.ump.mgt.smbus = false →
      Completes (.enec b) s (State.modMgt (fun m => { m with events := orByte m.events b })) ∧
      Completes (.disec b) s (State.modMgt (fun m => { m with events := clearByte m.events b })) ∧
      Completes .rstdaa s (State.modMgt (fun m => { m with dyn := none })) ∧
      Completes (.setmwl k) s (State.modMgt (fun m => { m with mwl := k % 2 ^ 16 })) ∧
      Completes (.setmrl k) s (State.modMgt (fun m => { m with mrl := k % 2 ^ 16 })) ∧
      Completes (.rstact k) s (State.modMgt (fun m => { m with rstact := k % 256 })) ∧
      (s.ump.mgt.dyn = none →
        Completes (.entdaa k) s (State.modMgt (fun m => { m with dyn := some (k % 128) })) ∧
        Completes (.setdasa k) s (State.modMgt (fun m => { m with dyn := some (k % 128) })) ∧
        Completes .getpid s id) ∧
      (s.ump.mgt.dyn.isSome = true →
        Completes (.entdaa k) s id ∧ Completes (.setdasa k) s id ∧
        (s.ump.straps.test = false →
          Completes .getpid s (State.put (.mgtValue (Config.pid % 2 ^ 48))) ∧
          Completes .getbcr s (State.put (.mgtValue (Config.bcr % 2 ^ 8))) ∧
          Completes .getdcr s (State.put (.mgtValue (Config.dcr % 2 ^ 8))) ∧
          Completes .getmxds s (State.put (.mgtValue Config.mxds))) ∧
        (s.ump.straps.test = true → Completes .getpid s id ∧ Completes .getbcr s id ∧ Completes .getdcr s id ∧
          Completes .getmxds s id) ∧
        Completes .getstatus s (fun s => (s.put (.mgtValue (s.freeNat % 2 ^ 16))).draw))) ∧
    (s.ump.mgt.smbus = true →
      Completes (.enec b) s id ∧ Completes (.disec b) s id ∧ Completes .rstdaa s id ∧ Completes (.setmwl k) s id ∧
      Completes (.setmrl k) s id ∧ Completes (.rstact k) s id ∧ Completes (.entdaa k) s id ∧ Completes (.setdasa k) s id ∧
      Completes .getpid s id ∧ Completes .getbcr s id ∧ Completes .getdcr s id ∧ Completes .getmxds s id)


/-! ### Commits, scheduling, pictures and streams (06 to 12) -/

/-- Of R144 and R146: GO takes the next number and makes the commit pending, at the written frame with AT_EN; a GO while a commit
is pending is discarded with BUSY.

Of R153, R155 and R436: the check refuses a pending commit at the first step that fails, with the figures of the steps reached, or
accepts it, shows its frame and, outside M7, the programmes' floors and factors, and tells the umpire of a commit of its own;
with none pending there is no verdict. -/
def Obligations.CommitChecks : Prop :=
  (∀ (n : Fin 5) (p : Path) (s : State), s.live n → s.opens p (.unit n 0x100104) →
    ((s.chan n).committing = false →
      CompletesIn (.commit p n) n s (fun c =>
        let d := (c.inc Reg.SCH_COMMIT_NUM_NUM).set Reg.SCH_COMMIT_STAT_STATE 1
        { d with sched := { d.sched with at_ := none } }) ∧
      CompletesIn (.commitAt p n) n s (fun c =>
        let d := (c.inc Reg.SCH_COMMIT_NUM_NUM).set Reg.SCH_COMMIT_STAT_STATE 1
        { d with sched := { d.sched with at_ := some (d.get Reg.SCH_COMMIT_AT_FRAME) } })) ∧
    ((s.chan n).committing = true →
      CompletesIn (.commit p n) n s (discardUnit .sch codeBUSY (bar0Unit n 0x100104) (pathCode p) 1) ∧
      CompletesIn (.commitAt p n) n s (discardUnit .sch codeBUSY (bar0Unit n 0x100104) (pathCode p) 3))) ∧
  (∀ (n : Fin 5) (reached : Nat) (s : State), s.live n →
    ((s.chan n).get Reg.SCH_COMMIT_STAT_STATE ≠ 1 → CompletesIn (.admissionVerdict n) n s id) ∧
    (∀ v, (s.chan n).get Reg.SCH_COMMIT_STAT_STATE = 1 → admission (s.involved n) (s.chan n) = (some v, reached) →
      CompletesIn (.admissionVerdict n) n s (fun c => refuseCommit v (admissionFigures (candidate c) reached c))) ∧
    ((s.chan n).get Reg.SCH_COMMIT_STAT_STATE = 1 → admission (s.involved n) (s.chan n) = (none, reached) →
      CompletesIn (.admissionVerdict n) n s (fun c =>
        let next := candidate c
        let shown := ((admissionFigures next reached c).set Reg.SCH_COMMIT_STAT_STATE 2).set Reg.SCH_EFFECT_FRAME_FRAME
          (c.sched.at_.getD (effectFrame c next c.now))
        let d : Chan := { shown with sched := { shown.sched with verdictAt := c.now } }
        let d := if next.mode = 7 then d else forN 8 (fun p d =>
          if progOn next p then
            (d.set (Reg.RCT_PFLOOR_VALUE p) (progFmax next p)).set (Reg.RCT_PKAPPA_VALUE p) (progKappa next p)
          else d) d
        if d.draw.sched.serving then d.draw.emit (.verdict 0) else d.draw)))

/-- Of R145, R147 and R429: an accepted commit that stands at a boundary which it may take (zero slip; 1 ms after the verdict; one
of nine, or the target with AT_EN) takes effect with a COMMIT_DONE event and a configuration record for the umpire, and leaves
no target frame; elsewhere it does not.

Of R145, R148 and R474: one that finds slip at the last boundary is refused with SLIP_PENDING, the element being a programme; a
configuration record that does not come leaves the scorecards without a match. -/
def Obligations.CommitTakesEffect : Prop :=
  (∀ (n : Fin 5) (s : State), s.live n →
    let next := incoming (s.chan n)
    (commitDue (s.chan n) next = true →
      CompletesWith (.commitDone n) n s (fun d => d.sched.at_ = none ∧ d.sched.serving = false ∧
        (∃ num f, .event 0x0101 Block.sch.code num f ∈ d.outbox) ∧ ∃ r, .config r ∈ d.outbox)) ∧
    (commitDue (s.chan n) next = false → CompletesIn (.commitDone n) n s id) ∧
    (slipDue (s.chan n) next = true → ∃ k < 8, CompletesIn (.slipPending n) n s (refuseCommit ⟨0x010D, 4, k, 0⟩)) ∧
    (slipDue (s.chan n) next = false → CompletesIn (.slipPending n) n s id) ∧
    ((s.chan n).get Reg.SCH_COMMIT_STAT_STATE ≠ 2 ∨ noSlip (s.chan n) = false → commitDue (s.chan n) next = false)) ∧
  (∀ (n : Fin 5) (s : State), s.ump.on = true →
    (∀ k, (s.card n).newest = some k → Completes (.configRecordTimeout n) s (State.modCards n (fun y =>
      { y with configs := y.configs.filter (fun r => r.commit != k), newest := none }))) ∧
    ((s.card n).newest = none → Completes (.configRecordTimeout n) s id))

/-- Of R145, R176 and R426: at a tick of the raster in force the departures due start first, then capture retires the line and
releases rows, then delay lists, then completions dated at the tick, then limits and targets, then executors; with nothing on
air the scorecard of the frame before follows at line 0. What an accepted commit does at a boundary of that raster comes before
the boundary's tick. An old raster ticks for its rows alone; a raster that is not there does not tick.

Of R174, R177 and R178: a finished task does its kind's work, leaves its executor and wakes what waited on it; an idle executor
finishes nothing. Contexts that are free go to the release that waited longest. -/
def Obligations.Scheduler : Prop :=
  (∀ (n : Fin 5) (s : State), s.live n →
    let tick (r0 : Raster) (c : Chan) : Chan :=
      let r := r0.next
      let c0 := ({ c with ticks := c.ticks + 1, sched := { c.sched with raster := some r } } : Chan).inc Reg.SCH_TICKS_COUNT
      let c1 := tickDepart c0 r.id r.tick
      let rel := releases c1 r
      let c4 := tickBudget (tickDate (tickReady (tickCapture c1 r rel)) r.id r.tick) rel
      let c5 := forN 8 (fun p c => tidyProg c p) (fillAll c4)
      if tickLine r.tick = 0 ∧ ¬ r0.pre ∧ c5.mode ≤ 6 ∧
          (List.range 8).all (fun p => !c5.flag (Reg.PKT_PSTAT_ONAIR p)) then
        ({ c5 with scored := c5.scored + 1 } : Chan).emit (.scorecard (scorecard c5 ((tickFrame r.tick + 65535) % 65536)))
      else c5
    let due : Prop := beforeBoundary (s.chan n) = true ∧ laysRaster (s.chan n) (incoming (s.chan n)) = false
    (¬ due → (s.chan n).sched.raster = none → CompletesIn (.lineTick n 0) n s id) ∧
    (∀ r0 : Raster, ¬ due → (s.chan n).sched.raster = some r0 → CompletesIn (.lineTick n 0) n s (tick r0)) ∧
    (∀ r0 : Raster, due → (opSlipPending (opCommitDone (s.chan n))).sched.raster = some r0 →
      CompletesIn (.lineTick n 0) n s (fun c => tick r0 (opSlipPending (opCommitDone c)))) ∧
    (due → (opSlipPending (opCommitDone (s.chan n))).sched.raster = none →
      CompletesIn (.lineTick n 0) n s (fun c => opSlipPending (opCommitDone c))) ∧
    (∀ k, (s.chan n).sched.old[k]? = none → CompletesIn (.lineTick n (k + 1)) n s id) ∧
    (∀ k (r0 : Raster), (s.chan n).sched.old[k]? = some r0 → CompletesIn (.lineTick n (k + 1)) n s (fun c =>
      let r := r0.next
      let c0 : Chan := { c with sched := { c.sched with old := c.sched.old.map (fun x => if x.id = r.id then r else x) } }
      tidyRasters (forN 8 (fun p c => tidyProg c p)
        (fillAll (tickDate (tickReady (tickDepart c0 r.id r.tick)) r.id r.tick)))))) ∧
  (∀ (n : Fin 5) (e i : Nat) (x : Ctx) (r : TaskResult) (s : State), s.live n →
    (e < 16 → ((s.chan n).sched.engines.getD e {}).run = none → CompletesIn (.taskComplete n e r) n s id) ∧
    (16 ≤ e → (s.chan n).sched.others.find? (fun y => y.1 == e) = none → CompletesIn (.taskComplete n e r) n s id) ∧
    (e < 16 → ((s.chan n).sched.engines.getD e {}).run = some i → (s.chan n).ctx? i = some x → x.key.kind = 1 →
      CompletesIn (.taskComplete n e r) n s (fun c =>
        startNext ((finishCtx (forN x.count (fun j c => codeCtu c x.key.prog x j (r.ctus.getD j {})) (memFind c r.beats))
          i x).modEngine e (fun y => { y with run := none })) e)) ∧
    (∀ j, 16 ≤ e → (s.chan n).sched.others.find? (fun y => y.1 == e) = some (j, i) → (s.chan n).ctx? i = some x →
      let done (c : Chan) : Chan :=
        let d := finishCtx c i x
        { d with sched := { d.sched with others := d.sched.others.filter (fun y => y.1 != e) } }
      (x.key.kind = 0 → CompletesIn (.taskComplete n e r) n s (fun c =>
        done (composeRow (memFind c r.beats) x.key.prog x.key.pic x.key.row r.lut))) ∧
      (x.key.kind = 2 ∨ x.key.kind = 5 → CompletesIn (.taskComplete n e r) n s (fun c => done (memFind c r.beats))) ∧
      (x.key.kind = 3 → CompletesIn (.taskComplete n e r) n s (fun c => done (packRow (memFind c r.beats) x))) ∧
      (x.key.kind = 4 → CompletesIn (.taskComplete n e r) n s (fun c =>
        done (verifyRow (memFind c r.beats) x.key.prog x.key.pic x.key.row r))))) ∧
  (∀ (n : Fin 5) (s : State), s.live n →
    ((s.chan n).sched.waiting = [] → CompletesIn (.contextFreedRelease n) n s id) ∧
    (∀ p g k rest q w, (s.chan n).sched.waiting = (p, g, k) :: rest → ((s.chan n).prog p).pic? g = some q →
      ((s.chan n).prog p).row? g k = some w →
      let alloc := allocRow { s.chan n with sched := { (s.chan n).sched with waiting := rest } } p q w
      (∀ d, alloc = some d → CompletesIn (.contextFreedRelease n) n s (fun _ => d)) ∧
      (alloc = none → CompletesIn (.contextFreedRelease n) n s id)))

/-- Of R196, R197, R353 and R367: the line packet of a group that is up, if it passes its checks inside the window, has its line
in HBM for its tick; if not, it is counted and its line is not retired. A group that carries no source, that is down, or a unit
without a raster, gets no line; columns that make no packet only count their violations.

Of R208 and R209: ARM takes a layer's next surface with the mark of the write sink and sets PENDING; the flip is applied at the
last tick of a frame once what was written before is in HBM, the replaced surface being kept while it is still read. -/
def Obligations.LinesAndFlips : Prop :=
  (∀ (n : Fin 5) (k : ColumnRun) (s : State), s.live n →
    (runBody (s.chan n) k = none → CompletesIn (.linePacket n k) n s (countViolations k)) ∧
    (∀ b, runBody (s.chan n) k = some b →
      let heard (c : Chan) : Chan := hearPacket (countViolations k c) k.group b
      let now := heard (s.chan n)
      (srcOfGroup now k.group = none ∨ now.sched.raster = none ∨ groupUp now k.group = false →
        CompletesIn (.linePacket n k) n s heard) ∧
      (∀ a r, srcOfGroup now k.group = some a → now.sched.raster = some r → groupUp now k.group = true →
        let check := lineCheck now a (groupLanes now k.group).length b
        let frame := ofBytesBE ((b.bytes.drop 4).take 2)
        let line := ofBytesBE ((b.bytes.drop 6).take 2)
        let tick := (nearestTick now r line).1
        let lead := (nearestTick now r line).2
        let taken (c : Chan) : Chan := (heard c).modSource a (fun x => { x with prev := some { line := line, frame := frame } })
        let failed (bad : Nat) (c : Chan) : Chan :=
          let d := lineFails c a bad line
          if line < d.active ∧ 0 ≤ lead then d.modSource a (fun x => { x with failed := x.failed ++ [tick] }) else d
        (check = 0 → b.headerOk = true → r.inWindow lead = true → CompletesIn (.linePacket n k) n s (fun c =>
          let d := genlockPacket (taken c) a r lead
          let f := d.get (Reg.CAP_SRC_CFG_FORMAT a)
          (writeLine d a (tickFrame tick) line
            (expandLine f (srcWidth d a) true ((b.bytes.drop 16).take (lineBytes f (srcWidth d a))))).modSource a
              (fun x => { x with arrived := x.arrived ++ [tick] }))) ∧
        (check = 0 → b.headerOk = true → r.inWindow lead = false → CompletesIn (.linePacket n k) n s (fun c =>
          failed 9 (genlockPacket (taken c) a r lead))) ∧
        (2 ≤ check → b.headerOk = true → CompletesIn (.linePacket n k) n s (fun c => failed check (taken c))) ∧
        (check = 1 → CompletesIn (.linePacket n k) n s (fun c =>
          let line := expectLine now a
          let d := lineFails (heard c) a 1 line
          if line < d.active ∧ 0 ≤ (nearestTick now r line).2 then
            d.modSource a (fun x => { x with failed := x.failed ++ [(nearestTick now r line).1] })
          else d))))) ∧
  (∀ (n : Fin 5) (x l : Nat) (s : State), s.live n → x < 4 → l < 8 →
    (∀ p : Path, s.opens p (.unit n (0x48120 + 0x1000 * (8 * x + l))) → CompletesIn (.flipArm p n x l) n s (fun c =>
      (c.modLayer x l (fun y => { y with
        pending := some { addr := c.get (Reg.CMP_LNEXT_ADDR_ADDR (8 * x + l)) * 64
                          x := c.geti (Reg.CMP_LNEXT_POS_X (8 * x + l)), y := c.geti (Reg.CMP_LNEXT_POS_Y (8 * x + l))
                          alpha := c.get (Reg.CMP_LNEXT_ALPHA_GALPHA (8 * x + l)) }
        mark := c.sink.received, armed := c.ticks })).set (Reg.CMP_LSTAT_PENDING (8 * x + l)) 1)) ∧
    (∀ (r : Raster) (z : Surface), (s.chan n).sched.raster = some r → flipDrained (s.chan n) ((s.chan n).layer x l) = true →
      ((s.chan n).layer x l).pending = some z → tickLine r.tick + 1 = r.total →
      CompletesIn (.flipApply n x l) n s (fun c =>
        let f := (tickFrame r.tick + 1) % 65536
        let wait := composing c x ((f + 65535) % 65536)
        let d := c.modLayer x l (fun y => { y with
          past := if wait then (f, y.cur) :: y.past else y.past, cur := some z, pending := none, applied := true })
        let d := ((d.set (Reg.CMP_LSTAT_PENDING (8 * x + l)) 0).set (Reg.CMP_LSTAT_LOADED (8 * x + l)) 1).set
          (Reg.CMP_LSTAT_FRAME (8 * x + l)) f
        (showBusy d x l).set (Reg.CMP_LCUR_ADDR_ADDR (8 * x + l)) z.addr)) ∧
    (flipDrained (s.chan n) ((s.chan n).layer x l) = false ∨ (s.chan n).sched.raster = none ∨
      (∃ r, (s.chan n).sched.raster = some r ∧ tickLine r.tick + 1 ≠ r.total) → CompletesIn (.flipApply n x l) n s id))

/-- Of R238 and R254: CYCLE and FREEZE of a programme that is on act on its next picture, FREEZE showing STARTING; of one that is
off, or in M4, they have no effect.

Of R292 and R300: a packet with a PCR alone goes out when no video packet has for 20 ms, and not before; an underrun of a path
inside a packet is counted, posted and ends the packet in the abort form, the path going on with the next; a path that is not
inside a packet has none. -/
def Obligations.Streams : Prop :=
  (∀ (n : Fin 5) (k : Nat) (p : Path) (s : State), s.live n → k < 8 → s.opens p (.unit n (0x81120 + 0x1000 * k)) →
    (((s.chan n).prog k).on = true → ((s.chan n).prog k).cfg.mode ≠ 4 →
      CompletesIn (.cycle p n k) n s (fun c => c.modProg k (fun g => { g with cycleReq := true })) ∧
      CompletesIn (.freeze p n k) n s (fun c =>
        (c.modProg k (fun g => { g with freezeReq := true })).set (Reg.ENC_PSTAT_STARTING k) 1)) ∧
    (((s.chan n).prog k).on = false ∨ ((s.chan n).prog k).cfg.mode = 4 →
      CompletesIn (.cycle p n k) n s id ∧ CompletesIn (.freeze p n k) n s id)) ∧
  (∀ (n : Fin 5) (k : Nat) (s : State), s.live n →
    (((s.chan n).prog k).streams = [] → CompletesIn (.pcrOnlyPacket n k) n s id) ∧
    (∀ a rest, ((s.chan n).prog k).streams = a :: rest →
      let due : Prop := k < 8 ∧ ((s.chan n).prog k).on = true ∧ ((s.chan n).prog k).cfg.form = 1 ∧ a.sent = true ∧
        a.lastVideo + secUnits / 50 ≤ (s.chan n).now
      (due → CompletesIn (.pcrOnlyPacket n k) n s (fun c =>
        let g := c.prog k
        let t := ({ cap := 1, video := g.cfg.video, cc := a.cc, disc := a.discPids } : Ts).put g.cfg.video false []
        let d := c.modProg k (fun g => g.modStream a.id (fun y => { y with discPids := t.disc, lastVideo := c.now }))
        (releasePacket d k a.id g.cfg 2 0 a.lastPic d.tick t.pkts.flatten).1)) ∧
      (¬ due → CompletesIn (.pcrOnlyPacket n k) n s id))) ∧
  (∀ (n : Fin 5) (x : Nat) (s : State), s.live n →
    (((s.chan n).paths.getD x {}).queue = [] → CompletesIn (.pathUnderrun n x) n s id) ∧
    (∀ k rest, ((s.chan n).paths.getD x {}).queue = k :: rest →
      let inside : Prop := k.first ≤ (s.chan n).now ∧ (s.chan n).now < k.last ∧ pathUp (s.chan n) x = true
      (inside → CompletesIn (.pathUnderrun n x) n s (fun c =>
        let d := ((c.bump (Reg.PKT_PATHSTAT_UNDERRUN x)).post 0x0502 .pkt x 0).emit
          (.out (.abort c.num x k.pkt.seq (k.columnsBy c.now ++ [[symAbort, symAbort]])))
        { d.set (Reg.PKT_PATHSTAT_ACTIVE x) (b2n !rest.isEmpty) with
          paths := d.paths.modify x (fun y => { y with queue := rest }) })) ∧
      (¬ inside → CompletesIn (.pathUnderrun n x) n s id)))

/-- Of R306, R307, R319, R323 and R325 to R328: packets reach an active decoder from the two groups of its path; missing packets
are given up on when their hold time ends; an access unit is decoded, passed over by a decoder that seeks, or stops the decoder,
unless the queue is full; RESUME leaves the stopped state with nothing decoded kept; a starved decoder stops. -/
def Obligations.DecoderEvents : Prop :=
  ∀ (n : Fin 5) (s : State), s.live n →
    (∀ k : ColumnRun,
      let bytes := (runBody (s.chan n) k).bind laneBytes
      let reached : Prop := let c := countViolations k (s.chan n)
        decActive c = true ∧ c.flag Reg.DEC_CFG_INPATH = true ∧ k.group < 4 ∧ groupUp c k.group = true ∧
          (c.get Reg.DEC_LANES_GROUPA = k.group ∨ c.get Reg.DEC_LANES_GROUPB = k.group)
      (∀ bs, bytes = some bs → reached → CompletesIn (.ubnenSReceive n k.group k.rds k.columns) n s (fun c =>
        rxTake (countViolations k c) bs (ofBytesBE ((bs.drop 4).take 4)) true)) ∧
      (bytes = none ∨ ¬ reached → CompletesIn (.ubnenSReceive n k.group k.rds k.columns) n s (countViolations k))) ∧
    (decActive (s.chan n) = true → ∀ i j t rest, (s.chan n).rx.missing = (i, j, t) :: rest →
      (t + (s.chan n).get Reg.DEC_HOLD * 65536000 ≤ (s.chan n).now → CompletesIn (.holdExpiry n) n s (fun c =>
        rxExpire rest.length (rxSkip c (c.flag Reg.DEC_CFG_INPATH)) (c.flag Reg.DEC_CFG_INPATH))) ∧
      ((s.chan n).now < t + (s.chan n).get Reg.DEC_HOLD * 65536000 → CompletesIn (.holdExpiry n) n s id)) ∧
    (decActive (s.chan n) = false ∨ (s.chan n).rx.missing = [] → CompletesIn (.holdExpiry n) n s id) ∧
    (∀ (r : DecodeResult),
      let st := (s.chan n).get Reg.DEC_STAT_STATE
      let full : Prop := (s.chan n).mode = 5 ∧ (4 ≤ (s.chan n).dec.queue.length ∨ (s.chan n).dec.outs.isEmpty = false)
      (decActive (s.chan n) = false ∨ (s.chan n).dec.units = [] ∨ st = 2 ∨ full →
        CompletesIn (.accessUnitDecode n r) n s id) ∧
      (∀ u rest, (s.chan n).dec.units = u :: rest → decActive (s.chan n) = true → st ≠ 2 → ¬ full →
        let from_ (c : Chan) : Chan := { c with dec := { c.dec with units := rest } }
        let z := scanUnit (from_ (s.chan n)) r.vvc u
        let begun (c : Chan) : Chan :=
          let d := from_ c
          memFind { d with dec := { d.dec with seqs := z.seqs, pics := z.pics } } r.beats
        let reads := decPlaces (begun (s.chan n)) u.start u.bytes.length ++ r.reads
        let read (c : Chan) : Chan := reads.foldl (fun c e => memRead c e.1 e.2 5) (begun c)
        let fails : Prop := reads.any (fun e => memReadFails (begun (s.chan n)) e.1 e.2) = true
        let passed : Prop := st = 3 ∧ z.resume = false ∨ z.rasl = true ∧ (s.chan n).dec.skipLeading = true
        let gap := u.gap.map (fun o => (⟨0x09, 0, r.reached, o⟩ : StopCause))
        let parse := r.stop.filter (fun e => e.cause != 0x0A)
        (passed → CompletesIn (.accessUnitDecode n r) n s (fun c => decRest (from_ c))) ∧
        (∀ e, ¬ passed → ¬ fails → firstStop [gap, z.stop, parse] = some e →
          CompletesIn (.accessUnitDecode n r) n s (fun c => decStop (read c) e u)) ∧
        (∀ e, ¬ passed → fails → firstStop [gap, z.stop] = some e →
          CompletesIn (.accessUnitDecode n r) n s (fun c => decStop (read c) e u)) ∧
        (¬ passed → fails → firstStop [gap, z.stop] = none →
          CompletesIn (.accessUnitDecode n r) n s (fun c => decStop (read c) ⟨0x0B, 7, r.reached, 0⟩ u)) ∧
        (¬ passed → ¬ fails → firstStop [gap, z.stop, parse] = none →
          CompletesIn (.accessUnitDecode n r) n s (fun c =>
            decRest (if z.slice then decPicture r z u (st == 3) (read c) else read c))))) ∧
    (∀ p : Path, s.opens p (.unit n 0xE0104) →
      ((s.chan n).get Reg.DEC_STAT_STATE = 2 → CompletesIn (.decoderResume p n) n s (fun c =>
        let d := (c.set Reg.DEC_STAT_STATE 3).set Reg.DEC_STAT_QUEUE 0
        { d with dec := { d.dec with queue := [], outs := [], dpb := [], leadMet := false, recoverAt := none } })) ∧
      ((s.chan n).get Reg.DEC_STAT_STATE ≠ 2 → CompletesIn (.decoderResume p n) n s id)) ∧
    (∀ u, decActive (s.chan n) = true → (s.chan n).dec.open_ = some u → (s.chan n).get Reg.DEC_STAT_STATE ≠ 2 →
      (s.chan n).dec.units = [] → CompletesIn (.decoderStarved n) n s (fun c =>
        (decStop c ⟨0x0C, 7, ofBytesLE (c.freeBytes 2), 0⟩ u).draw)) ∧
    (decActive (s.chan n) = false ∨ (s.chan n).dec.open_ = none ∨ (s.chan n).get Reg.DEC_STAT_STATE = 2 ∨
      (s.chan n).dec.units ≠ [] → CompletesIn (.decoderStarved n) n s id)

/-- Of R427 and R474: a scorecard whose transfer ends well becomes the latest, the one before it the previous, and goes to the
host's ring where SUP_SC_HOST says so; one whose CRC fails, or that does not arrive whole, is discarded. -/
def Obligations.Scorecards : Prop :=
  ∀ (n : Fin 5) (s : State), s.ump.on = true →
    (∀ k, (s.card n).transfer = some k → bitAt (s.uget Reg.SUP_SC_HOST_HOST) n = false →
      Completes (.scorecardReceive n true) s (State.modCards n (fun y =>
        { y with transfer := none, latest := some k, previous := y.latest }))) ∧
    (∀ k, (s.card n).transfer = some k → bitAt (s.uget Reg.SUP_SC_HOST_HOST) n = true →
      Completes (.scorecardReceive n true) s (fun s => (s.modCards n (fun y =>
        { y with transfer := none, latest := some k, previous := y.latest })).ringRecord (32 * n.val + 30) (cardBytes k))) ∧
    ((s.card n).transfer.isSome = true →
      Completes (.scorecardReceive n false) s (State.modCards n (fun y => { y with transfer := none }))) ∧
    (∀ ok, (s.card n).transfer = none → Completes (.scorecardReceive n ok) s id) ∧
    Completes (.scorecardTimeout n) s (State.modCards n (fun y => { y with transfer := none }))


/-! ### The timing unit and the PTP port (13_timing_unit.md) -/

/-- Of R340, R342, R345 and R347: a reference qualifies after a window within SOFT, drifts, crosses HARD and goes absent; LOSC
fails outside its presence range of 50 ppm and returns within it. (An offset is a window mean in ppb.)

Of R342 and R343: a pulse of under 100 ns, or one that is off by over 1 ms while the input is present, is rejected; another is
kept among the last four. -/
def Obligations.TimingReferences : Prop :=
  (∀ (n : Fin 5) (r : Nat) (f : Int) (s : State), s.live n → r < 5 →
    (timMayQualify (s.chan n) r f = true → CompletesIn (.referenceQualified n r f) n s (fun c =>
      timSeek (((timFoff c r f).modTim (fun t => { t with drifted := t.drifted.filter (· != r) })).set
        (Reg.TIM_REFSTAT_QUALIFIED r) 1))) ∧
    (timMayQualify (s.chan n) r f = false → CompletesIn (.referenceQualified n r f) n s id) ∧
    (CompletesIn (.referenceAbsent n r) n s (fun c =>
      let d := timDisqualify (c.set (Reg.TIM_REFSTAT_PRESENT r) 0) r
      let d := if r = 4 then d.modTim (fun t => { t with losc := false }) else d
      if c.get Reg.TIM_STAT_SEL = r then timLeave d else timSeek d)) ∧
    ((s.chan n).flag (Reg.TIM_REFSTAT_PRESENT r) = true →
      (f.natAbs ≤ (timSoft (s.chan n) r).natAbs → CompletesIn (.timDrift n r f) n s (fun c =>
        (timFoff c r f).modTim (fun t => { t with drifted := t.drifted.filter (· != r) }))) ∧
      ((timSoft (s.chan n) r).natAbs < f.natAbs → (s.chan n).tim.drifted.contains r = true →
        CompletesIn (.timDrift n r f) n s (fun c => timFoff c r f)) ∧
      ((timSoft (s.chan n) r).natAbs < f.natAbs → (s.chan n).tim.drifted.contains r = false →
        let posted (c : Chan) : Chan := ((timFoff c r f).modTim (fun t => { t with drifted := t.drifted ++ [r] })).post
          0x0903 .tim r (patternOf 32 f)
        CompletesIn (.timDrift n r f) n s (fun c =>
          if (posted c).get Reg.TIM_STAT_SEL = r then
            (posted c).set Reg.TIM_STAT_STANDBY ((timBest (posted c) (fun x => x != r)).getD 7)
          else posted c))) ∧
    ((s.chan n).flag (Reg.TIM_REFSTAT_PRESENT r) = false → CompletesIn (.timDrift n r f) n s id) ∧
    ((s.chan n).get Reg.TIM_STAT_SEL = r → (timHard (s.chan n) r).natAbs < f.natAbs →
      CompletesIn (.timSwitch n f) n s (fun c =>
        timLeave (timDisqualify ((timFoff c r f).post 0x0903 .tim r (patternOf 32 f)) r))) ∧
    ((s.chan n).get Reg.TIM_STAT_SEL = r → f.natAbs ≤ (timHard (s.chan n) r).natAbs → CompletesIn (.timSwitch n f) n s id) ∧
    ((s.chan n).get Reg.TIM_STAT_SEL ≠ r → (timHard (s.chan n) r).natAbs < f.natAbs →
      CompletesIn (.hardCrossing n r f) n s (fun c => timSeek (timDisqualify (timFoff c r f) r))) ∧
    ((s.chan n).get Reg.TIM_STAT_SEL = r ∨ f.natAbs ≤ (timHard (s.chan n) r).natAbs →
      CompletesIn (.hardCrossing n r f) n s id)) ∧
  (∀ (n : Fin 5) (hz : Nat) (s : State), s.live n →
    (loscIn (s.chan n) hz = true →
      CompletesIn (.loscFail n hz) n s id ∧
      ((s.chan n).flag Reg.TIM_OSC = true → CompletesIn (.loscReturn ⟨n, hz⟩) n s (fun c =>
        ((c.modTim (fun t => { t with losc := true })).set (Reg.TIM_REFSTAT_PRESENT 4) 1).set Reg.TIM_STAT_OSCSRC 1)) ∧
      ((s.chan n).flag Reg.TIM_OSC = false → CompletesIn (.loscReturn ⟨n, hz⟩) n s (fun c =>
        (c.modTim (fun t => { t with losc := true })).set (Reg.TIM_REFSTAT_PRESENT 4) 1))) ∧
    (loscIn (s.chan n) hz = false →
      CompletesIn (.loscReturn ⟨n, hz⟩) n s id ∧
      ((s.chan n).get Reg.TIM_STAT_OSCSRC = 1 → CompletesIn (.loscFail n hz) n s (fun c =>
        timAbsent (((c.set Reg.TIM_STAT_OSCSRC 0).set Reg.TIM_STAT_OSCFAIL 1).post 0x0903 .tim 4
          (patternOf 32 (loscOffset c hz))) 4)) ∧
      ((s.chan n).get Reg.TIM_STAT_OSCSRC ≠ 1 → (s.chan n).flag (Reg.TIM_REFSTAT_PRESENT 4) = true →
        CompletesIn (.loscFail n hz) n s (fun c => timAbsent c 4)) ∧
      ((s.chan n).get Reg.TIM_STAT_OSCSRC ≠ 1 → (s.chan n).flag (Reg.TIM_REFSTAT_PRESENT 4) = false →
        CompletesIn (.loscFail n hz) n s id))) ∧
  (∀ (n : Fin 5) (width : Nat) (ten : Option Int) (s : State), s.live n →
    let ten10 (c : Chan) : Chan := c.modTim (fun t => { t with tenMeg := ten.any (fun p => decide (p.natAbs ≤ 20)) })
    (width < 100 → CompletesIn (.ppsEdge n width ten) n s (fun c =>
      ((ten10 c).bump (Reg.TIM_REFSTAT_REJECT 1)).input .tim)) ∧
    (∀ last rest, (s.chan n).tim.pps = last :: rest → (s.chan n).flag (Reg.TIM_REFSTAT_PRESENT 1) = true →
      secUnits / 1000 < (((s.chan n).now : Int) - last - secUnits).natAbs →
      CompletesIn (.ppsEdge n width ten) n s (fun c => ((ten10 c).bump (Reg.TIM_REFSTAT_REJECT 1)).input .tim)) ∧
    (100 ≤ width → (s.chan n).tim.pps.length < 3 → (s.chan n).flag (Reg.TIM_REFSTAT_PRESENT 1) = false →
      CompletesIn (.ppsEdge n width ten) n s (fun c => (ten10 c).modTim (fun t => { t with pps := c.now :: t.pps }))) ∧
    (∀ a b d, 100 ≤ width → (s.chan n).tim.pps = [a, b, d] → (s.chan n).now = a + secUnits → a = b + secUnits →
      b = d + secUnits → CompletesIn (.ppsEdge n width ten) n s (fun c =>
        ((ten10 c).modTim (fun t => { t with pps := [c.now, a, b, d] })).set (Reg.TIM_REFSTAT_PRESENT 1) 1)))

/-- Of R346 and R348: two references of equal RANK that disagree by more than AGREEF open a contest with its witness; it is
decided by the witness, or left with ALARM and, for a selected reference, HOLDOVER, and ends when the pair agrees for a window; a
selectable reference of lower RANK is taken back with REVERT after QUAL seconds. That the unit goes to a winner from the loser or
from no selection alone is the model's reading (log entry 98).

Of R351: ACQUIRE and LOCK, HOLDOVER and FREE-RUN follow each other with a TIM_STATE event when the error over a window, or the
time, is past its limit; otherwise the same happenings change nothing.

Of R342 and R352: the last word of a host time sample completes it, valid or rejected; a phase adjustment steps device time in
M7 and is spread in any other mode, and one outside its range is discarded with RANGE. -/
def Obligations.TimingStates : Prop :=
  (∀ (n : Fin 5) (a b : Nat) (fa fb : Int) (s : State), s.live n →
    let open_ : Prop := a < b ∧ b < 5 ∧ (s.chan n).flag (Reg.TIM_REFSTAT_QUALIFIED a) = true ∧
      (s.chan n).flag (Reg.TIM_REFSTAT_QUALIFIED b) = true ∧
      (s.chan n).get (Reg.TIM_REFCFG_RANK a) = (s.chan n).get (Reg.TIM_REFCFG_RANK b) ∧
      (s.chan n).get Reg.TIM_AGREE_AGREEF < (fa - fb).natAbs ∧ (s.chan n).tim.contests.all (fun k => !k.of a b) = true
    let back : Prop := a < 5 ∧ (s.chan n).get Reg.TIM_STAT_STATE = 2 ∧ (s.chan n).flag Reg.TIM_LIMITS_REVERT = true ∧
      timSelectable (s.chan n) a = true ∧ (s.chan n).get Reg.TIM_STAT_SEL < 5 ∧
      (s.chan n).get (Reg.TIM_REFCFG_RANK a) < (s.chan n).get (Reg.TIM_REFCFG_RANK ((s.chan n).get Reg.TIM_STAT_SEL)) ∧
      ∃ t, (s.chan n).tim.since.getD a none = some t ∧
        t + (s.chan n).get Reg.TIM_LIMITS_QUAL * secPeriods ≤ (s.chan n).tim.age
    (open_ → CompletesIn (.timContest n ⟨a, fa⟩ ⟨b, fb⟩) n s (fun c =>
      (timContests c (c.tim.contests ++ [{ a := a, b := b, witness := timWitness c a b }])).post 0x0904 .tim (a * 256 + b)
        (timWitness c a b))) ∧
    (¬ open_ → CompletesIn (.timContest n ⟨a, fa⟩ ⟨b, fb⟩) n s id) ∧
    (∀ fw : Int,
      ((s.chan n).tim.contests.find? (fun k => k.of a b) = none → CompletesIn (.contestWindowEnd n ⟨a, fa⟩ ⟨b, fb⟩ fw) n s id) ∧
      (∀ k, (s.chan n).tim.contests.find? (fun k => k.of a b) = some k →
        let near (f : Int) : Bool := decide ((f - fw).natAbs ≤ (s.chan n).get Reg.TIM_AGREE_AGREEF)
        let nearA := near (if a = k.a then fa else fb)
        let nearB := near (if a = k.a then fb else fa)
        let left (c : Chan) : Chan :=
          (timContests c (c.tim.contests.map (fun j => if j = k then { k with alarm := true } else j))).post
            0x0904 .tim (k.a * 256 + k.b) 255
        (k.alarm = true → CompletesIn (.contestWindowEnd n ⟨a, fa⟩ ⟨b, fb⟩ fw) n s id) ∧
        (k.alarm = false → k.witness = 255 ∨ nearA = nearB → CompletesIn (.contestWindowEnd n ⟨a, fa⟩ ⟨b, fb⟩ fw) n s (fun c =>
          if (left c).get Reg.TIM_STAT_SEL = k.a ∨ (left c).get Reg.TIM_STAT_SEL = k.b then timHoldover (left c) else left c)) ∧
        (∀ win lose, k.alarm = false → k.witness ≠ 255 → nearA ≠ nearB →
          (win, lose) = (if nearA then (k.a, k.b) else (k.b, k.a)) →
          CompletesIn (.contestWindowEnd n ⟨a, fa⟩ ⟨b, fb⟩ fw) n s (fun c =>
            let d := timContests c (c.tim.contests.filter (fun j => !j.has lose && !j.of win lose))
            let d := ((d.set (Reg.TIM_REFSTAT_LOSER lose) 1).set (Reg.TIM_REFSTAT_LOSER win) 0).set
              (Reg.TIM_REFSTAT_QUALIFIED lose) 0
            let d := d.modTim (fun t => { t with losers := t.losers ++ [(lose, win)] })
            if d.get Reg.TIM_STAT_SEL = lose ∨ d.get Reg.TIM_STAT_SEL = 7 then timSelect d win else d)))) ∧
    ((fa - fb).natAbs ≤ (s.chan n).get Reg.TIM_AGREE_AGREEF →
      let agreed (c : Chan) : Chan := c.modTim (fun t => { t with
        losers := t.losers.filter (fun p => p != (a, b) && p != (b, a)) })
      ((s.chan n).tim.contests.any (fun k => k.of a b) = true → CompletesIn (.pairAgree n ⟨a, fa⟩ ⟨b, fb⟩) n s (fun c =>
        timSeek (timContests (agreed c) (c.tim.contests.filter (fun k => !k.of a b))))) ∧
      ((s.chan n).tim.contests.any (fun k => k.of a b) = false → CompletesIn (.pairAgree n ⟨a, fa⟩ ⟨b, fb⟩) n s agreed)) ∧
    ((s.chan n).get Reg.TIM_AGREE_AGREEF < (fa - fb).natAbs → CompletesIn (.pairAgree n ⟨a, fa⟩ ⟨b, fb⟩) n s id) ∧
    (back → CompletesIn (.revertSwitch n a) n s (fun c => timSelect c a)) ∧
    (¬ back → CompletesIn (.revertSwitch n a) n s id)) ∧
  (∀ (n : Fin 5) (error : Nat) (s : State), s.live n →
    let enter (st : Nat) (c : Chan) : Chan :=
      let d := (c.set Reg.TIM_STAT_STATE st).modTim (fun t => { t with entered := t.age })
      d.post 0x0901 .tim st (timSel255 d)
    let sel := (s.chan n).get Reg.TIM_STAT_SEL
    let lock := (s.chan n).get Reg.TIM_AGREE_LOCKNS
    let limit := (if sel = 2 ∨ sel = 4 then 10 else lock) * 65536
    let held := (s.chan n).tim.entered + (s.chan n).get Reg.TIM_HOLD_HOLDMAX * secPeriods
    let st := (s.chan n).get Reg.TIM_STAT_STATE
    (st = 1 → error ≤ limit → CompletesIn (.lockAchieved ⟨n, error⟩) n s (enter 2)) ∧
    (st ≠ 1 ∨ limit < error → CompletesIn (.lockAchieved ⟨n, error⟩) n s id) ∧
    (st = 2 → 4 * lock * 65536 < error → CompletesIn (.lockLost ⟨n, error⟩) n s (enter 1)) ∧
    (st ≠ 2 ∨ error ≤ 4 * lock * 65536 → CompletesIn (.lockLost ⟨n, error⟩) n s id) ∧
    (st = 3 → held ≤ (s.chan n).tim.age → CompletesIn (.holdoverExpiry n) n s (enter 4)) ∧
    (st ≠ 3 ∨ (s.chan n).tim.age < held → CompletesIn (.holdoverExpiry n) n s id)) ∧
  (∀ (n : Fin 5) (p : Path) (v : Word) (s : State), s.live n →
    (s.opens p (.unit n 0x120158) →
      let x := v.toNat / 2 ^ 16 + 2 ^ 16 * (s.chan n).tim.host0 + 2 ^ 48 * ((s.chan n).tim.host1 + 2 ^ 32 * (v.toNat % 2 ^ 16))
      (time96Ok x = true → CompletesIn (.hostTimeSample p n v) n s (fun c =>
        (c.modTim (fun t => { t with hostPrev := some (timeOf96 x, t.now) })).set (Reg.TIM_REFSTAT_PRESENT 3) 1)) ∧
      (time96Ok x = false → CompletesIn (.hostTimeSample p n v) n s (fun c =>
        (c.bump (Reg.TIM_REFSTAT_REJECT 3)).input .tim))) ∧
    (s.opens p (.unit n 0x120144) →
      let low := match (s.chan n).bank.held.find? (fun y => y.1 == 0x120140) with
        | some y => y.2.toNat
        | none => (storeGet unitReset (s.chan n).bank.regs 0x120140).toNat
      let x := signedOf 64 (low + 2 ^ 32 * v.toNat)
      let free (c : Chan) : Chan := { c with bank := { c.bank with held := c.bank.held.filter (fun y => y.1 != 0x120140) } }
      (x.natAbs ≤ 65536000000000 → (s.chan n).mode = 7 → CompletesIn (.phaseAdjust p n v) n s (fun c =>
        (free c).modTim (fun t => { t with fine := (t.fine + x * 2 ^ 32).toNat }))) ∧
      (x.natAbs ≤ 65536000000000 → (s.chan n).mode ≠ 7 → CompletesIn (.phaseAdjust p n v) n s (fun c =>
        (free c).modTim (fun t => { t with padj := t.padj + x * 2 ^ 32 }))) ∧
      (65536000000000 < x.natAbs → CompletesIn (.phaseAdjust p n v) n s (fun c =>
        discardUnit .tim codeRANGE (bar0Unit n 0x120144) (pathCode p) v.toNat (free c)))))

/-- Of R343 and R355 to R357: what the port does with the frames that it receives while its link is up; one whose checksums fail
is counted in DROPS, and so is a message that fails a check of R356, which is rejected; without a link no frame arrives.

Of R342, R355, R357 and R358: what the port sends, as MASTER or as slave, and the announce receipt timeout. The layout of the
frames that it sends is the standards', read as log entry 99 says. -/
def Obligations.PtpMessages : Prop :=
  (∀ (n : Fin 5) (h i b : List Byte) (s : State), s.live n →
    let f := h ++ (i ++ b)
    (ptpUp (s.chan n) = false →
      CompletesIn (.ptpSync n f) n s id ∧ CompletesIn (.ptpFollowUp n f) n s id ∧ CompletesIn (.ptpDelayResp n f) n s id ∧
      CompletesIn (.ptpDelayReqReceive n f) n s id ∧ CompletesIn (.ptpAnnounce n h (i ++ b)) n s id ∧
      CompletesIn (.arpRequest n h (i ++ b)) n s id ∧ CompletesIn (.icmpEcho n h i b) n s id ∧
      CompletesIn (.discardedFrame ⟨n, f⟩) n s id) ∧
    (ptpUp (s.chan n) = true → readFrame (s.chan n) f = .failed →
      let reject (c : Chan) : Chan := timReject (c.bump Reg.TIM_PTP_STAT_DROPS) 0
      CompletesIn (.ptpSync n f) n s reject ∧ CompletesIn (.ptpFollowUp n f) n s reject ∧
      CompletesIn (.ptpDelayResp n f) n s reject ∧ CompletesIn (.ptpDelayReqReceive n f) n s reject ∧
      CompletesIn (.ptpAnnounce n h (i ++ b)) n s reject ∧
      CompletesIn (.discardedFrame ⟨n, f⟩) n s (fun c => c.bump Reg.TIM_PTP_STAT_DROPS)) ∧
    (∀ m, ptpUp (s.chan n) = true → readFrame (s.chan n) f = .ptp m → ptpOk (s.chan n) m = false →
      let reject (c : Chan) : Chan := timReject (c.bump Reg.TIM_PTP_STAT_DROPS) 0
      CompletesIn (.ptpSync n f) n s reject ∧ CompletesIn (.ptpFollowUp n f) n s reject ∧
      CompletesIn (.ptpDelayResp n f) n s reject ∧ CompletesIn (.ptpDelayReqReceive n f) n s reject ∧
      CompletesIn (.ptpAnnounce n h (i ++ b)) n s reject ∧ CompletesIn (.discardedFrame ⟨n, f⟩) n s reject) ∧
    (∀ m, ptpUp (s.chan n) = true → readFrame (s.chan n) f = .ptp m → ptpOk (s.chan n) m = true →
      (m.typ = 0 → ptpFollows (s.chan n) m = true →
        (m.twoStep = true → CompletesIn (.ptpSync n f) n s (fun c => ptpPresence (c.modPtp (fun q => { q with
          lastSync := some c.tim.age, sync := some (m.seq, ptpRx c, m.correction + ptpAsym c) })))) ∧
        (m.twoStep = false → CompletesIn (.ptpSync n f) n s (fun c => ptpPresence (ptpOffset (c.modPtp (fun q => { q with
          lastSync := some c.tim.age, t12 := some (m.time + (m.correction + ptpAsym c), ptpRx c), sync := none })))))) ∧
      (m.typ = 0 → ptpFollows (s.chan n) m = false → CompletesIn (.ptpSync n f) n s id) ∧
      (∀ t2 corr, m.typ = 8 → ptpFollows (s.chan n) m = true → (s.chan n).ptp.sync = some (m.seq, t2, corr) →
        CompletesIn (.ptpFollowUp n f) n s (fun c => ptpOffset (c.modPtp (fun q => { q with
          t12 := some (m.time + corr + m.correction, t2), sync := none })))) ∧
      (∀ t3 t1 t2, m.typ = 9 → ptpFollows (s.chan n) m = true → (s.chan n).ptp.dreq = some (m.seq, t3) →
        (s.chan n).ptp.t12 = some (t1, t2) →
        CompletesIn (.ptpDelayResp n f) n s (fun c =>
          let mpd := ((t2 - t3) + (m.time - m.correction - t1)) / 2
          ptpPresence ((((c.seti Reg.TIM_PTP_MPD_MPD (mpd / 4096)).modPtp (fun q => { q with
            dreq := none, lastResp := some c.tim.age })).seti Reg.TIM_PTP_OFM_OFM (t2 - t1 - mpd)).set
              Reg.TIM_PTP_STAT_PORT 9))) ∧
      (m.typ = 1 → (s.chan n).get Reg.TIM_PTP_STAT_PORT = 6 → CompletesIn (.ptpDelayReqReceive n f) n s (fun c =>
        c.emit (.out (.frame c.num (delayRespFrame c m (ptpRx c)))))) ∧
      (m.typ = 1 → (s.chan n).get Reg.TIM_PTP_STAT_PORT ≠ 6 → CompletesIn (.ptpDelayReqReceive n f) n s id) ∧
      (m.typ = 11 → m.source / 2 ^ 16 = clockId (s.chan n) ∨ 255 ≤ m.master.steps → CompletesIn (.ptpAnnounce n h (i ++ b)) n s id) ∧
      (m.typ = 11 → m.source / 2 ^ 16 ≠ clockId (s.chan n) → m.master.steps < 255 →
        ((s.chan n).ptp.foreign = [] → CompletesIn (.ptpAnnounce n h (i ++ b)) n s (fun c => c.modPtp (fun q => { q with
          foreign := [(m.master, 1, c.tim.age)], stations := [(m.source, m.mac, m.ip)] }))) ∧
        (∀ d k t, (s.chan n).ptp.foreign = [(d, k, t)] → d.port = m.source → 1 ≤ k →
          (s.chan n).tim.age ≤ t + 4 * annPeriod (s.chan n) → (s.chan n).ptp.parent = none →
          (s.chan n).flag Reg.TIM_PTP_CFG_SLAVEONLY = true ∨ ptpBetter m.master (ptpOwn (s.chan n)) = true →
          CompletesIn (.ptpAnnounce n h (i ++ b)) n s (fun c => (c.modPtp (fun q => { q with
            foreign := [(m.master, k + 1, c.tim.age)], stations := [(m.source, m.mac, m.ip)], parent := some m.master
            sync := none, t12 := none, dreq := none })).set Reg.TIM_PTP_STAT_PORT 8)))) ∧
    (∀ mac ip target, ptpUp (s.chan n) = true → readFrame (s.chan n) f = .arp mac ip target →
      (target = portIp (s.chan n) → CompletesIn (.arpRequest n h (i ++ b)) n s (fun c =>
        c.emit (.out (.frame c.num (arpReplyFrame c mac ip))))) ∧
      (target ≠ portIp (s.chan n) →
        CompletesIn (.arpRequest n h (i ++ b)) n s (fun c => c.bump Reg.TIM_PTP_STAT_DROPS) ∧
        CompletesIn (.discardedFrame ⟨n, f⟩) n s (fun c => c.bump Reg.TIM_PTP_STAT_DROPS))) ∧
    (∀ mac ip body, ptpUp (s.chan n) = true → readFrame (s.chan n) f = .echo mac ip body →
      CompletesIn (.icmpEcho n h i b) n s (fun c => c.emit (.out (.frame c.num (echoReplyFrame c mac ip body))))) ∧
    (ptpUp (s.chan n) = true → readFrame (s.chan n) f = .query →
      CompletesIn (.discardedFrame ⟨n, f⟩) n s (fun c => c.emit (.out (.frame c.num (reportFrame c))))) ∧
    (ptpUp (s.chan n) = true → readFrame (s.chan n) f = .other →
      CompletesIn (.discardedFrame ⟨n, f⟩) n s (fun c => c.bump Reg.TIM_PTP_STAT_DROPS))) ∧
  (∀ (n : Fin 5) (s : State), s.live n →
    let port := (s.chan n).get Reg.TIM_PTP_STAT_PORT
    (ptpUp (s.chan n) = true → port = 6 → (s.chan n).flag Reg.TIM_PTP_CFG_ONESTEP = true →
      CompletesIn (.ptpSyncTransmit n) n s (fun c =>
        let d := c.modPtp (fun q => { q with seqSync := (q.seqSync + 1) % 65536 })
        d.emit (.out (.frame c.num (syncFrame d c.ptp.seqSync false (ptpTx c)))))) ∧
    (ptpUp (s.chan n) = true → port = 6 → (s.chan n).flag Reg.TIM_PTP_CFG_ONESTEP = false →
      CompletesIn (.ptpSyncTransmit n) n s (fun c =>
        let d := c.modPtp (fun q => { q with seqSync := (q.seqSync + 1) % 65536 })
        (d.emit (.out (.frame c.num (syncFrame d c.ptp.seqSync true (ptpTx c))))).emit
            (.out (.frame c.num (followUpFrame d c.ptp.seqSync (ptpTx c)))))) ∧
    (ptpUp (s.chan n) = true → port = 8 ∨ port = 9 → CompletesIn (.ptpDelayReqTransmit n) n s (fun c =>
      let d := c.modPtp (fun q => { q with seqDreq := (q.seqDreq + 1) % 65536, dreq := some (q.seqDreq, ptpTx c) })
      let station := c.ptp.parent.bind (fun p => c.ptp.stations.find? (fun e => e.1 == p.port))
      let one := if c.flag Reg.TIM_PTP_CFG_UNICAST_DR then station.map (·.2) else none
      d.emit (.out (.frame c.num (delayReqFrame d one c.ptp.seqDreq (-(ptpAsym c))))))) ∧
    (ptpUp (s.chan n) = true → port = 6 → CompletesIn (.announceTransmit n) n s (fun c =>
      let d := c.modPtp (fun q => { q with seqAnn := (q.seqAnn + 1) % 65536 })
      d.emit (.out (.frame c.num (announceFrame d c.ptp.seqAnn (ptpOwn d)))))) ∧
    (ptpUp (s.chan n) = false ∨ port ≠ 6 →
      CompletesIn (.ptpSyncTransmit n) n s id ∧ CompletesIn (.announceTransmit n) n s id) ∧
    (ptpUp (s.chan n) = false ∨ port ≠ 8 ∧ port ≠ 9 → CompletesIn (.ptpDelayReqTransmit n) n s id)) ∧
  (∀ (n : Fin 5) (s : State), s.live n →
    let heard : Bool := match (s.chan n).ptp.parent with
      | some p => ptpFresh (s.chan n) (((s.chan n).ptp.foreign.find? (fun e => e.1.port == p.port)).map (·.2.2))
      | none => ptpFresh (s.chan n) (some (s.chan n).ptp.listen)
    let synced := ptpFresh (s.chan n) (s.chan n).ptp.lastSync && ptpFresh (s.chan n) (s.chan n).ptp.lastResp
    let forget (c : Chan) : Chan := c.modPtp (fun q => { q with
      foreign := [], stations := [], parent := none, sync := none, t12 := none, dreq := none, listen := c.tim.age })
    ((s.chan n).flag Reg.TIM_PTP_CFG_EN = false → CompletesIn (.announceTimeout n) n s id) ∧
    (ptpUp (s.chan n) = true → heard = false → (s.chan n).get Reg.TIM_PTP_STAT_PORT ≠ 6 →
      CompletesIn (.announceTimeout n) n s (fun c => timAbsent ((forget c).set
        Reg.TIM_PTP_STAT_PORT (if c.flag Reg.TIM_PTP_CFG_SLAVEONLY then 4 else 6)) 0)) ∧
    ((s.chan n).flag Reg.TIM_PTP_CFG_EN = true → heard = false →
      ptpUp (s.chan n) = false ∨ (s.chan n).get Reg.TIM_PTP_STAT_PORT = 6 →
      CompletesIn (.announceTimeout n) n s (fun c => timAbsent (forget c) 0)) ∧
    ((s.chan n).flag Reg.TIM_PTP_CFG_EN = true → heard = true → (s.chan n).flag (Reg.TIM_REFSTAT_PRESENT 0) = true →
      synced = false → CompletesIn (.announceTimeout n) n s (fun c => timAbsent c 0)) ∧
    ((s.chan n).flag Reg.TIM_PTP_CFG_EN = true → heard = true →
      (s.chan n).flag (Reg.TIM_REFSTAT_PRESENT 0) = false ∨ synced = true → CompletesIn (.announceTimeout n) n s id))


/-! ### Serial lanes (14_serial_lanes.md) -/

/-- Of R373 and R375: steps 1 to 4 of the bring-up of a receiving lane, each with its condition; elsewhere the same event changes
nothing.

Of R373, R374 and R377: a group whose lanes all stand at the step orders its lanes, is aligned with one LANE_UP for each lane
where no skew exceeds 96 columns, and gives way at the next marker position after a loss. -/
def Obligations.LaneBringUp : Prop :=
  (∀ (n : Fin 5) (k : Nat) (s : State), s.live n →
    let at_ (v : Nat) : Prop := isRx k = true ∧ laneOn (s.chan n) k = true ∧ laneStep (s.chan n) k = v
    (at_ 1 → CompletesIn (.laneSignalDetect n k) n s
      (fun c => setStep (c.modLane (laneIx k) (fun l => { l with signal := true })) k 2)) ∧
    (at_ 2 → CompletesIn (.cdrLock n k) n s (fun c => setStep (lrefBack c) k 3)) ∧
    (at_ 3 → CompletesIn (.commaAlign n k) n s
      (fun c => setInv (setStep c k 4) k (if lanePolfix c k = 2 then 1 else 0))) ∧
    (at_ 4 → k ≠ 20 ∨ (s.chan n).flag Reg.LNK_TCFG_AN = true → CompletesIn (.polarityPass n k) n s (fun c => setStep c k 5)) ∧
    (at_ 4 → k = 20 → (s.chan n).flag Reg.LNK_TCFG_AN = false → CompletesIn (.polarityPass n k) n s (fun c =>
      ptpLink true (((c.set Reg.LNK_TSTAT_STEP 7).set Reg.LNK_GSTAT_TLINK 1).post 0x0801 .lnk 20 1))) ∧
    (let l := (s.chan n).lane (laneIx k)
     (at_ 4 → lanePolfix (s.chan n) k = 0 → 2 * l.start + l.limit ≤ 2 * (s.chan n).tim.age →
        CompletesIn (.polarityInvert n k) n s (fun c => setInv c k 1)) ∧
     (¬ at_ 4 ∨ lanePolfix (s.chan n) k ≠ 0 ∨ 2 * (s.chan n).tim.age < 2 * l.start + l.limit →
        CompletesIn (.polarityInvert n k) n s id)) ∧
    (¬ at_ 1 → CompletesIn (.laneSignalDetect n k) n s id) ∧
    (¬ at_ 2 → CompletesIn (.cdrLock n k) n s id) ∧
    (¬ at_ 3 → CompletesIn (.commaAlign n k) n s id) ∧
    (¬ at_ 4 → CompletesIn (.polarityPass n k) n s id)) ∧
  (∀ (n : Fin 5) (g : Nat) (s : State), s.live n →
    let all (v : Nat) : Bool := groupAll (s.chan n) g (fun k => laneStep (s.chan n) k == v)
    (∀ rev,
      (all 5 = true → CompletesIn (.laneOrder n g rev) n s (fun c =>
        (groupLanes c g).foldl (fun d k => (setStep d k 6).set (Reg.LNK_PSTAT_REV k) (b2n rev)) c)) ∧
      (all 5 = false → CompletesIn (.laneOrder n g rev) n s id)) ∧
    (∀ skews : List Nat,
      (all 6 = true → (∀ x ∈ skews, x ≤ 96) → CompletesIn (.laneUp n g skews) n s (fun c => setGroup
        ((List.range (groupLanes c g).length).foldl (fun d i =>
          let k := (groupLanes c g).getD i 0
          let e := (setStep d k 7).set (Reg.LNK_PSTAT_SKEW k) (skews.getD i 0)
          (e.modLane k (fun l => { l with lost := false, count := none })).post 0x0801 .lnk k
            (e.get (Reg.LNK_PCFG_RATE k))) c) g true)) ∧
      (all 6 = false ∨ (∃ x ∈ skews, 96 < x) → CompletesIn (.laneUp n g skews) n s id)) ∧
    (let lost := (groupLanes (s.chan n) g).any (fun k => ((s.chan n).lane k).lost)
     (groupUp (s.chan n) g = true → lost = true → CompletesIn (.alignLost n g) n s (fun c => (setGroup
        ((groupLanes c g).foldl (fun d k =>
          if (d.lane k).lost then
            let e := (d.post 0x0802 .lnk k g).modLane k (fun l => { l with lost := false })
            { e with lanes := { e.lanes with alignLost := satAdd 16 e.lanes.alignLost 1 } }
          else d) c) g false).bump Reg.LNK_LOST_COUNT)) ∧
     (groupUp (s.chan n) g = false ∨ lost = false → CompletesIn (.alignLost n g) n s id)))

/-- Of R363, R373 and R376: timeouts of the first steps, and of the group's steps 5 and 6; the loss of a lane of an aligned group,
whose other lanes stay at step 5; markers. How a lane that is not aligned loses its signal, lock or code groups is the model's
reading (log entry 97). -/
def Obligations.LaneLosses : Prop :=
  (∀ (n : Fin 5) (k : Nat) (s : State), s.live n →
    let ready : Prop := isRx k = true ∧ laneOn (s.chan n) k = true ∧ stepDue (s.chan n) k ≤ (s.chan n).tim.age
    let back (v : Nat) (c : Chan) : Chan := if k = 20 then laneBack c k v
      else ((laneBack c k v).bump (Reg.LNK_PERR_RESTART k)).set (Reg.LNK_PSTAT_FAIL k) (laneStep c k)
    (ready → laneStep (s.chan n) k = 2 → (s.chan n).tim.lref = true → CompletesIn (.bringupTimeout n k) n s (back 1)) ∧
    (ready → laneStep (s.chan n) k = 3 → CompletesIn (.bringupTimeout n k) n s (back 2)) ∧
    (ready → laneStep (s.chan n) k = 4 → CompletesIn (.bringupTimeout n k) n s (back 3)) ∧
    (∀ v, ready → k ≠ 20 → v = 5 ∨ v = 6 → laneStep (s.chan n) k = v →
      groupAll (s.chan n) (groupOf (s.chan n) k) (fun j => laneStep (s.chan n) j == v) = true →
      CompletesIn (.bringupTimeout n k) n s (fun c => (groupLanes c (groupOf c k)).foldl (fun c j => laneTimeout c j 5) c)) ∧
    (¬ ready ∨ laneStep (s.chan n) k < 2 ∨ laneStep (s.chan n) k = 7 ∨
      laneStep (s.chan n) k = 2 ∧ (s.chan n).tim.lref = false → CompletesIn (.bringupTimeout n k) n s id)) ∧
  (∀ (n : Fin 5) (k cause viol : Nat) (s : State), s.live n →
    let happens : Prop := isRx k = true ∧ laneOn (s.chan n) k = true ∧ 1 ≤ laneStep (s.chan n) k ∧ cause < 4 ∧
      (cause = 2 ∧ k < 16 → 4 ≤ viol)
    let noted (c : Chan) : Chan :=
      let c := if k < 16 then c.bump (Reg.LNK_PERR_CODE k) viol else c
      let c := if cause = 0 then c.modLane (laneIx k) (fun l => { l with signal := false }) else c
      if cause = 3 ∧ k < 16 then c.bump (Reg.LNK_PERR_MARKER k) else c
    let now := noted (s.chan n)
    let to_ := if cause ≤ 1 then 1 else 3
    let aligned : Prop := (laneStep now k = 7 ∨ laneStep now k = 5) ∧ groupUp now (groupOf now k) = true
    let gone (c : Chan) : Chan := setStep (((groupLanes c (groupOf c k)).foldl (fun c j =>
      if j ≠ k ∧ (laneStep c j = 6 ∨ laneStep c j = 7) then setStep c j 5 else c) c).modLane k (fun l =>
        { l with lost := true })) k to_
    (happens → k ≠ 20 → aligned → CompletesIn (.laneLost n k cause viol) n s (fun c => gone (noted c))) ∧
    (happens → k ≠ 20 → ¬ aligned → cause = 0 → CompletesIn (.laneLost n k cause viol) n s (fun c => laneBack (noted c) k 1)) ∧
    (happens → k ≠ 20 → ¬ aligned → cause ≠ 0 → laneStep now k = 5 ∨ laneStep now k = 6 →
      CompletesIn (.laneLost n k cause viol) n s (fun c => gone (noted c))) ∧
    (happens → k = 20 ∨ ¬ aligned ∧ cause ≠ 0 ∧ laneStep now k ≠ 5 ∧ laneStep now k ≠ 6 →
      CompletesIn (.laneLost n k cause viol) n s (fun c => laneBack (noted c) k (min to_ (laneStep now k)))) ∧
    (¬ happens → CompletesIn (.laneLost n k cause viol) n s id)) ∧
  (∀ (n : Fin 5) (k laneNo count check skew : Nat) (s : State), s.live n → k < 16 → laneOn (s.chan n) k = true →
    let good := check % 256 = 255 - ((BitVec.ofNat 8 laneNo) ^^^ (BitVec.ofNat 8 count)).toNat
    let next : Prop := ((s.chan n).lane k).count.all (fun m => decide (count % 256 = (m + 1) % 256)) = true
    let place := (groupLanes (s.chan n) (groupOf (s.chan n) k)).findIdx (· == k)
    let want := if (s.chan n).flag (Reg.LNK_PSTAT_REV k) then
      (groupLanes (s.chan n) (groupOf (s.chan n) k)).length - 1 - place else place
    let holds : Prop := good ∧ next ∧ laneNo % 256 = want ∧ skew ≤ 96
    let heard (c : Chan) : Chan := c.modLane k (fun l => { l with count := some (count % 256), laneNo := some (laneNo % 256) })
    (laneStep (s.chan n) k = 7 → holds → CompletesIn (.alignmentMarker n k laneNo count check skew) n s (fun c =>
      (heard c).set (Reg.LNK_PSTAT_SKEW k) skew)) ∧
    (laneStep (s.chan n) k = 7 → ¬ holds → CompletesIn (.alignmentMarker n k laneNo count check skew) n s (fun c =>
      laneLost (c.bump (Reg.LNK_PERR_MARKER k)) k 3)) ∧
    (3 ≤ laneStep (s.chan n) k → laneStep (s.chan n) k ≠ 7 → good →
      CompletesIn (.alignmentMarker n k laneNo count check skew) n s heard) ∧
    (laneStep (s.chan n) k < 3 ∨ laneStep (s.chan n) k ≠ 7 ∧ ¬ good →
      CompletesIn (.alignmentMarker n k laneNo count check skew) n s id))

/-- Of R371, R375, R381 to R383 and R385: auto-negotiation, the transmitters and what they send, the loss of LREF, eye scans,
PRBS, the equaliser's moves of one code in 100 µs, FOM; each in its state alone.

Of R382 and R383: the writes that start an eye scan or clear the PRBS counts of a P-lane; HOLD and DWELL stay as they are. A scan
while one runs is discarded with BUSY. -/
def Obligations.LaneSignals : Prop :=
  (∀ (n : Fin 5) (k : Nat) (s : State), s.live n →
    (∀ partner,
      (laneOn (s.chan n) 20 = true → laneStep (s.chan n) 20 = 5 → CompletesIn (.autonegComplete n partner) n s (fun c =>
        ptpLink true ((((c.set Reg.LNK_TSTAT_PARTNER partner).set Reg.LNK_TSTAT_STEP 7).set Reg.LNK_GSTAT_TLINK 1).post
          0x0801 .lnk 20 1))) ∧
      (laneOn (s.chan n) 20 = false ∨ laneStep (s.chan n) 20 ≠ 5 → CompletesIn (.autonegComplete n partner) n s id)) ∧
    (k < 4 → sSends (s.chan n) k ≠ 0 → (s.chan n).get (Reg.LNK_SSTAT_SENDS k) = 0 →
      CompletesIn (.sLaneTxStart n k) n s (fun c =>
        let d := lrefBack c
        let d := ({ d with lanes := { d.lanes with txOn := d.lanes.txOn ++ [k] } } : Chan).set
          (Reg.LNK_SSTAT_SENDS k) (sSends c k)
        setPaths ((d.emit (.out (laneDrive d (sSends c k) k))).post 0x0801 .lnk (16 + k) (d.get (Reg.LNK_SCFG_RATE k))))) ∧
    (4 ≤ k ∨ sSends (s.chan n) k = 0 ∨ (s.chan n).get (Reg.LNK_SSTAT_SENDS k) ≠ 0 → CompletesIn (.sLaneTxStart n k) n s id) ∧
    CompletesWith (.lrefLoss n) n s (fun d => d.tim.lref = false ∧
      (∀ j < 4, (s.chan n).get (Reg.LNK_SSTAT_SENDS j) ≠ 0 → j ∉ d.lanes.txOn) ∧
      (∀ j ∈ d.lanes.txOn, j ∈ (s.chan n).lanes.txOn)) ∧
    (∀ errs : List Nat, k < 16 →
      ((s.chan n).flag (Reg.LNK_PSTAT_SCANBUSY k) = true → CompletesIn (.eyeScanDone n k errs) n s (fun c =>
        (forN 2048 (fun i d => d.setEntry (0x1140 + 0x1000 * k) i 0 (min (errs.getD i 0) (2 ^ (c.lane k).dwell))) c).set
          (Reg.LNK_PSTAT_SCANBUSY k) 0)) ∧
      ((s.chan n).flag (Reg.LNK_PSTAT_SCANBUSY k) = false → CompletesIn (.eyeScanDone n k errs) n s id)) ∧
    (∀ before window after : List Bool, k < 16 →
      let bits := before ++ (window ++ after)
      ((s.chan n).get (Reg.LNK_PCFG_MODE k) = 3 → CompletesIn (.prbsLock n k before window after) n s (fun c =>
        let z := bits.foldl (prbsBit (c.get (Reg.LNK_PCFG_PATTERN k)))
          ((c.lane k).prbs, c.flag (Reg.LNK_PSTAT_PLOCK k), 0, 0)
        (((c.inc (Reg.LNK_PRBS_BITS_COUNT k) z.2.2.1).inc (Reg.LNK_PRBS_ERRS_COUNT k) z.2.2.2).set
          (Reg.LNK_PSTAT_PLOCK k) (b2n z.2.1)).modLane k (fun l => { l with prbs := z.1 }))) ∧
      ((s.chan n).get (Reg.LNK_PCFG_MODE k) ≠ 3 → CompletesIn (.prbsLock n k before window after) n s id)) ∧
    (∀ moves : List Int,
      let may : Prop := isRx k = true ∧ laneOn (s.chan n) k = true ∧
        (k = 20 ∨ (s.chan n).flag (Reg.LNK_PCTL_HOLD k) = false) ∧
        ((s.chan n).lane (laneIx k)).adapted.all (fun a => decide (a + 2500 ≤ (s.chan n).tim.age)) = true
      (may → CompletesIn (.adaptationUpdate n k moves) n s (fun c => c.modLane (laneIx k) (fun l => { l with
        adapted := some c.tim.age
        eq := (List.range (max l.eq.length moves.length)).map (fun i =>
          ((l.eq.getD i 0 : Nat) + max (-1) (min 1 (moves.getD i 0)) : Int).toNat) }))) ∧
      (¬ may → CompletesIn (.adaptationUpdate n k moves) n s id)) ∧
    (∀ fom, isRx k = true → laneOn (s.chan n) k = true →
      (k ≠ 20 → (s.chan n).flag (Reg.LNK_PSTAT_SCANBUSY k) = false → CompletesIn (.fomUpdate n k fom) n s (fun c =>
        (c.set (Reg.LNK_PSTAT_FOM k) (min fom 255)).set (Reg.LNK_PFOMMIN_MIN k)
          (min (c.get (Reg.LNK_PFOMMIN_MIN k)) (min fom 255)))) ∧
      (k ≠ 20 → (s.chan n).flag (Reg.LNK_PSTAT_SCANBUSY k) = true → CompletesIn (.fomUpdate n k fom) n s id) ∧
      (k = 20 → CompletesIn (.fomUpdate n k fom) n s (fun c => c.set Reg.LNK_TSTAT_FOM (min fom 255)))) ∧
    (∀ fom, isRx k = false ∨ laneOn (s.chan n) k = false → CompletesIn (.fomUpdate n k fom) n s id)) ∧
  (∀ (n : Fin 5) (k hold dwell : Nat) (p : Path) (s : State), s.live n → k < 16 →
    s.opens p (.unit n (0x1104 + 0x1000 * k)) → hold < 2 → 10 ≤ dwell → dwell ≤ 30 →
    storeGet unitReset (s.chan n).bank.regs (0x1104 + 0x1000 * k) = BitVec.ofNat 32 (hold + 256 * dwell) →
    let kept (c : Chan) : Chan := c.putWord (0x1104 + 0x1000 * k) (BitVec.ofNat 32 (hold + 256 * dwell))
    ((s.chan n).flag (Reg.LNK_PSTAT_SCANBUSY k) = false → CompletesIn (.eyeScan p n k) n s (fun c =>
      let d := (kept c).set (Reg.LNK_PSTAT_SCANBUSY k) 1
      d.modLane k (fun l => { l with dwell := (kept c).get (Reg.LNK_PCTL_DWELL k) }))) ∧
    ((s.chan n).flag (Reg.LNK_PSTAT_SCANBUSY k) = true → CompletesIn (.eyeScan p n k) n s
      (discardUnit .lnk codeBUSY (bar0Unit n (0x1104 + 0x1000 * k)) (pathCode p) (hold + 256 * dwell + 4))) ∧
    CompletesIn (.prbsClear p n k) n s (fun c =>
      ((kept c).set (Reg.LNK_PRBS_BITS_COUNT k) 0).set (Reg.LNK_PRBS_ERRS_COUNT k) 0))


/-! ### Audio and memory (15_audio_ports.md, 16_memory.md) -/

/-- Of R393 and R399: MASK_ARM and RESTART_REQUEST, the writes of AUD_xCTL: the armed mask waits for the next frame with PENDING
set, a restart waits on an enabled side, and a mask of zero, or one without a slot that a programme takes, is discarded.

Of R388 and R389: the frame-sync filter. A disabled side does nothing; a master makes its own syncs; a slave that seeks locks on
three good syncs in a row, an edge of the other polarity being none; on a locked side a wrong sync is counted in FSERR with sticky
INPUT, and the third in a row at one place moves the frame; a missing one is tolerated. A slave side that is locked loses its bit
clock and seeks again.

Of R390 to R394 and R398: a frame sync that ends a whole frame of a receive side drains the FIFO, stamps the frame, takes its
active slots in slot order and checks their number, and begins the next frame; one that cuts a frame short only begins the next;
one that a transmit side acts on plays a frame out. -/
def Obligations.AudioPorts : Prop :=
  (∀ (n : Fin 5) (j x : Nat) (p : Path) (s : State), s.live n → j < 4 → x < 2 →
    s.opens p (.unit n (0x14111C + 0x1000 * j + 0x40 * x)) →
    (audCtlCode (s.chan n) j x 1 = 0 → CompletesIn (.maskArm p n j x) n s (fun c =>
      (c.modSide j x (fun a => { a with pendingMask := some (c.get (Reg.AUD_MASK_NEXT j x)) })).set
        (Reg.AUD_STAT_PENDING j x) 1)) ∧
    (audCtlCode (s.chan n) j x 1 ≠ 0 → CompletesIn (.maskArm p n j x) n s
      (discardUnit .aud (audCtlCode (s.chan n) j x 1) (bar0Unit n (0x14111C + 0x1000 * j + 0x40 * x)) (pathCode p) 1)) ∧
    ((s.chan n).get (Reg.AUD_MASK_NEXT j x) = 0 → audCtlCode (s.chan n) j x 1 = codeZERO_FIELD) ∧
    ((s.chan n).get (Reg.AUD_STAT_STATE j x) ≠ 0 → CompletesIn (.restartRequest p n j x) n s (fun c =>
      c.modSide j x (fun a => { a with restart := true }))) ∧
    ((s.chan n).get (Reg.AUD_STAT_STATE j x) = 0 → CompletesIn (.restartRequest p n j x) n s id)) ∧
  (∀ (n : Fin 5) (j x : Nat) (s : State), s.live n → j < 4 → x < 2 →
    (2 ≤ (s.chan n).get (Reg.AUD_STAT_STATE j x) → (s.chan n).flag (Reg.AUD_CFG_MASTER j x) = false →
      CompletesIn (.bitClockLoss n j x) n s (fun c =>
        (c.set (Reg.AUD_STAT_STATE j x) 1).modSide j x (fun a => { a with good := 0, wrong := 0, open_ := none }))) ∧
    ((s.chan n).get (Reg.AUD_STAT_STATE j x) < 2 ∨ (s.chan n).flag (Reg.AUD_CFG_MASTER j x) = true →
      CompletesIn (.bitClockLoss n j x) n s id)) ∧
  (∀ (c : Chan) (j x m : Nat) (rising inRate : Bool) (sync : AudSync),
    let st := c.get (Reg.AUD_STAT_STATE j x)
    let slave : Prop := c.flag (Reg.AUD_CFG_MASTER j x) = false
    let active : Prop := rising ≠ c.flag (Reg.AUD_CFG_FSPOL j x)
    let ends : AudCut := if (c.side j x).open_.isSome then .whole else .begins
    (st = 0 → audFilter c j x sync = (c, .none)) ∧
    (st ≠ 0 → ¬ slave → audFilter c j x sync =
      (c, if audSyncs c j x = (c.side j x).syncs then .none else ends)) ∧
    (st ≠ 0 → slave → ¬ active → audFilter c j x (.edge rising m inRate) = (c, .none)) ∧
    (st = 1 → slave → active → inRate = true → m = 512 → (c.side j x).good < 2 →
      audFilter c j x (.edge rising m inRate) = (c.modSide j x (fun a => { a with good := (c.side j x).good + 1 }), .none)) ∧
    (st = 1 → slave → active → inRate = true → m = 512 → 2 ≤ (c.side j x).good →
      audFilter c j x (.edge rising m inRate) =
        ((c.modSide j x (fun a => { a with good := 0, wrong := 0 })).set (Reg.AUD_STAT_STATE j x)
          (if (c.side j x).lag = 0 then 2 else 3), .begins)) ∧
    (st = 1 → slave → active → inRate = true → m ≠ 512 →
      audFilter c j x (.edge rising m inRate) = (c.modSide j x (fun a => { a with good := 1 }), .none)) ∧
    (st = 1 → slave → active → inRate = false →
      audFilter c j x (.edge rising m inRate) = (c.modSide j x (fun a => { a with good := 0 }), .none)) ∧
    (st = 1 → slave → audFilter c j x .absent = (c.modSide j x (fun a => { a with good := 0 }), .none)) ∧
    (2 ≤ st → slave → audFilter c j x .absent = (c, ends)) ∧
    (2 ≤ st → slave → active → m = 512 →
      audFilter c j x (.edge rising m inRate) = (c.modSide j x (fun a => { a with wrong := 0 }), ends)) ∧
    (2 ≤ st → slave → active → m ≠ 512 →
      let w := if (c.side j x).wrongAt = m then (c.side j x).wrong + 1 else 1
      audFilter c j x (.edge rising m inRate) = (((c.bump (Reg.AUD_COUNT_FSERR j x)).input .aud).modSide j x (fun a =>
        { a with fserr := true, wrongAt := m, wrong := if 3 ≤ w then 0 else w }), if 3 ≤ w then .begins else .none))) ∧
  (∀ (n : Fin 5) (j : Nat) (sync : AudSync) (line : TdmLine) (errs : List Nat) (beats : List (Nat × BeatCheck)) (s : State),
    s.live n → j < 4 →
    ((audFilter (s.chan n) j 0 sync).2 = .none →
      CompletesIn (.tdmFrame n j sync line errs) n s (fun c => (audFilter c j 0 sync).1)) ∧
    ((audFilter (s.chan n) j 0 sync).2 = .begins →
      CompletesIn (.tdmFrame n j sync line errs) n s (fun c => audBegin (audFilter c j 0 sync).1 j 0)) ∧
    (∀ f, (audFilter (s.chan n) j 0 sync).2 = .whole → ((audFilter (s.chan n) j 0 sync).1.side j 0).open_ = some f →
      CompletesIn (.tdmFrame n j sync line errs) n s (fun c =>
        let d := (audFilter c j 0 sync).1
        let words := slotWords d j line
        let d := audStamp (audDrain j 64 d) j 0 f
        let act := maskSlots (d.get (Reg.AUD_MASK_CUR j 0))
        let r := (List.range act.length).foldl (fun (p : Chan × Nat) i =>
          let t := audTake p.1 j (BitVec.ofNat 32 (words.getD (act.getD i 0) 0)) (errs.contains i)
          (t.1, if t.2 then p.2 + 1 else p.2)) (d, 0)
        audBegin (audCheck r.1 j 0 r.2 act.length) j 0)) ∧
    ((audFilter (s.chan n) j 1 sync).2 = .none →
      CompletesIn (.tdmFrameTransmit n j sync beats) n s (fun c => (audFilter c j 1 sync).1)) ∧
    ((audFilter (s.chan n) j 1 sync).2 ≠ .none →
      CompletesIn (.tdmFrameTransmit n j sync beats) n s (fun c => audPlay (memFind (audFilter c j 1 sync).1 beats) j)))

/-- Of R386, R387 and R391: a frame that a transmit side plays out has 512 data bits, 32 to a slot; the last 8 of each slot are
zero, and so is a slot that the mask in force when the frame starts leaves out. -/
def Obligations.TdmTransmit : Prop :=
  ∀ (n : Fin 5) (j : Nat) (sync : AudSync) (beats : List (Nat × BeatCheck)) (s : State), s.live n → j < 4 →
    (audFilter (s.chan n) j 1 sync).2 ≠ .none →
    CompletesWith (.tdmFrameTransmit n j sync beats) n s (fun d => ∃ num before, ∃ w : TdmWave,
      d.outbox = before ++ [.out (.tdm num j w)] ∧ w.data.length = 512 ∧
      (∀ k < 16, ∀ i < 32, 24 ≤ i → w.data.getD (32 * k + i) false = false) ∧
      ∀ k < 16, bitAt ((audBegin (memFind (audFilter (s.chan n) j 1 sync).1 beats) j 1).get (Reg.AUD_MASK_CUR j 1)) k = false →
        ∀ i < 32, w.data.getD (32 * k + i) false = false)

/-- Of R406, R412, R413, R416, R417 and R420: initialisation ends; the scrubber reads its next beat when the pace of its pass says
so, corrects it or logs what it cannot correct; a pseudo-channel is recalibrated every RECAL ms, and the results go to the umpire
when the temperature has moved by 5 °C or after 60 s; a storm ends when the count has stayed below STORMN for a window. During
initialisation nothing is scrubbed.

Of R110, R406 and R408: the oldest write of the write sink drains into HBM when port 6's regulator grants it, in the order in
which they came; nothing drains while the array is initialised. -/
def Obligations.MemoryEvents : Prop :=
  (∀ (n : Fin 5) (s : State), s.live n →
    ((s.chan n).mem.initialising = true → CompletesIn (.initDone n) n s (fun c =>
      ({ c.set Reg.MEM_STAT_INITDONE 1 with mem := { c.mem with initialising := false } } : Chan).emit .initDone)) ∧
    ((s.chan n).mem.initialising = false → CompletesIn (.initDone n) n s id) ∧
    (∀ k : BeatCheck,
      let due := decide ((s.chan n).get Reg.MEM_SCRUB_POS_ADDR * ((s.chan n).mem.passHours * 90000000000) ≤
        ((s.chan n).tim.age - (s.chan n).mem.passStart) * hbmSize)
      ((s.chan n).mem.initialising = true ∨ due = false → CompletesIn (.scrubBeat n k) n s id) ∧
      ((s.chan n).mem.initialising = false → due = true → CompletesIn (.scrubBeat n k) n s (fun c =>
        let a := c.get Reg.MEM_SCRUB_POS_ADDR
        let d := memMoved (memBeat c a k) 7 a 32
        let fixed := memSoft d a 32
        let e := memCorrect d true fixed
        let e : Chan := { e with mem := { e.mem with passCorr := e.mem.passCorr + (fixed.length + b2n k.stackCorrected) } }
        scrubNext ((memBad e a 32).foldl (fun c x => memFail c x.1 7 x.2) e) a))) ∧
    (∀ t : Int,
      let copies : Prop := 5 ≤ (t - (s.chan n).mem.copyTemp).natAbs ∨
        (s.chan n).mem.copyTime + 60000 * 25000 ≤ (s.chan n).tim.age
      let done (c : Chan) : Chan :=
        let d := memTemp (t * 10) c
        { d with mem := { d.mem with nextPc := (d.mem.nextPc + 1) % 32, recalAt := d.tim.age } }
      let due : Prop := (s.chan n).mem.recalAt + (s.chan n).get Reg.MEM_RECAL * 25000 ≤ (s.chan n).tim.age
      (¬ due → CompletesIn (.recalibration n t) n s id) ∧
      (due → copies → CompletesIn (.recalibration n t) n s (fun c =>
        ({ done c with mem := { (done c).mem with copyTemp := t, copyTime := c.tim.age } } : Chan).emit (.training t))) ∧
      (due → ¬ copies → CompletesIn (.recalibration n t) n s done)) ∧
    (let window := (s.chan n).get Reg.MEM_STORMCFG_STORMWIN * 65536000000
     let times := (s.chan n).mem.errTimes
     let below (t : Nat) : Prop := stormCount window t times < (s.chan n).get Reg.MEM_STORMCFG_STORMN
     let clears : Prop := (s.chan n).flag Reg.MEM_STAT_STORM = true ∧ below ((s.chan n).now - window) ∧
      ∀ t ∈ times, (s.chan n).now < t + window → below t
     (clears → CompletesIn (.stormClear n) n s (fun c => c.set Reg.MEM_STAT_STORM 0)) ∧
     (¬ clears → CompletesIn (.stormClear n) n s id))) ∧
  (∀ (n : Fin 5) (s : State), s.live n →
    (∀ a bs rest, (s.chan n).mem.initialising = false → (s.chan n).sink.writes = (a, bs) :: rest →
      (memGrants (s.chan n) 6 a bs.length = true → CompletesIn (.sinkDrain n) n s (fun c =>
        let d := memWrite c a 6 bs
        { d with sink := { d.sink with
          writes := rest, held := d.sink.held - bs.length, drained := d.sink.drained + 1 } })) ∧
      (memGrants (s.chan n) 6 a bs.length = false → CompletesIn (.sinkDrain n) n s id)) ∧
    ((s.chan n).sink.writes = [] ∨ (s.chan n).mem.initialising = true → CompletesIn (.sinkDrain n) n s id))

/-- Of R414 and R403: a whole beat written to the array reads back and no longer fails, every byte outside it reads as before, and
the list keeps its canonical form.

Of R403: bytes stored in HBM read back, every other byte reads as before, and the list keeps its canonical form. -/
def Obligations.MemoryReadsBack : Prop :=
  (∀ (c : Chan) (a port : Nat) (bs : List Byte), a % 32 = 0 → bs.length = 32 → c.mem.initialising = false →
    storeWf hbmReset c.hbm = true →
    (memWrite c a port bs).load a 32 = bs ∧ storeWf hbmReset (memWrite c a port bs).hbm = true ∧
      (∀ k, k < a ∨ a + 32 ≤ k → storeGet hbmReset (memWrite c a port bs).hbm k = storeGet hbmReset c.hbm k) ∧
      memReadFails (memWrite c a port bs) a 32 = false) ∧
  (∀ (c : Chan) (a : Nat) (bs : List Byte), storeWf hbmReset c.hbm = true →
    (c.store a bs).load a bs.length = bs ∧ storeWf hbmReset (c.store a bs).hbm = true ∧
      ∀ k, k < a ∨ a + bs.length ≤ k → storeGet hbmReset (c.store a bs).hbm k = storeGet hbmReset c.hbm k)


/-! ### Bench, temperature, power and the log (17 to 19) -/

/-- Of R425, R430, R432 and R439: the writes of SUP_BENCH and SUP_SUBST_CTL. One that a check forbids is discarded whole with its
code; a designation shows on BENCH_SEL; GO and RETURN begin, or fail for want of a scorecard that matches a record.

Of R38, R431 and R433: a watchdog that fires on a programme on air in M1 to M5, its span being over, sets WATCHDOG, is disarmed
and triggers a substitution, and none fires otherwise; BENCH_SEL is driven after BENCH_EN, and the bench unit is started. -/
def Obligations.Bench : Prop :=
  (∀ (p : Path) (u : Nat) (s : State), u ≤ 4 →
    (s.opens p (.hub 0x43100) → ∀ v : Word,
      (v.toNat ≤ 4 ∨ v.toNat = 7 →
        (s.benchCode v.toNat = 0 → Completes (.benchDesignate p v) s (fun s =>
          (s.putWord .sup 0x43100 (BitVec.ofNat 32 (setBitsOf (storeGet hubReset s.ump.bank.regs 0x43100).toNat 0 3
            v.toNat))).modSubst (fun x => { x with bench := v.toNat, sel := if v.toNat ≤ 4 then v.toNat else 7 }))) ∧
        (s.benchCode v.toNat ≠ 0 → Completes (.benchDesignate p v) s (fun s =>
          s.discardHub .sup (s.benchCode v.toNat) 0x43100 (pathCode p) v.toNat))) ∧
      (4 < v.toNat → v.toNat ≠ 7 → Completes (.benchDesignate p v) s (fun s =>
        s.discardHub .sup codeRANGE 0x43100 (pathCode p) v.toNat))) ∧
    (s.opens p (.hub 0x43108) →
      (∀ card cfg, s.goCode u = 0 → s.pickCard u = some (card, cfg) →
        Completes (.substGo p u) s (fun s => s.substBegin 1 u s.subst.bench 0 card cfg)) ∧
      (s.goCode u = 0 → s.pickCard u = none →
        Completes (.substGo p u) s (fun s => s.substNoCard u s.subst.bench 0)) ∧
      (s.goCode u ≠ 0 → Completes (.substGo p u) s (fun s =>
        (s.modSubst (fun y => { y with trigger := 0 })).discardHub .sup (s.goCode u) 0x43108 (pathCode p) (u + 2 ^ 8))) ∧
      (∀ card cfg, s.returnCode u = 0 → s.pickCard s.subst.server = some (card, cfg) →
        Completes (.substReturn p u) s (fun s => s.substBegin 3 s.subst.server u 6 card cfg)) ∧
      (s.returnCode u = 0 → s.pickCard s.subst.server = none →
        Completes (.substReturn p u) s (fun s => s.substNoCard s.subst.server u 6)) ∧
      (s.returnCode u ≠ 0 → Completes (.substReturn p u) s (fun s =>
        (s.modSubst (fun y => { y with trigger := 6 })).discardHub .sup (s.returnCode u) 0x43108 (pathCode p) (u + 2 ^ 9))))) ∧
  (∀ (n : Fin 5) (k : Nat) (s : State), s.ump.on = true →
    let fires : Prop := 1 ≤ s.modeOf n ∧ s.modeOf n ≤ 5 ∧ k < 8 ∧ (s.chan n).flag (Reg.PKT_PSTAT_ONAIR k) = true ∧
      ∃ w ∈ s.ump.watches, w.unit = n.val ∧ w.prog = k ∧ w.at_ + w.span ≤ s.centre.xcount
    (fires → Completes (.watchdog n k) s (fun s =>
      (((s.fault Reg.SUP_FAULT_STAT_WATCHDOG).modUmp (fun u =>
        { u with watches := u.watches.filter (fun w => !(w.unit == n.val && w.prog == k)) })).trigger n 2 (s.modeOf n)
          (s.onAir n)))) ∧
    (¬ fires → Completes (.watchdog n k) s id) ∧
    (s.subst.state = 1 → s.subst.step = 4 → s.subst.benchEn = true → Completes .benchSelDrive s (fun s =>
      (s.modSubst (fun y => { y with step := 5, sel := y.src, bench := 7 })).startBench.benchCheck)) ∧
    (s.subst.state ≠ 1 ∨ s.subst.step ≠ 4 ∨ s.subst.benchEn = false → Completes .benchSelDrive s id))

/-- Of R48, R441, R443 to R451, R454, R457, R471 and R477: a housekeeping round judges the dies in the order of their codes, then
copies the stacks, the telemetry of the units in RUN, reads and steers the rails in use, and ends with the lane copies and the
causes that are still present.

Of R450, R452, R453 and R461: THERM_TRIP# is released once no die is shut and 100 ms have passed; FORCE shuts the named units
down, which are those not shut already; a nonzero reserved bit is RANGE.

Of R458 to R460: at the end of a second the energies of the units in RUN and of the package are added; where nothing was coded
in it the package's energy per pixel reads 0xFFFF. -/
def Obligations.Housekeeping : Prop :=
  (∀ (k : Round) (s : State), s.ump.on = true → Completes (.housekeepingRound k) s (fun s =>
    let raw (d : Nat) : Option Int := presentTemp (if d < 8 then k.dies.getD d none else k.stackTemps.getD (d - 8) none)
    let a := forN 6 (fun d t => State.roundDie raw k.link s d t) s.draw
    let b := a.modUmp (fun u => { u with seen := true, stackTemps := (List.range 5).map (fun i => raw (8 + i)) })
    let c := forN 5 (fun n t => if t.running n then t.telemetry n k else t) b
    let d := forN 6 (fun d t => if d = 5 ∨ t.running d then
        let r := if d = 5 then 0 else d + 1
        (t.railRead r (k.volts.getD d none)).steer d (k.margins.getD d 0)
      else t) c
    d.laneCopies.faultsAgain)) ∧
  (∀ (r : Nat) (v : Option Nat) (s : State),
    ((s.rail r).noresp = true → s.railRead r v = s) ∧
    ((s.rail r).noresp = false →
      let asked := ((s.avsPut r .statusRead).modRail r (fun x => { x with cmd := some .voltageRead, tries := 0 })).avsPut r
        .voltageRead
      (v = none → s.railRead r v = asked) ∧
      (∀ mv, v = some mv → s.railRead r v = (asked.modRail r (fun x => { x with measured := mv % 1024 })).modRail r (fun x =>
        { x with cmd := none, tries := 0 })))) ∧
  (∀ (p : Path) (v : Word) (s : State), s.ump.on = true →
    (s.ump.dies.any (·.shut) = false → s.ump.tripAt + 2500000 ≤ s.centre.xcount →
      Completes .thermTripRelease s (State.modUmp (fun u => { u with trip := false }))) ∧
    (s.ump.dies.any (·.shut) = true ∨ s.centre.xcount < s.ump.tripAt + 2500000 → Completes .thermTripRelease s id) ∧
    (s.opens p (.hub 0x45180) →
      (v.toNat < 32 → Completes (.force p v) s
        (forN 5 (fun n s => if bitAt v.toNat n && !(s.die n).shut then s.shutDie n s.ump.straps.link 1320 true else s))) ∧
      (32 ≤ v.toNat → Completes (.force p v) s (fun s =>
        s.discardHub .sup codeRANGE 0x45180 (pathCode p) v.toNat)))) ∧
  (∀ (e : EnergyReport) (s : State), s.ump.on = true →
    let luma := s.ump.lumaGone + (List.range 5).foldl (fun x n => x + if s.running n then (s.chan n).luma else 0) 0
    Completes (.energySecond e) s (fun s =>
      let t := forN 5 (fun n t => t.modRun n (energyUnit (e.enc.getD n 0) (e.unit.getD n 0)))
        (s.modUmp (fun u => { u with lumaGone := 0 }))
      let t := t.uset Reg.SUP_DEV_ENERGY_UJ (t.uget Reg.SUP_DEV_ENERGY_UJ + e.package)
      (t.uset Reg.SUP_DEV_EPP_EPP (energyPer t.freeNat e.package luma)).draw) ∧
    (∀ free, luma = 0 → energyPer free e.package luma = 0xFFFF) ∧
    ∀ free, luma ≠ 0 → e.package * 100000 / luma < 65536 → energyPer free e.package luma = e.package * 100000 / luma)

/-- Of R444, R446 and R449: a die whose sensor is present, with no neighbour to check it against, stands at its reading; it warns
from 108.0 °C until below 103.0 °C, and counts rounds at or above 132.0 °C. A die without a reading or an estimate is a
suspect at 150.0 °C.

Of R447: the ceiling rises to the rung whose entry temperature is reached, falls by one rung at 1.0 °C below the entry of the
rung it is at, and stays otherwise; it is never above 7. -/
def Obligations.DieReadings : Prop :=
  (∀ (t : Int) (up : Bool) (x : Die),
    ((judgeDie (some t) [] up x).temp = t ∧ (judgeDie (some t) [] up x).suspect = false ∧
      ((judgeDie (some t) [] up x).warn = true ↔ 1080 ≤ t ∨ (1030 ≤ t ∧ x.warn = true)) ∧
      (x.shut = false → (judgeDie (some t) [] up x).hot = if 1320 ≤ t then x.hot + 1 else 0)) ∧
    ((judgeDie none [] up x).temp = 1500 ∧ (judgeDie none [] up x).suspect = true ∧ (judgeDie none [] up x).warn = true)) ∧
  (∀ (c : Nat) (t : Int), c ≤ 7 → nextCeiling c t ≤ 7 ∧
    (∀ k : Nat, 1 ≤ k → k ≤ 7 → c < k → (k ≤ nextCeiling c t ↔ 1150 + 15 * ((k : Int) - 1) ≤ t)) ∧
    (1 ≤ c → t ≤ 1150 + 15 * ((c : Int) - 1) - 10 → nextCeiling c t = c - 1) ∧
    (1 ≤ c → 1150 + 15 * ((c : Int) - 1) - 10 < t → t < 1150 + 15 * (c : Int) → nextCeiling c t = c))

/-- Of R50, R51 and R455: when a margin falls below its target the rail is raised by one 10 mV step at once, the command waiting
for an answer; within 50 µs of its last step the step waits. A step down that waits is taken back instead. A rail whose steering
has stopped, and one at 0.80 V, are not raised. -/
def Obligations.MarginSteps : Prop :=
  ∀ (r : Nat) (x : Rail) (s : State), s.ump.on = true → r < 6 → s.ump.rails[r]? = some x →
    (x.noresp = false → s.railFree r = true → 0 ≤ x.steps → x.target + 10 ≤ 800 → 700 ≤ x.target + 10 →
      Completes (.marginComparator r) s (fun s => (s.modRail r (fun _ => { x with
        target := x.target + 10, last := some s.centre.xcount, cmd := some (.voltageWrite (x.target + 10)), tries := 0 })).avsPut
          r (.voltageWrite (x.target + 10)))) ∧
    (x.noresp = false → s.railFree r = true → x.steps = -1 ∨ 0 ≤ x.steps ∧ 800 < x.target + 10 →
      Completes (.marginComparator r) s (State.modRail r (fun _ => { x with steps := 0 }))) ∧
    (x.noresp = false → s.railFree r = false →
      Completes (.marginComparator r) s (State.modRail r (fun _ => { x with steps := x.steps + 1 }))) ∧
    (x.noresp = true → Completes (.marginComparator r) s id)

/-- Of R50, R51 and R454: the next step of a move of a rail is written 50 µs after the last, up or down, and none outside 0.70 to
0.80 V; an unanswered attempt goes out again twice, then steering stops with NORESP and an event; a rail that has stopped, or
that waits for no answer, has no timeout. (A bench unit that waits for its rail is looked at again.) -/
def Obligations.RailSteps : Prop :=
  ∀ (r : Nat) (s : State), s.ump.on = true →
    let x := s.rail r
    (∀ mv (d : Int), s.railFree r = true → x.noresp = false →
      0 < x.steps ∧ mv = x.target + 10 ∧ d = -1 ∨ x.steps < 0 ∧ mv = x.target - 10 ∧ d = 1 →
      700 ≤ mv → mv ≤ 800 → Completes (.avsStepDue r) s (fun s => ((s.modRail r (fun x => { x with
        target := mv, steps := x.steps + d, last := some s.centre.xcount })).modRail r (fun x => { x with
          cmd := some (.voltageWrite mv), tries := 0 })).avsPut r (.voltageWrite mv))) ∧
    (s.railFree r = true → x.noresp = true ∨ x.steps = 0 ∨ 0 < x.steps ∧ 800 < x.target + 10 ∨
      x.steps < 0 ∧ x.target - 10 < 700 → Completes (.avsStepDue r) s (State.modRail r (fun x => { x with steps := 0 }))) ∧
    (s.railFree r = false → Completes (.avsStepDue r) s id) ∧
    (∀ c, r < 6 → x.noresp = false → x.cmd = some c → x.tries < 2 →
      Completes (.avsTimeout r) s (fun s =>
        ((s.modRail r (fun x => { x with tries := x.tries + 1 })).avsPut r c).benchCheck)) ∧
    (∀ c, r < 6 → x.noresp = false → x.cmd = some c → 2 ≤ x.tries → Completes (.avsTimeout r) s (fun s =>
      ((s.modRail r (fun x => { x with noresp := true, steps := 0, cmd := none, tries := 0 })).post 0x0B05 .sup r 0).benchCheck)) ∧
    (x.noresp = true ∨ x.cmd = none → Completes (.avsTimeout r) s State.benchCheck) ∧
    (s.substBusy = false → s.benchCheck = s)

/-- Of R464, R467 and R469: CLEAR empties every slot and logs how many it emptied; when a second is over the entries it suppressed
are recorded; a read of SUP_STATUS0 latches the summary for its path and returns the first word.

Of R467: eight entries of a SOURCE and TYPE are logged in a second of the crystal; one beyond them is counted and leaves the
entries as they are. -/
def Obligations.LogCommands : Prop :=
  (∀ (p : Path) (src typ : Nat) (s : State), s.ump.on = true →
    (s.opens p (.hub 0x41134) → Completes (.logClear p) s (fun s =>
      (s.modUmp (fun u => { u with log := { u.log with entries := [] } })).logOnly 0x0E06 7 s.ump.log.entries.length 0)) ∧
    (s.ump.log.rates.find? (fun r => r.source == src && r.typ == typ) = none → Completes (.suppressed src typ) s id) ∧
    (∀ r, s.ump.log.rates.find? (fun r => r.source == src && r.typ == typ) = some r →
      s.centre.xcount / xSec ≤ r.second ∨ r.suppressed = 0 → Completes (.suppressed src typ) s id) ∧
    (∀ r, s.ump.log.rates.find? (fun r => r.source == src && r.typ == typ) = some r → r.second < s.centre.xcount / xSec →
      r.suppressed ≠ 0 → Completes (.suppressed src typ) s (fun s =>
        (s.logRaw 0x0E03 0xF 7 0 (typ + src * 2 ^ 16) r.suppressed).modUmp (fun u => { u with log := { u.log with
          rates := u.log.rates.map (fun x => if x.source == src && x.typ == typ then { x with suppressed := 0 } else x) } }))) ∧
    (s.opens p (.hub 0x44100) → Completes (.statusRead p) s (fun s =>
      (s.modUmp (fun u => { u with status := (p, s.summary) :: u.status.filter (fun e => e.1 != p) })).put
        (.readData (BitVec.ofNat 32 (wordOfNats s.summary 0)))))) ∧
  (∀ (typ src cls due a0 a1 : Nat) (r : LogRate) (s : State),
    s.ump.log.rates.find? (fun r => r.source == src && r.typ == typ && r.second == s.centre.xcount / xSec) = some r →
    (r.logged < 8 → (s.logAdd typ src cls due a0 a1).ump.log.entries = (s.logRaw typ src cls due a0 a1).ump.log.entries ∧
      { r with logged := r.logged + 1 } ∈ (s.logAdd typ src cls due a0 a1).ump.log.rates) ∧
    (8 ≤ r.logged → (s.logAdd typ src cls due a0 a1).ump.log.entries = s.ump.log.entries ∧
      { r with suppressed := r.suppressed + 1 } ∈ (s.logAdd typ src cls due a0 a1).ump.log.rates))

/-- R465: an entry is 32 bytes in little-endian order, goes into slot SEQ mod 1,024 over whatever was there, and every other slot
stays; one never written reads as zeros. -/
def Obligations.LogSlots : Prop :=
  ∀ (typ src cls due a0 a1 : Nat) (s : State), let t := s.logRaw typ src cls due a0 a1
    let entry := bytesLE 4 s.ump.log.next ++ bytesLE 2 typ ++ bytesLE 1 src ++ bytesLE 1 cls ++ bytesLE 8 s.centre.xcount ++
      bytesLE 4 due ++ bytesLE 4 (a0 % 2 ^ 32) ++ bytesLE 4 (a1 % 2 ^ 32) ++ bytesLE 2 s.ump.log.boot
    t.logSlot (s.ump.log.next % 1024) = entry ++ bytesLE 2 (crc16 entry) ∧
      t.ump.log.next = (s.ump.log.next + 1) % 2 ^ 32 ∧
      (∀ i < 1024, i ≠ s.ump.log.next % 1024 → t.logSlot i = s.logSlot i) ∧ (∀ i, (t.logSlot i).length = 32) ∧
      (∀ i, (s.ump.log.entries.all (fun e => e.seq % 1024 != i)) = true → s.logSlot i = List.replicate 32 0#8)

/-- Of R477: a bit of SUP_FAULT_STAT whose cause is still present is set again in the next housekeeping round. -/
def Obligations.FaultsReturn : Prop :=
  ∀ s : State, let t := s.faultsAgain
    (s.ump.dark = true → t.uget Reg.SUP_FAULT_STAT_POWER = 1) ∧
    ((∃ n < 5, (s.pw n).isolated = true) → t.uget Reg.SUP_FAULT_STAT_ISOLATED = 1) ∧
    (s.ump.dies.any (·.shut) = true → t.uget Reg.SUP_FAULT_STAT_THERM = 1) ∧
    ((∃ n < 5, s.running n = true ∧ (s.chan n).flag Reg.MEM_STAT_STORM = true) → t.uget Reg.SUP_FAULT_STAT_MEMORY = 1) ∧
    (s.ump.rails.any (·.noresp) = true → t.uget Reg.SUP_FAULT_STAT_AVS = 1) ∧
    (s.ump.dies.any (·.suspect) = true → t.uget Reg.SUP_FAULT_STAT_SENSOR = 1)
end

