-- ==== Sys2Proof/Laws/Store.lean ====
section
/-! SUPPORT. The sparse store: read after write, and the canonical form that every operation keeps (register files, HBM). -/

namespace Sys2Proof.Machine

variable {β : Type} {d : Nat → β}

theorem storeAbove_mono {k j : Nat} (h : k ≤ j) : ∀ {l : List (Nat × β)}, storeAbove j l = true → storeAbove k l = true
  | [], _ => rfl
  | (a, _) :: rest, hl => by
    simp only [storeAbove, Bool.and_eq_true, decide_eq_true_eq] at hl ⊢
    exact ⟨by omega, hl.2⟩

/-- An address below every listed one reads as the default. -/
theorem storeGet_below {k : Nat} : ∀ {l : List (Nat × β)}, storeAbove k l = true → storeGet d l k = d k
  | [], _ => rfl
  | (a, _) :: rest, h => by
    simp only [storeAbove, Bool.and_eq_true, decide_eq_true_eq] at h
    simp only [storeGet, if_neg (show k ≠ a by omega)]
    exact storeGet_below (storeAbove_mono (by omega) h.2)

theorem storeAbove_insert {k : Nat} {v : β} : ∀ {j : Nat} {l : List (Nat × β)}, j < k →
    storeAbove j l = true → storeAbove j (storeInsert l k v) = true
  | j, [], hj, _ => by simp [storeInsert, storeAbove, hj]
  | j, (a, _) :: rest, hj, h => by
    simp only [storeAbove, Bool.and_eq_true, decide_eq_true_eq] at h
    unfold storeInsert
    split
    · next hk => simp [storeAbove, hj, hk, h.2]
    · split
      · next hk => subst hk; simp [storeAbove, hj, h.2]
      · next h1 h2 =>
        simp only [storeAbove, Bool.and_eq_true, decide_eq_true_eq]
        exact ⟨h.1, storeAbove_insert (by omega) h.2⟩

theorem storeAbove_erase {k : Nat} :
    ∀ {j : Nat} {l : List (Nat × β)}, storeAbove j l = true → storeAbove j (storeErase l k) = true
  | _, [], _ => rfl
  | j, (a, _) :: rest, h => by
    simp only [storeAbove, Bool.and_eq_true, decide_eq_true_eq] at h
    unfold storeErase
    split
    · exact storeAbove_mono (by omega) h.2
    · simp [storeAbove, h.1, storeAbove_erase h.2]

theorem storeGet_insert (k j : Nat) (v : β) :
    ∀ l : List (Nat × β), storeGet d (storeInsert l k v) j = if j = k then v else storeGet d l j
  | [] => by simp [storeInsert, storeGet]
  | (a, w) :: rest => by
    unfold storeInsert
    split
    · simp [storeGet]
    · split
      · next h => subst h; by_cases hj : j = k <;> simp [storeGet, hj]
      · next h1 h2 =>
        simp only [storeGet, storeGet_insert k j v rest]
        by_cases hj : j = a
        · subst hj; simp [Ne.symm h2]
        · simp [hj]

theorem storeGet_erase (k j : Nat) [DecidableEq β] :
    ∀ {l : List (Nat × β)}, storeWf d l = true → storeGet d (storeErase l k) j = if j = k then d k else storeGet d l j
  | [], _ => by by_cases h : j = k <;> simp [storeErase, storeGet, h]
  | (a, w) :: rest, h => by
    simp only [storeWf, Bool.and_eq_true, decide_eq_true_eq] at h
    unfold storeErase
    by_cases hk : k = a
    · subst hk
      by_cases hj : j = k
      · subst hj; simp [storeGet_below h.1.2]
      · simp [storeGet, hj]
    · simp only [if_neg hk, storeGet, storeGet_erase k j h.2]
      by_cases hj : j = a
      · subst hj; simp [Ne.symm hk]
      · simp [hj]

/-- Read after write. -/
theorem storeGet_set [DecidableEq β] {l : List (Nat × β)} (h : storeWf d l = true) (k j : Nat) (v : β) :
    storeGet d (storeSet d l k v) j = if j = k then v else storeGet d l j := by
  unfold storeSet
  split
  · next hv => rw [storeGet_erase k j h, hv]
  · exact storeGet_insert k j v l

theorem storeWf_insert [DecidableEq β] {k : Nat} {v : β} (hv : v ≠ d k) :
    ∀ {l : List (Nat × β)}, storeWf d l = true → storeWf d (storeInsert l k v) = true
  | [], _ => by simp [storeInsert, storeWf, storeAbove, hv]
  | (a, w) :: rest, h => by
    have h' := h
    simp only [storeWf, Bool.and_eq_true, decide_eq_true_eq] at h
    unfold storeInsert
    split
    · next hk =>
      simp only [storeWf, Bool.and_eq_true, decide_eq_true_eq, storeAbove]
      exact ⟨⟨hv, hk, storeAbove_mono (by omega) h.1.2⟩, h⟩
    · split
      · next hk => subst hk; simp [storeWf, hv, h.1.2, h.2]
      · next h1 h2 =>
        simp only [storeWf, Bool.and_eq_true, decide_eq_true_eq]
        exact ⟨⟨h.1.1, storeAbove_insert (by omega) h.1.2⟩, storeWf_insert hv h.2⟩

theorem storeWf_erase [DecidableEq β] {k : Nat} :
    ∀ {l : List (Nat × β)}, storeWf d l = true → storeWf d (storeErase l k) = true
  | [], _ => rfl
  | (a, w) :: rest, h => by
    simp only [storeWf, Bool.and_eq_true, decide_eq_true_eq] at h
    unfold storeErase
    split
    · exact h.2
    · simp only [storeWf, Bool.and_eq_true, decide_eq_true_eq]
      exact ⟨⟨h.1.1, storeAbove_erase h.1.2⟩, storeWf_erase h.2⟩

/-- A write keeps the canonical form. -/
theorem storeWf_set [DecidableEq β] {l : List (Nat × β)} (h : storeWf d l = true) (k : Nat) (v : β) :
    storeWf d (storeSet d l k v) = true := by
  unfold storeSet
  split
  · exact storeWf_erase h
  · next hv => exact storeWf_insert hv h

/-- A write of a run of values keeps it. -/
theorem storeWf_put [DecidableEq β] : ∀ (vs : List β) (k : Nat) {l : List (Nat × β)},
    storeWf d l = true → storeWf d (storePut d l k vs) = true
  | [], _, _, h => h
  | v :: vs, k, _, h => storeWf_put vs (k + 1) (storeWf_set h k v)

/-- Read after the write of a run of values. -/
theorem storeGet_put [DecidableEq β] : ∀ (vs : List β) (k j : Nat) {l : List (Nat × β)}, storeWf d l = true →
    storeGet d (storePut d l k vs) j = if k ≤ j then (vs[j - k]?).getD (storeGet d l j) else storeGet d l j
  | [], k, j, l, _ => by by_cases h : k ≤ j <;> simp [storePut, h]
  | v :: vs, k, j, l, h => by
    rw [storePut, storeGet_put vs (k + 1) j (storeWf_set h k v), storeGet_set h]
    by_cases hj : j = k
    · subst hj; simp
    · by_cases hk : k ≤ j
      · have h1 : k + 1 ≤ j := by omega
        have h2 : j - k = (j - (k + 1)) + 1 := by omega
        simp [hj, hk, h1, h2]
      · simp [hj, hk, show ¬ k + 1 ≤ j by omega]

theorem storeAbove_filter (p : Nat × β → Bool) :
    ∀ {k : Nat} {l : List (Nat × β)}, storeAbove k l = true → storeAbove k (l.filter p) = true
  | _, [], _ => rfl
  | k, (a, w) :: rest, h => by
    simp only [storeAbove, Bool.and_eq_true, decide_eq_true_eq] at h
    rw [List.filter_cons]
    split
    · simp [storeAbove, h.1, storeAbove_filter p h.2]
    · exact storeAbove_filter p (storeAbove_mono (by omega) h.2)

/-- A reset of part of a store keeps the form. -/
theorem storeWf_filter [DecidableEq β] (p : Nat × β → Bool) :
    ∀ {l : List (Nat × β)}, storeWf d l = true → storeWf d (l.filter p) = true
  | [], _ => rfl
  | (a, w) :: rest, h => by
    simp only [storeWf, Bool.and_eq_true, decide_eq_true_eq] at h
    rw [List.filter_cons]
    split
    · simp only [storeWf, Bool.and_eq_true, decide_eq_true_eq]
      exact ⟨⟨h.1.1, storeAbove_filter p h.1.2⟩, storeWf_filter p h.2⟩
    · exact storeWf_filter p h.2

/-- The same of `storeKeep`. -/
theorem storeWf_keep [DecidableEq β] (p : Nat → Bool) {l : List (Nat × β)} (h : storeWf d l = true) :
    storeWf d (storeKeep p l) = true := storeWf_filter _ h

end Sys2Proof.Machine
end

