-- ==== Sys2Proof/Laws/Chan.lean ====
section
/-! SUPPORT. Fields of a unit's registers: what a set leaves of another word, and what the updates of a unit's parts leave
of its registers. -/

namespace Sys2Proof.Machine

/-- Erasing one address leaves what another reads as. -/
theorem storeGet_erase_ne {β : Type} {d : Nat → β} {k j : Nat} (h : j ≠ k) :
    ∀ l : List (Nat × β), storeGet d (storeErase l k) j = storeGet d l j
  | [] => rfl
  | (a, w) :: rest => by
    unfold storeErase
    split
    · next hk => simp [storeGet, hk ▸ h]
    · simp only [storeGet, storeGet_erase_ne h rest]

/-- A write leaves every other address alone. -/
theorem storeGet_set_ne {β : Type} [DecidableEq β] {d : Nat → β} {k j : Nat} (v : β) (h : j ≠ k) (l : List (Nat × β)) :
    storeGet d (storeSet d l k v) j = storeGet d l j := by
  unfold storeSet
  split
  · exact storeGet_erase_ne h l
  · rw [storeGet_insert, if_neg h]

/-- A field within one word. -/
def Fld.single (f : Fld) : Prop := f.lo + f.w ≤ 32

theorem Chan.get_set_ne {f g : Fld} (hf : f.lo + f.w ≤ 32) (hg : g.lo + g.w ≤ 32) (h : g.key ≠ f.key) (c : Chan)
    (v : Nat) : (c.set f v).get g = c.get g := by
  simp only [Chan.get, Chan.set, rfGet, rfSet, hf, hg, if_true, storeGet_set_ne _ h]

theorem Chan.flag_set_ne {f g : Fld} (hf : f.lo + f.w ≤ 32) (hg : g.lo + g.w ≤ 32) (h : g.key ≠ f.key) (c : Chan)
    (v : Nat) : (c.set f v).flag g = c.flag g := by
  simp only [Chan.flag, Chan.get_set_ne hf hg h]

theorem Chan.get_bump_ne {f g : Fld} (hf : f.lo + f.w ≤ 32) (hg : g.lo + g.w ≤ 32) (h : g.key ≠ f.key) (c : Chan)
    (v : Nat) : (c.bump f v).get g = c.get g := Chan.get_set_ne hf hg h c _

@[simp] theorem Chan.modLane_bank (c : Chan) (k : Nat) (f : Lane → Lane) : (c.modLane k f).bank = c.bank := rfl
@[simp] theorem Chan.modTim_bank (c : Chan) (f : Timing → Timing) : (c.modTim f).bank = c.bank := rfl
@[simp] theorem Chan.modPtp_bank (c : Chan) (f : Ptp → Ptp) : (c.modPtp f).bank = c.bank := rfl
@[simp] theorem Chan.modSide_bank (c : Chan) (j x : Nat) (f : AudSide → AudSide) : (c.modSide j x f).bank = c.bank := rfl
@[simp] theorem Chan.modProg_bank (c : Chan) (p : Nat) (f : Prog → Prog) : (c.modProg p f).bank = c.bank := rfl
@[simp] theorem Chan.emit_bank (c : Chan) (x : Signal) : (c.emit x).bank = c.bank := rfl
@[simp] theorem Chan.post_bank (c : Chan) (t : Nat) (b : Block) (x y : Nat) : (c.post t b x y).bank = c.bank := rfl
@[simp] theorem Chan.draw_bank (c : Chan) : c.draw.bank = c.bank := rfl

end Sys2Proof.Machine
end

