-- ==== Sys2Proof/Laws/Access.lean ====
section
/-! SUPPORT. What a write that a named register accepts, or discards, makes of the state. -/

namespace Sys2Proof.Machine

/-- The target lies in the hub, or in the window of a unit that is in RUN. -/
def State.open_ (s : State) : Site → Prop
  | .hub => True
  | .unit n => s.running n = true

def Site.target (x : Site) (off : Nat) : Target :=
  match x with
  | .hub => .hub off
  | .unit n => .unit n off

theorem State.writeTo_reg {s : State} {p : Path} {x : Site} {off : Nat} {v : Word} {b : Block} {page rep : Nat}
    {d : RegDef} (ha : s.arrives p = true) (hr : reaches p (x.target off) = true) (ho : s.open_ x)
    (hh : x.hit off = .reg b page rep 0 d) (hw : d.words = 1) :
    s.writeTo p (x.target off) v = s.storeReg x p b d page rep off off v.toNat v.toNat := by
  have h0 : s.regWriteAt x p off v.toNat = s.storeReg x p b d page rep off off v.toNat v.toNat := by
    simp [State.regWriteAt, hh, hw]
  cases x with
  | hub =>
    have hr' : reaches p (.hub off) = true := hr
    simpa [State.writeTo, ha, hr', State.writeAt, Site.target] using h0
  | unit n =>
    have : s.running n = true := ho
    have hr' : reaches p (.unit n off) = true := hr
    simpa [State.writeTo, ha, hr', State.writeAt, Site.target, this] using h0

/-- A write that passes every check (R93): the fields are stored, then the register acts. -/
theorem State.storeReg_accept {s : State} {x : Site} {p : Path} {b : Block} {d : RegDef} {page rep k off full v : Nat}
    (hf : (d.staged && s.frozen x) = false) (hc : fieldsCode d.fields d.staged full = 0)
    (hx : crossOk d.cross page rep full = true) (ho : s.ownerCode x d page rep full = 0) :
    s.storeReg x p b d page rep k off full v = State.act x d page rep off full
      (if d.fields.any (fun f => f.acc == .rw || f.acc == .w1c) then
        s.putReg x b d k (storeFields d.fields (fun _ => true) (s.regAt x b d k false) full) else s) := by
  simp [State.storeReg, hf, hc, hx, ho]

/-- A write that its owner discards. -/
theorem State.storeReg_refuse {s : State} {x : Site} {p : Path} {b : Block} {d : RegDef} {page rep k off full v : Nat}
    (hf : (d.staged && s.frozen x) = false) (hc : fieldsCode d.fields d.staged full = 0)
    (hx : crossOk d.cross page rep full = true) (ho : s.ownerCode x d page rep full ≠ 0) :
    s.storeReg x p b d page rep k off full v =
      (s.substRefused d full).discardAt x b (s.ownerCode x d page rep full) (x.pf off) p v := by
  simp [State.storeReg, hf, hc, hx, ho]

@[simp] theorem mergeBits_zero (a b : Word) : mergeBits 0 a b = b := by
  show (a &&& 0#32) ||| (b &&& ~~~(0#32)) = b
  rw [BitVec.and_zero, BitVec.zero_or, BitVec.not_zero, BitVec.and_allOnes]

/-- A write of a live one-word register of a unit in RUN that passes every check. -/
theorem State.writeTo_unit {s : State} {p : Path} {n off : Nat} {v : Word} {b : Block} {page rep : Nat} {d : RegDef}
    (ha : s.arrives p = true) (hr : reaches p (.unit n off) = true) (hrun : s.running n = true)
    (hh : unitHit off = .reg b page rep 0 d) (hw : d.words = 1) (hs : d.staged = false) (hm : stagedMask off = 0)
    (hc : fieldsCode d.fields false v.toNat = 0) (hx : crossOk d.cross page rep v.toNat = true)
    (ho : s.ownerCode (.unit n) d page rep v.toNat = 0) :
    s.writeTo p (.unit n off) v = State.act (.unit n) d page rep off v.toNat
      (if d.fields.any (fun f => f.acc == .rw || f.acc == .w1c) then
        s.modChan n (fun c => c.putWord off (BitVec.ofNat 32 (storeFields d.fields (fun _ => true)
          (storeGet Machine.unitReset (s.chan n).bank.regs off).toNat v.toNat))) else s) := by
  have h1 := State.writeTo_reg (s := s) (v := v) (x := .unit n) ha hr hrun hh hw
  have h2 : s.regAt (.unit n) b d off false = (storeGet Machine.unitReset (s.chan n).bank.regs off).toNat := by
    simp [State.regAt, hw, State.copyAt, Site.mask, hm, State.bankAt, Site.rst]
  rw [show s.writeTo p (.unit n off) v = s.writeTo p (Site.target (.unit n) off) v from rfl, h1,
    State.storeReg_accept (by rw [hs]; rfl) (by rw [hs]; exact hc) hx ho, h2]
  congr 1
  split
  · have h3 : ∀ w, s.putReg (.unit n) b d off w = s.modChan n (fun c => c.putWord off (BitVec.ofNat 32 w)) := by
      intro w
      simp only [State.putReg, hw, State.putAt, Site.mask, hm, State.modBankAt, State.modRun, hrun, if_true, mergeBits_zero,
        Site.rst]
      have : BitVec.ofNat 32 (w % 2 ^ 32) = BitVec.ofNat 32 w := by
        apply BitVec.eq_of_toNat_eq
        simp
      simp only [this, Nat.reduceEqDiff, if_false, Chan.putWord]
    exact h3 _
  · rfl

end Sys2Proof.Machine
end

