-- ==== Sys2Proof/Laws/State.lean ====
section
/-! SUPPORT. What each update of the state leaves alone: one lemma per part and update. -/

namespace Sys2Proof.Machine

@[simp] theorem State.modChan_pending (n : Nat) (f : Chan → Chan) (s : State) : (s.modChan n f).pending = s.pending := rfl
@[simp] theorem State.modChan_queues (n : Nat) (f : Chan → Chan) (s : State) : (s.modChan n f).queues = s.queues := rfl
@[simp] theorem State.modChan_power (n : Nat) (f : Chan → Chan) (s : State) : (s.modChan n f).power = s.power := rfl
@[simp] theorem State.modChan_centre (n : Nat) (f : Chan → Chan) (s : State) : (s.modChan n f).centre = s.centre := rfl

@[simp] theorem State.modHub_pending (f : Hub → Hub) (s : State) : (s.modHub f).pending = s.pending := rfl
@[simp] theorem State.modHub_units (f : Hub → Hub) (s : State) : (s.modHub f).units = s.units := rfl
@[simp] theorem State.modHub_queues (f : Hub → Hub) (s : State) : (s.modHub f).queues = s.queues := rfl
@[simp] theorem State.modHub_power (f : Hub → Hub) (s : State) : (s.modHub f).power = s.power := rfl

@[simp] theorem State.modUmp_pending (f : Umpire → Umpire) (s : State) : (s.modUmp f).pending = s.pending := rfl
@[simp] theorem State.modUmp_units (f : Umpire → Umpire) (s : State) : (s.modUmp f).units = s.units := rfl
@[simp] theorem State.modUmp_queues (f : Umpire → Umpire) (s : State) : (s.modUmp f).queues = s.queues := rfl
@[simp] theorem State.modUmp_power (f : Umpire → Umpire) (s : State) : (s.modUmp f).power = s.power := rfl

@[simp] theorem State.modSubst_pending (f : Subst → Subst) (s : State) : (s.modSubst f).pending = s.pending := rfl
@[simp] theorem State.modSubst_units (f : Subst → Subst) (s : State) : (s.modSubst f).units = s.units := rfl
@[simp] theorem State.modSubst_queues (f : Subst → Subst) (s : State) : (s.modSubst f).queues = s.queues := rfl
@[simp] theorem State.modSubst_centre (f : Subst → Subst) (s : State) : (s.modSubst f).centre = s.centre := rfl

@[simp] theorem State.put_pending (o : Output) (s : State) : (s.put o).pending = s.pending := rfl
@[simp] theorem State.put_units (o : Output) (s : State) : (s.put o).units = s.units := rfl
@[simp] theorem State.put_queues (o : Output) (s : State) : (s.put o).queues = s.queues := rfl
@[simp] theorem State.put_power (o : Output) (s : State) : (s.put o).power = s.power := rfl

@[simp] theorem State.draw_pending  (s : State) : (s.draw).pending = s.pending := rfl
@[simp] theorem State.draw_units  (s : State) : (s.draw).units = s.units := rfl
@[simp] theorem State.draw_queues  (s : State) : (s.draw).queues = s.queues := rfl
@[simp] theorem State.draw_power  (s : State) : (s.draw).power = s.power := rfl

@[simp] theorem State.modPower_pending (n : Nat) (f : UnitPower → UnitPower) (s : State) : (s.modPower n f).pending = s.pending := rfl
@[simp] theorem State.modPower_units (n : Nat) (f : UnitPower → UnitPower) (s : State) : (s.modPower n f).units = s.units := rfl
@[simp] theorem State.modPower_queues (n : Nat) (f : UnitPower → UnitPower) (s : State) : (s.modPower n f).queues = s.queues := rfl
@[simp] theorem State.modPower_centre (n : Nat) (f : UnitPower → UnitPower) (s : State) : (s.modPower n f).centre = s.centre := rfl

@[simp] theorem State.lower_pending (n : Nat) (park : Bool) (s : State) : (s.lower n park).pending = s.pending := rfl
@[simp] theorem State.lower_units (n : Nat) (park : Bool) (s : State) : (s.lower n park).units = s.units := rfl
@[simp] theorem State.lower_queues (n : Nat) (park : Bool) (s : State) : (s.lower n park).queues = s.queues := rfl
@[simp] theorem State.lower_centre (n : Nat) (park : Bool) (s : State) : (s.lower n park).centre = s.centre := rfl

@[simp] theorem State.hold_pending (n : Nat) (mv : Move) (s : State) : (s.hold n mv).pending = s.pending := rfl
@[simp] theorem State.hold_units (n : Nat) (mv : Move) (s : State) : (s.hold n mv).units = s.units := rfl
@[simp] theorem State.hold_queues (n : Nat) (mv : Move) (s : State) : (s.hold n mv).queues = s.queues := rfl
@[simp] theorem State.hold_centre (n : Nat) (mv : Move) (s : State) : (s.hold n mv).centre = s.centre := rfl

@[simp] theorem State.dequeue_pending (q : Nat) (s : State) : (s.dequeue q).pending = s.pending := rfl
@[simp] theorem State.dequeue_units (q : Nat) (s : State) : (s.dequeue q).units = s.units := rfl
@[simp] theorem State.dequeue_power (q : Nat) (s : State) : (s.dequeue q).power = s.power := rfl
@[simp] theorem State.dequeue_centre (q : Nat) (s : State) : (s.dequeue q).centre = s.centre := rfl

@[simp] theorem State.clearQueue_pending (q : Nat) (s : State) : (s.clearQueue q).pending = s.pending := rfl
@[simp] theorem State.clearQueue_units (q : Nat) (s : State) : (s.clearQueue q).units = s.units := rfl
@[simp] theorem State.clearQueue_power (q : Nat) (s : State) : (s.clearQueue q).power = s.power := rfl
@[simp] theorem State.clearQueue_centre (q : Nat) (s : State) : (s.clearQueue q).centre = s.centre := rfl

@[simp] theorem State.modHub_hub (f : Hub → Hub) (s : State) : (s.modHub f).hub = f s.hub := rfl
@[simp] theorem State.modHub_ump (f : Hub → Hub) (s : State) : (s.modHub f).ump = s.ump := rfl
@[simp] theorem State.modUmp_hub (f : Umpire → Umpire) (s : State) : (s.modUmp f).hub = s.hub := rfl
@[simp] theorem State.modUmp_ump (f : Umpire → Umpire) (s : State) : (s.modUmp f).ump = f s.ump := rfl
@[simp] theorem State.modSubst_subst (f : Subst → Subst) (s : State) : (s.modSubst f).subst = f s.subst := rfl
@[simp] theorem State.modSubst_powers (f : Subst → Subst) (s : State) :
    (s.modSubst f).power.units = s.power.units := rfl
@[simp] theorem State.modPower_subst (n : Nat) (f : UnitPower → UnitPower) (s : State) :
    (s.modPower n f).subst = s.subst := rfl
@[simp] theorem State.put_out (o : Output) (s : State) : (s.put o).centre.out = s.centre.out ++ [o] := rfl
@[simp] theorem State.put_hub (o : Output) (s : State) : (s.put o).hub = s.hub := rfl
@[simp] theorem State.put_ump (o : Output) (s : State) : (s.put o).ump = s.ump := rfl
@[simp] theorem State.put_xcount (o : Output) (s : State) : (s.put o).centre.xcount = s.centre.xcount := rfl
@[simp] theorem State.draw_hub (s : State) : s.draw.hub = s.hub := rfl
@[simp] theorem State.draw_ump (s : State) : s.draw.ump = s.ump := rfl
@[simp] theorem State.draw_free (s : State) : s.draw.centre.free = s.centre.free + 1 := rfl

/-- Two changes of the same unit are one. -/
theorem State.modChan_modChan (n : Nat) (f g : Chan → Chan) (s : State) :
    (s.modChan n f).modChan n g = s.modChan n (fun c => g (f c)) := by
  simp [State.modChan, List.modify_modify_eq, Function.comp_def]

/-- What a change makes of a unit depends on that unit alone. -/
theorem State.modChan_congr (n : Nat) (f g : Chan → Chan) (s : State) (h : f (s.chan n) = g (s.chan n)) :
    s.modChan n f = s.modChan n g := by
  have : s.units.modify n f = s.units.modify n g := by
    apply List.ext_getElem?
    intro i
    simp only [List.getElem?_modify]
    by_cases hi : n = i
    · subst hi
      cases hu : s.units[n]? with
      | none => simp
      | some c =>
        have : s.chan n = c := by simp [State.chan, List.getD, hu]
        simp [← this, h]
    · simp [hi]
  simp [State.modChan, this]

/-- A unit is what its change makes of it. -/
theorem State.modChan_chan (n : Nat) (f : Chan → Chan) (s : State) (h : n < s.units.length) :
    (s.modChan n f).chan n = f (s.chan n) := by
  simp [State.modChan, State.chan, List.getD, h]

/-- A change of one unit leaves every other alone. -/
theorem State.modChan_other (n m : Nat) (f : Chan → Chan) (s : State) (h : n ≠ m) :
    (s.modChan n f).chan m = s.chan m := by
  simp [State.modChan, State.chan, List.getD, h]

end Sys2Proof.Machine
end

