-- ==== Sys2Proof/Laws/Completes.lean ====
section
/-! SUPPORT. How a command completes: from what its meaning does to the state at hand. -/

namespace Sys2Proof.Machine

@[simp] theorem State.quiet_ump (s : State) : s.quiet.ump = s.ump := rfl
@[simp] theorem State.quiet_hub (s : State) : s.quiet.hub = s.hub := rfl
@[simp] theorem State.quiet_chan (s : State) (n : Nat) : s.quiet.chan n = s.chan n := rfl
@[simp] theorem State.quiet_power (s : State) : s.quiet.power = s.power := rfl
@[simp] theorem State.quiet_running (s : State) (n : Nat) : s.quiet.running n = s.running n := rfl
@[simp] theorem State.quiet_out (s : State) : s.quiet.centre.out = [] := rfl
@[simp] theorem State.quiet_quiet (s : State) : s.quiet.quiet = s.quiet := rfl

/-- What a command makes of a state depends on its own effect there alone. -/
theorem effect_congr {f g : State → State} {s : State} (h : f s.quiet = g s.quiet) : effect f s = effect g s := by
  simp [effect, h]

theorem runAlways_completes {c : Instr} {s : State} {f g : State → State} (hc : exec c s = runAlways f s)
    (h : f s.quiet = g s.quiet) : Completes c s g := by
  simp [Completes, hc, runAlways, effect_congr h]

theorem run_completes {c : Instr} {s : State} {f g : State → State} (hc : exec c s = run f s) (hon : s.ump.on = true)
    (h : f s.quiet = g s.quiet) : Completes c s g :=
  runAlways_completes hc (by simpa [hon] using h)

/-- While the umpire is without power nothing happens. -/
theorem run_off {s : State} {f : State → State} (hoff : s.ump.on = false) : run f s = .next s.quiet := by
  have h : effect (fun s => if s.ump.on then f s else s) s = s.quiet := by
    simp only [effect, State.quiet_ump, hoff, Bool.false_eq_true, if_false]
  simp only [run, runAlways, h]
  rfl

theorem unitOp_completes {c : Instr} {n : Nat} {s : State} {f g : Chan → Chan} (hc : exec c s = unitOp n f s)
    (hl : s.live n) (h : f (s.chan n) = g (s.chan n)) : CompletesIn c n s g := by
  refine run_completes hc hl.1 ?_
  simp only [State.modRun, State.quiet_running, hl.2, if_true]
  exact State.modChan_congr n f g s.quiet h

theorem unitOp_with {c : Instr} {n : Nat} {s : State} {f : Chan → Chan} {P : Chan → Prop}
    (hc : exec c s = unitOp n f s) (hl : s.live n) (h : P (f (s.chan n))) : CompletesWith c n s P :=
  ⟨f, unitOp_completes hc hl rfl, h⟩

end Sys2Proof.Machine
end

