-- ==== Sys2Proof/Laws/Inv.lean ====
section
/-! SUPPORT. The invariant of every step, kept by the few operations through which power states, the substitution and the
event queues change. -/

namespace Sys2Proof.Machine

/-- The invariant speaks of power states and queues alone. -/
theorem State.Inv.of_eq {s t : State} (h : s.Inv) (hp : t.power = s.power) (hq : t.queues = s.queues) : t.Inv := by
  have hu : t.upCount = s.upCount := by simp [State.upCount, State.pw, hp]
  have hs : t.subst = s.subst := by simp [State.subst, hp]
  exact ⟨hp ▸ h.five, hu ▸ h.four, hs ▸ h.src, hs ▸ h.dst, hs ▸ h.sel, hq ▸ h.full⟩

theorem State.inv_ite {p : Prop} [Decidable p] {s t : State} (hs : p → s.Inv) (ht : ¬ p → t.Inv) :
    (if p then s else t).Inv := by
  split
  · exact hs ‹_›
  · exact ht ‹_›

theorem forN_inv {n : Nat} {f : Nat → State → State} {s : State} (h : s.Inv)
    (hf : ∀ i < n, ∀ s, State.Inv s → (f i s).Inv) : (forN n f s).Inv := by
  have : ∀ (l : List Nat) (s : State), (∀ i ∈ l, i < n) → s.Inv → (l.foldl (fun y i => f i y) s).Inv := by
    intro l
    induction l with
    | nil => intro s _ h; exact h
    | cons a l ih =>
      intro s hl h
      exact ih _ (fun i hi => hl i (List.mem_cons_of_mem _ hi)) (hf a (hl a List.mem_cons_self) s h)
  exact this _ _ (fun i hi => List.mem_range.mp hi) h

theorem foldl_inv {α : Type} {f : State → α → State} {s : State} (l : List α) (h : s.Inv)
    (hf : ∀ a s, State.Inv s → (f s a).Inv) : (l.foldl f s).Inv := by
  induction l generalizing s with
  | nil => exact h
  | cons a l ih => exact ih (hf a s h)

/-! ### Units, hub and umpire -/

theorem State.modChan_inv {s : State} (h : s.Inv) (n : Nat) (f : Chan → Chan) : (s.modChan n f).Inv := h.of_eq rfl rfl
theorem State.modHub_inv {s : State} (h : s.Inv) (f : Hub → Hub) : (s.modHub f).Inv := h.of_eq rfl rfl
theorem State.modUmp_inv {s : State} (h : s.Inv) (f : Umpire → Umpire) : (s.modUmp f).Inv := h.of_eq rfl rfl
theorem State.put_inv {s : State} (h : s.Inv) (o : Output) : (s.put o).Inv := h.of_eq rfl rfl
theorem State.draw_inv {s : State} (h : s.Inv) : s.draw.Inv := h.of_eq rfl rfl

/-! ### Power states -/

theorem State.pw_modify (s : State) (n m : Nat) (g : UnitPower → UnitPower)
    (hu : (g (s.pw n)).up = (s.pw n).up) :
    ((s.power.units.modify n g).getD m {}).up = (s.pw m).up := by
  by_cases hnm : n = m
  · subst hnm
    cases hx : s.power.units[n]? with
    | none => simp [State.pw, List.getD, hx]
    | some u =>
      have : s.pw n = u := by simp [State.pw, List.getD, hx]
      simp [List.getD, hx, this ▸ hu, this]
  · simp [State.pw, List.getD, hnm]

theorem State.modPower_inv {s : State} (h : s.Inv) (n : Nat) (f : UnitPower → UnitPower) : (s.modPower n f).Inv := by
  refine ⟨by simpa [State.modPower] using h.five, ?_, h.src, h.dst, h.sel, h.full⟩
  have : (s.modPower n f).upCount = s.upCount := by
    unfold State.upCount
    congr 1
    apply List.filter_congr
    intro m _
    exact s.pw_modify n m _ (by simp [UnitPower.up])
  exact this ▸ h.four

/-- A unit that does not come up leaves at most as many up. -/
theorem State.upCount_modify_le (s : State) (n : Nat) (g : UnitPower → UnitPower)
    (hu : (g (s.pw n)).up = true → (s.pw n).up = true) :
    State.upCount { s with power := { s.power with units := s.power.units.modify n g } } ≤ s.upCount := by
  unfold State.upCount
  rw [← List.countP_eq_length_filter, ← List.countP_eq_length_filter]
  apply List.countP_mono_left
  intro m _ hm
  by_cases hnm : n = m
  · subst hnm
    cases hx : s.power.units[n]? with
    | none => simpa [State.pw, List.getD, hx] using hm
    | some u =>
      have hq : s.pw n = u := by simp [State.pw, List.getD, hx]
      have : (g u).up = true := by simpa [State.pw, List.getD, hx] using hm
      exact hu (hq ▸ this)
  · simpa [State.pw, List.getD, hnm] using hm

theorem State.lower_inv {s : State} (h : s.Inv) (n : Nat) (park : Bool) : (s.lower n park).Inv := by
  refine ⟨by simpa [State.lower] using h.five, Nat.le_trans ?_ h.four, h.src, h.dst, h.sel, h.full⟩
  exact s.upCount_modify_le n _ (by cases park <;> simp [UnitPower.up])

theorem State.hold_inv {s : State} (h : s.Inv) (n : Nat) (mv : Move) : (s.hold n mv).Inv := by
  refine ⟨by simpa [State.hold] using h.five, Nat.le_trans ?_ h.four, h.src, h.dst, h.sel, h.full⟩
  refine s.upCount_modify_le n _ ?_
  by_cases hu : (s.pw n).up = true <;> simp [hu]

theorem State.raise_inv {s : State} (h : s.Inv) (n : Nat) (st : Power) (mv : Move) : (s.raise n st mv).Inv := by
  unfold State.raise
  split
  · exact h
  · next ho =>
    refine ⟨by simpa using h.five, ?_, h.src, h.dst, h.sel, h.full⟩
    have hle : State.upCount { s with power := { s.power with units := s.power.units.modify n (fun u => { u with
        state := st, move := mv }) } } ≤ s.othersUp n + 1 := by
      unfold State.upCount State.othersUp
      have hsub : ∀ (l : List Nat) (p q : Nat → Bool), l.Nodup → (∀ m ∈ l, p m = true → m ≠ n → q m = true) →
          l.countP p ≤ l.countP (fun m => m != n && q m) + 1 := by
        intro l p q hd hpq
        have h1 : l.countP p ≤ l.countP (fun m => (m != n && q m) || m == n) := by
          apply List.countP_mono_left
          intro m hm hp
          by_cases he : m = n <;> simp_all
        have h2 : ∀ l : List Nat, l.countP (fun m => (m != n && q m) || m == n) ≤
            l.countP (fun m => m != n && q m) + l.count n := by
          intro l
          induction l with
          | nil => simp
          | cons a l ih =>
            by_cases he : a = n
            · subst he
              simp
              omega
            · simp only [List.countP_cons, List.count_cons, bne_iff_ne.mpr he, beq_eq_false_iff_ne.mpr he, Bool.true_and,
                Bool.or_false]
              split <;> simp <;> omega
        have h3 : l.count n ≤ 1 := List.nodup_iff_count.mp hd n
        have := h2 l
        omega
      rw [← List.countP_eq_length_filter, ← List.countP_eq_length_filter]
      refine hsub _ _ _ List.nodup_range ?_
      intro m _ hm hmn
      simpa [State.pw, List.getD, Ne.symm hmn] using hm
    omega

/-! ### The substitution -/

theorem State.modSubst_inv {s : State} (h : s.Inv) (f : Subst → Subst) (h1 : (f s.subst).src ≤ 4)
    (h2 : (f s.subst).dst ≤ 4) (h3 : (f s.subst).sel ≤ 4 ∨ (f s.subst).sel = 7) : (s.modSubst f).Inv :=
  ⟨h.five, h.four, h1, h2, h3, h.full⟩

theorem State.modSubst_keep {s : State} (h : s.Inv) (f : Subst → Subst)
    (hf : ∀ x, (f x).src = x.src ∧ (f x).dst = x.dst ∧ (f x).sel = x.sel) : (s.modSubst f).Inv :=
  State.modSubst_inv h f (by rw [(hf _).1]; exact h.src) (by rw [(hf _).2.1]; exact h.dst)
    (by rw [(hf _).2.2]; exact h.sel)

/-- A unit that is not COLD is one of the five. -/
theorem State.Inv.run_lt {s : State} (h : s.Inv) {n : Nat} (hr : (s.pw n).state ≠ .cold) : n < 5 := by
  rcases Nat.lt_or_ge n 5 with h5 | h5
  · exact h5
  · exact absurd (by simp [State.pw, List.getD, List.getElem?_eq_none (h.five ▸ h5)]) hr

theorem State.Inv.trained_lt {s : State} (h : s.Inv) {n : Nat} (hr : (s.pw n).trained = true) : n < 5 := by
  rcases Nat.lt_or_ge n 5 with h5 | h5
  · exact h5
  · simp [State.pw, List.getD, List.getElem?_eq_none (h.five ▸ h5)] at hr

/-! ### Event queues -/

theorem State.dequeue_inv {s : State} (h : s.Inv) (q : Nat) : (s.dequeue q).Inv := by
  refine ⟨h.five, h.four, h.src, h.dst, h.sel, ?_⟩
  intro e he
  obtain ⟨i, hi, rfl⟩ := List.mem_iff_getElem.mp he
  have hi' : i < s.queues.length := by simpa [State.dequeue] using hi
  have hold := h.full s.queues[i] (List.getElem_mem hi')
  simp only [State.dequeue, List.getElem_modify]
  split
  · simp only [List.length_drop]; omega
  · exact hold

theorem State.clearQueue_inv {s : State} (h : s.Inv) (q : Nat) : (s.clearQueue q).Inv := by
  refine ⟨h.five, h.four, h.src, h.dst, h.sel, ?_⟩
  intro e he
  rcases List.mem_or_eq_of_mem_set he with h' | h'
  · exact h.full e h'
  · subst h'; simp

theorem State.enqueue_inv {s : State} (h : s.Inv) (q : Nat) (r : EventRec) {drop : State → State}
    (hd : ∀ s, State.Inv s → (drop s).Inv) : (s.enqueue q r drop).Inv := by
  have hall : ∀ x : EventQueue, x.recs.length ≤ queueSize →
      State.Inv { s with queues := s.queues.set q x } := by
    intro x hx
    refine ⟨h.five, h.four, h.src, h.dst, h.sel, ?_⟩
    intro e he
    rcases List.mem_or_eq_of_mem_set he with h' | h'
    · exact h.full e h'
    · subst h'; exact hx
  have hold : (s.queues.getD q {}).recs.length ≤ queueSize := by
    rw [List.getD]
    cases hq : s.queues[q]? with
    | none => simp
    | some e => exact h.full e (List.mem_of_getElem? hq)
  unfold State.enqueue
  dsimp only
  split
  · next hlt =>
    apply hall
    simp only [List.length_append, List.length_cons, List.length_nil]
    omega
  · exact hd _ (hall _ hold)

end Sys2Proof.Machine
end

