-- ==== Sys2Proof/Laws/Keeps.lean ====
section
/-! SUPPORT. The invariant of every step, kept by each shared operation of the machine. -/

namespace Sys2Proof.Machine

theorem State.modRing_inv {s : State} (h : s.Inv) (i : Nat) (f : Ring → Ring) : (State.modRing i f s).Inv := by
  unfold State.modRing
  with_reducible repeat' first | assumption | intro _ | apply State.modHub_inv | split

theorem State.modQuench_inv {s : State} (h : s.Inv) (n : Nat) (f : Quench → Quench) : (State.modQuench n f s).Inv := by
  unfold State.modQuench
  with_reducible repeat' first | assumption | intro _ | apply State.modHub_inv | split

theorem State.modFn_inv {s : State} (h : s.Inv) (i : Nat) (f : Function → Function) : (State.modFn i f s).Inv := by
  unfold State.modFn
  with_reducible repeat' first | assumption | intro _ | apply State.modHub_inv | split

theorem State.modRail_inv {s : State} (h : s.Inv) (r : Nat) (f : Rail → Rail) : (State.modRail r f s).Inv := by
  unfold State.modRail
  with_reducible repeat' first | assumption | intro _ | apply State.modUmp_inv | split

theorem State.modDie_inv {s : State} (h : s.Inv) (d : Nat) (f : Die → Die) : (State.modDie d f s).Inv := by
  unfold State.modDie
  with_reducible repeat' first | assumption | intro _ | apply State.modUmp_inv | split

theorem State.modCards_inv {s : State} (h : s.Inv) (n : Nat) (f : Cards → Cards) : (State.modCards n f s).Inv := by
  unfold State.modCards
  with_reducible repeat' first | assumption | intro _ | apply State.modUmp_inv | split

theorem State.modMgt_inv {s : State} (h : s.Inv) (f : Mgt → Mgt) : (State.modMgt f s).Inv := by
  unfold State.modMgt
  with_reducible repeat' first | assumption | intro _ | apply State.modUmp_inv | split

theorem State.modBank_inv {s : State} (h : s.Inv) (b : Block) (f : RegBank → RegBank) : (State.modBank b f s).Inv := by
  unfold State.modBank
  with_reducible repeat' first | assumption | intro _ | apply State.modHub_inv | apply State.modUmp_inv | split

theorem State.aer_inv {s : State} (h : s.Inv) (f k : Nat) : (State.aer f k s).Inv := by
  unfold State.aer
  with_reducible repeat' first | assumption | intro _ | apply State.modFn_inv | split

theorem State.hset_inv {s : State} (h : s.Inv) (f : Fld) (v : Nat) : (State.hset f v s).Inv := by
  unfold State.hset
  with_reducible repeat' first | assumption | intro _ | apply State.modHub_inv | split

theorem State.uset_inv {s : State} (h : s.Inv) (f : Fld) (v : Nat) : (State.uset f v s).Inv := by
  unfold State.uset
  with_reducible repeat' first | assumption | intro _ | apply State.modUmp_inv | split

theorem State.hbump_inv {s : State} (h : s.Inv) (f : Fld) (n : Nat) : (State.hbump f n s).Inv := by
  unfold State.hbump
  with_reducible repeat' first | assumption | intro _ | apply State.hset_inv

theorem State.ubump_inv {s : State} (h : s.Inv) (f : Fld) (n : Nat) : (State.ubump f n s).Inv := by
  unfold State.ubump
  with_reducible repeat' first | assumption | intro _ | apply State.uset_inv

theorem State.bset_inv {s : State} (h : s.Inv) (b : Block) (f : Fld) (v : Nat) : (State.bset b f v s).Inv := by
  unfold State.bset
  with_reducible repeat' first | assumption | intro _ | apply State.modBank_inv | split

theorem State.setEntry_inv {s : State} (h : s.Inv) (k r i v : Nat) : (State.setEntry k r i v s).Inv := by
  unfold State.setEntry
  with_reducible repeat' first | assumption | intro _ | apply State.modHub_inv | split

theorem State.modRun_inv {s : State} (h : s.Inv) (n : Nat) (f : Chan → Chan) : (State.modRun n f s).Inv := by
  unfold State.modRun
  with_reducible repeat' first | assumption | intro _ | apply State.modChan_inv | split

theorem State.logRaw_inv {s : State} (h : s.Inv) (typ source cls due a0 a1 : Nat) : (State.logRaw typ source cls due a0 a1 s).Inv := by
  unfold State.logRaw
  dsimp only
  with_reducible repeat' first | assumption | intro _ | apply State.modUmp_inv | split

theorem State.logSuppressed_inv {s : State} (h : s.Inv) (source typ : Nat) : (State.logSuppressed source typ s).Inv := by
  unfold State.logSuppressed
  with_reducible repeat' first | assumption | intro _ | apply State.logRaw_inv | apply State.modUmp_inv | split

theorem State.logAdd_inv {s : State} (h : s.Inv) (typ source cls due a0 a1 : Nat) : (State.logAdd typ source cls due a0 a1 s).Inv := by
  unfold State.logAdd
  dsimp only
  with_reducible repeat' first
    | assumption | intro _ | apply State.logRaw_inv | apply State.logSuppressed_inv | apply State.modUmp_inv | split

theorem State.fault_inv {s : State} (h : s.Inv) (f : Fld) : (State.fault f s).Inv := by
  unfold State.fault
  with_reducible repeat' first | assumption | intro _ | apply State.uset_inv

theorem State.faultEvent_inv {s : State} (h : s.Inv) (typ source due a0 a1 role extra : Nat) : (State.faultEvent typ source due a0 a1 role extra s).Inv := by
  unfold State.faultEvent
  dsimp only
  with_reducible repeat' first | assumption | intro _ | apply State.fault_inv | apply State.logAdd_inv | split

theorem State.unitEvent_inv {s : State} (h : s.Inv) (n typ block a0 a1 : Nat) (all : Bool) : (State.unitEvent n typ block a0 a1 all s).Inv := by
  unfold State.unitEvent
  dsimp only
  with_reducible repeat' first
    | assumption | intro _ | apply State.enqueue_inv | apply State.faultEvent_inv | apply State.modChan_inv | split

theorem State.hubRecord_inv {s : State} (h : s.Inv) (typ : Nat) (b : Block) (a0 a1 : Nat) : (State.hubRecord typ b a0 a1 s).Inv := by
  unfold State.hubRecord
  dsimp only
  with_reducible repeat' first
    | assumption | intro _ | apply State.enqueue_inv | apply State.hbump_inv | apply State.hset_inv | split

theorem State.hubEvent_inv {s : State} (h : s.Inv) (typ : Nat) (b : Block) (a0 a1 : Nat) (all : Bool) : (State.hubEvent typ b a0 a1 all s).Inv := by
  unfold State.hubEvent
  dsimp only
  with_reducible repeat' first
    | assumption | intro _ | apply State.faultEvent_inv | apply State.hbump_inv | apply State.hubRecord_inv | split

theorem State.post_inv {s : State} (h : s.Inv) (typ : Nat) (b : Block) (a0 a1 : Nat) : (State.post typ b a0 a1 s).Inv := by
  unfold State.post
  with_reducible repeat' first | assumption | intro _ | apply State.hubEvent_inv

theorem State.hubErr_inv {s : State} (h : s.Inv) (b : Block) (code off path : Nat) : (State.hubErr b code off path s).Inv := by
  unfold State.hubErr
  dsimp only
  with_reducible repeat' first | assumption | intro _ | apply State.bset_inv | split

theorem State.discardHub_inv {s : State} (h : s.Inv) (b : Block) (code off path arg1 : Nat) : (State.discardHub b code off path arg1 s).Inv := by
  unfold State.discardHub
  dsimp only
  with_reducible repeat' first | assumption | intro _ | apply State.hubErr_inv | apply State.post_inv | split

theorem State.setRingWord_inv {s : State} (h : s.Inv) (i w v : Nat) : (State.setRingWord i w v s).Inv := by
  unfold State.setRingWord
  with_reducible repeat' first | assumption | intro _ | apply State.setEntry_inv

theorem State.signalVec_inv {s : State} (h : s.Inv) (f v : Nat) : (State.signalVec f v s).Inv := by
  unfold State.signalVec
  dsimp only
  with_reducible repeat' first | assumption | intro _ | apply State.modHub_inv | apply State.put_inv | split

theorem State.sendPending_inv {s : State} (h : s.Inv) (f : Nat) : (State.sendPending f s).Inv := by
  unfold State.sendPending
  dsimp only
  with_reducible repeat' first
    | assumption | intro _ | apply foldl_inv | apply State.modHub_inv | apply State.signalVec_inv | split

theorem State.signal_inv {s : State} (h : s.Inv) (n : Option Nat) (v : Nat) : (State.signal n v s).Inv := by
  unfold State.signal
  with_reducible repeat' first | assumption | intro _ | apply State.signalVec_inv | split

theorem State.interrupts_inv {s : State} (h : s.Inv) : (State.interrupts s).Inv := by
  unfold State.interrupts
  dsimp only
  with_reducible repeat' first
    | assumption | intro _ | apply foldl_inv | apply State.modHub_inv | apply State.signal_inv | split

theorem State.mgtSignal_inv {s : State} (h : s.Inv) (mdb : Nat) : (State.mgtSignal mdb s).Inv := by
  unfold State.mgtSignal
  with_reducible repeat' first | assumption | intro _ | apply State.modMgt_inv | apply State.put_inv | split

theorem State.finish_inv {s : State} (h : s.Inv) (before : State) : (State.finish before s).Inv := by
  unfold State.finish
  dsimp only
  with_reducible repeat' first | assumption | intro _ | apply State.interrupts_inv | apply State.mgtSignal_inv | split

theorem State.signalRing_inv {s : State} (h : s.Inv) (i : Nat) : (State.signalRing i s).Inv := by
  unfold State.signalRing
  with_reducible repeat' first | assumption | intro _ | apply State.signal_inv | split

theorem State.moderate_inv {s : State} (h : s.Inv) (i : Nat) : (State.moderate i s).Inv := by
  unfold State.moderate
  dsimp only
  with_reducible repeat' first | assumption | intro _ | apply State.modRing_inv | apply State.signalRing_inv | split

theorem State.ringDrop_inv {s : State} (h : s.Inv) (i : Nat) (bytes : List Byte) : (State.ringDrop i bytes s).Inv := by
  unfold State.ringDrop
  dsimp only
  with_reducible repeat' first | assumption | intro _ | apply State.modRun_inv | apply State.setRingWord_inv | split

theorem State.dropWaiting_inv {s : State} (h : s.Inv) (i : Nat) : (State.dropWaiting i s).Inv := by
  unfold State.dropWaiting
  dsimp only
  with_reducible repeat' first
    | assumption | intro _ | apply foldl_inv | apply State.modRing_inv | apply State.ringDrop_inv | split

theorem State.ringRecord_inv {s : State} (h : s.Inv) (i : Nat) (bytes : List Byte) : (State.ringRecord i bytes s).Inv := by
  unfold State.ringRecord
  dsimp only
  with_reducible repeat' first
    | assumption | intro _ | apply State.modRing_inv | apply State.modRun_inv | apply State.ringDrop_inv | split

theorem State.dmaData_inv {s : State} (h : s.Inv) (i addr : Nat) (bytes : List Byte) : (State.dmaData i addr bytes s).Inv := by
  unfold State.dmaData
  dsimp only
  with_reducible repeat' first | assumption | intro _ | apply foldl_inv | apply State.put_inv | split

theorem State.ringLanded_inv {s : State} (h : s.Inv) (i : Nat) : (State.ringLanded i s).Inv := by
  unfold State.ringLanded
  dsimp only
  with_reducible repeat' first | assumption | intro _ | apply State.modRun_inv | split

theorem State.ringComplete_inv {s : State} (h : s.Inv) (i : Nat) (d : Descr) (status len : Nat) (bytes : List Byte) : (State.ringComplete i d status len bytes s).Inv := by
  unfold State.ringComplete
  dsimp only
  with_reducible repeat' first
    | assumption | intro _ | apply State.hset_inv | apply State.modRing_inv | apply State.moderate_inv
    | apply State.put_inv | apply State.dmaData_inv | apply State.setRingWord_inv | split

theorem State.ringReadyWith_inv {s : State} (h : s.Inv) (i : Nat) (d : Descr) (status len : Nat) (bytes : List Byte) : (State.ringReadyWith i d status len bytes s).Inv := by
  unfold State.ringReadyWith
  with_reducible repeat' first | assumption | intro _ | apply State.modRing_inv | split

theorem State.dmaAsk_inv {s : State} (h : s.Inv) (i : Nat) (d : Descr) (l addr n : Nat) (got : List Byte) : (State.dmaAsk i d l addr n got s).Inv := by
  unfold State.dmaAsk
  dsimp only
  with_reducible repeat' first | assumption | intro _ | apply State.put_inv | apply State.modRing_inv | split

theorem State.fetchLine_inv {s : State} (h : s.Inv) (i : Nat) (d : Descr) (l : Nat) : (State.fetchLine i d l s).Inv := by
  unfold State.fetchLine
  with_reducible repeat' first | assumption | intro _ | apply State.dmaAsk_inv | apply State.modRing_inv | apply State.put_inv | split

theorem State.judge_inv {s : State} (h : s.Inv) (i : Nat) (d : Descr) (f pi : Nat) : (State.judge i d f pi s).Inv := by
  unfold State.judge
  dsimp only
  with_reducible repeat' first
    | assumption | intro _ | apply State.fetchLine_inv | apply State.modRing_inv | apply State.modRun_inv
    | apply State.ringReadyWith_inv | split

theorem State.take_inv {s : State} (h : s.Inv) (n src f : Nat) : (State.take n src f s).Inv := by
  unfold State.take
  dsimp only
  with_reducible repeat' first
    | assumption | intro _ | apply State.hold_inv | apply State.judge_inv | apply State.modRing_inv | split

theorem State.unbind_inv {s : State} (h : s.Inv) (i : Nat) : (State.unbind i s).Inv := by
  unfold State.unbind
  dsimp only
  with_reducible repeat' first | assumption | intro _ | apply State.ringDrop_inv | apply State.modRing_inv | split

theorem State.serve_inv {s : State} (h : s.Inv) (i : Nat) : (State.serve i s).Inv := by
  unfold State.serve
  dsimp only
  with_reducible repeat' first
    | assumption | intro _ | apply State.fetchLine_inv | apply State.hold_inv | apply State.judge_inv
    | apply State.modRing_inv | apply State.put_inv | apply State.ringDrop_inv | apply State.unbind_inv | apply State.dmaAsk_inv
    | apply State.ringLanded_inv | apply State.ringReadyWith_inv | split

theorem State.pump_inv {s : State} (h : s.Inv) (i : Nat) : (State.pump i s).Inv := by
  unfold State.pump
  with_reducible repeat' first
    | assumption | intro _ | apply State.modRing_inv | apply State.put_inv | apply State.serve_inv | split

theorem State.imgPump_inv {s : State} (h : s.Inv) : (State.imgPump s).Inv := by
  unfold State.imgPump
  dsimp only
  with_reducible repeat' first | assumption | intro _ | apply State.put_inv | apply State.modUmp_inv | split

theorem State.imgAbandon_inv {s : State} (h : s.Inv) : (State.imgAbandon s).Inv := by
  unfold State.imgAbandon
  with_reducible repeat' first | assumption | intro _ | apply State.modUmp_inv | split

theorem State.imgReply_inv {s : State} (h : s.Inv) (r : ReadReply) : (State.imgReply r s).Inv := by
  unfold State.imgReply
  dsimp only
  with_reducible repeat' first | assumption | intro _ | apply State.hset_inv | apply State.modUmp_inv | apply State.aer_inv | split

theorem State.pumpAll_inv {s : State} (h : s.Inv) : (State.pumpAll s).Inv := by
  unfold State.pumpAll
  with_reducible repeat' first | assumption | intro _ | apply State.imgPump_inv | apply foldl_inv | apply State.pump_inv | split

theorem State.dmaInput_inv {s : State} (h : s.Inv) (i : Nat) : (State.dmaInput i s).Inv := by
  unfold State.dmaInput
  with_reducible repeat' first | assumption | intro _ | apply State.hubErr_inv

theorem State.completeNext_inv {s : State} (h : s.Inv) (i : Nat) : (State.completeNext i s).Inv := by
  unfold State.completeNext
  with_reducible repeat' first | assumption | intro _ | apply State.ringComplete_inv | split

theorem State.readData_inv {s : State} (h : s.Inv) (i : Nat) (d : Descr) (l : Nat) (got bs : List Byte) : (State.readData i d l got bs s).Inv := by
  unfold State.readData
  dsimp only
  with_reducible repeat' first | assumption | intro _ | apply State.dmaAsk_inv | apply State.ringReadyWith_inv | apply State.fetchLine_inv | apply State.modRun_inv | split

theorem State.fetchFailed_inv {s : State} (h : s.Inv) (i : Nat) : (State.fetchFailed i s).Inv := by
  unfold State.fetchFailed
  dsimp only
  with_reducible repeat' first | assumption | intro _ | apply State.dmaInput_inv | apply State.dropWaiting_inv | apply State.modRing_inv | apply State.setRingWord_inv | split

theorem State.readReply_inv {s : State} (h : s.Inv) (i : Nat) (r : ReadReply) : (State.readReply i r s).Inv := by
  unfold State.readReply
  dsimp only
  with_reducible repeat' first
    | assumption | intro _ | apply State.imgReply_inv | apply State.aer_inv | apply State.readData_inv | apply State.fetchFailed_inv
    | apply State.modRing_inv | apply State.ringReadyWith_inv | apply State.serve_inv | split

theorem State.readTimeout_inv {s : State} (h : s.Inv) (i : Nat) : (State.readTimeout i s).Inv := by
  unfold State.readTimeout
  with_reducible repeat' first
    | assumption | intro _ | apply State.aer_inv | apply State.imgReply_inv | apply State.fetchFailed_inv
    | apply State.ringReadyWith_inv | split

theorem State.ringStop_inv {s : State} (h : s.Inv) (i status : Nat) : (State.ringStop i status s).Inv := by
  unfold State.ringStop
  dsimp only
  with_reducible repeat' first
    | assumption | intro _ | apply State.dropWaiting_inv | apply State.judge_inv | apply State.modRing_inv
    | apply State.ringComplete_inv | apply State.ringDrop_inv | split

theorem State.deliver_inv {s : State} (h : s.Inv) (q : Nat) : (State.deliver q s).Inv := by
  unfold State.deliver
  dsimp only
  with_reducible repeat' first
    | assumption | intro _ | apply State.dequeue_inv | apply State.hold_inv | apply State.ringComplete_inv | split

theorem State.ringStart_inv {s : State} (h : s.Inv) (i : Nat) : (State.ringStart i s).Inv := by
  unfold State.ringStart
  with_reducible repeat' first
    | assumption | intro _ | apply State.hset_inv | apply State.modRing_inv | apply State.setRingWord_inv | split

theorem State.ringHalt_inv {s : State} (h : s.Inv) (i : Nat) : (State.ringHalt i s).Inv := by
  unfold State.ringHalt
  with_reducible repeat' first | assumption | intro _ | apply State.modRing_inv | apply State.ringStop_inv | split

theorem State.quenchStop_inv {s : State} (h : s.Inv) (n ns : Nat) : (State.quenchStop n ns s).Inv := by
  unfold State.quenchStop
  dsimp only
  with_reducible repeat' first
    | assumption | intro _ | apply foldl_inv | apply State.modQuench_inv | apply State.post_inv
    | apply State.ringStop_inv | split

theorem State.quenchStart_inv {s : State} (h : s.Inv) (n : Nat) (own : Bool) : (State.quenchStart n own s).Inv := by
  unfold State.quenchStart
  dsimp only
  with_reducible repeat' first | assumption | intro _ | apply State.modQuench_inv | apply State.quenchStop_inv | split

theorem State.quenchResume_inv {s : State} (h : s.Inv) (n : Nat) : (State.quenchResume n s).Inv := by
  unfold State.quenchResume
  dsimp only
  with_reducible repeat' first | assumption | intro _ | apply State.modQuench_inv | split

theorem State.avsPut_inv {s : State} (h : s.Inv) (r : Nat) (c : AvsCmd) : (State.avsPut r c s).Inv := by
  unfold State.avsPut
  with_reducible repeat' first | assumption | intro _ | apply State.put_inv | split

theorem State.avsBegin_inv {s : State} (h : s.Inv) (r : Nat) (c : AvsCmd) : (State.avsBegin r c s).Inv := by
  unfold State.avsBegin
  with_reducible repeat' first | assumption | intro _ | apply State.avsPut_inv | apply State.modRail_inv | split

theorem State.avsAnswer_inv {s : State} (h : s.Inv) (r : Nat) : (State.avsAnswer r s).Inv := by
  unfold State.avsAnswer
  with_reducible repeat' first | assumption | intro _ | apply State.modRail_inv | split

theorem State.railStep_inv {s : State} (h : s.Inv) (r : Nat) : (State.railStep r s).Inv := by
  unfold State.railStep
  dsimp only
  with_reducible repeat' first | assumption | intro _ | apply State.modRail_inv | apply State.avsBegin_inv | split

theorem State.railMove_inv {s : State} (h : s.Inv) (r : Nat) (n : Int) : (State.railMove r n s).Inv := by
  unfold State.railMove
  dsimp only
  with_reducible repeat' first | assumption | intro _ | apply State.modRail_inv | apply State.railStep_inv | split

theorem State.railHome_inv {s : State} (h : s.Inv) (n : Nat) : (State.railHome n s).Inv := by
  unfold State.railHome
  with_reducible repeat' first | assumption | intro _ | apply State.railMove_inv

theorem State.railAdd_inv {s : State} (h : s.Inv) (r : Nat) (n : Int) : (State.railAdd r n s).Inv := by
  unfold State.railAdd
  with_reducible repeat' first | assumption | intro _ | apply State.railMove_inv

theorem State.railTimeout_inv {s : State} (h : s.Inv) (r : Nat) : (State.railTimeout r s).Inv := by
  unfold State.railTimeout
  dsimp only
  with_reducible repeat' first | assumption | intro _ | apply State.avsPut_inv | apply State.modRail_inv | apply State.post_inv | split

theorem State.unitReset_inv {s : State} (h : s.Inv) (n keep : Nat) : (State.unitReset n keep s).Inv := by
  unfold State.unitReset
  dsimp only
  with_reducible repeat' first
    | assumption | intro _ | apply foldl_inv | apply State.put_inv | apply State.modPower_inv | apply State.clearQueue_inv | apply State.modChan_inv | apply State.modUmp_inv | split

theorem State.offAir_inv {s : State} (h : s.Inv) (n : Nat) : (State.offAir n s).Inv := by
  unfold State.offAir
  with_reducible repeat' first | assumption | intro _ | apply State.fault_inv | split

theorem State.train_inv {s : State} (h : s.Inv) (n : Nat) : (State.train n s).Inv := by
  unfold State.train
  with_reducible repeat' first | assumption | intro _ | apply State.modPower_inv | split

theorem State.stopQuench_inv {s : State} (h : s.Inv) (n : Nat) : (State.stopQuench n s).Inv := by
  unfold State.stopQuench
  dsimp only
  with_reducible repeat' first | assumption | intro _ | apply State.draw_inv | apply State.quenchStop_inv | apply State.quenchStart_inv | split

theorem State.stopUnit_inv {s : State} (h : s.Inv) (n : Nat) (park : Bool) (cause : Nat) : (State.stopUnit n park cause s).Inv := by
  unfold State.stopUnit
  dsimp only
  with_reducible repeat' first
    | assumption | intro _ | apply State.hold_inv | apply State.lower_inv | apply State.modChan_inv
    | apply State.modPower_inv | apply State.stopQuench_inv | apply State.unitReset_inv | split

theorem State.logOnly_inv {s : State} (h : s.Inv) (typ cls a0 a1 : Nat) : (State.logOnly typ cls a0 a1 s).Inv := by
  unfold State.logOnly
  with_reducible repeat' first | assumption | intro _ | apply State.logAdd_inv

theorem State.forceStep_inv {s : State} (h : s.Inv) (n k : Nat) : (State.forceStep n k s).Inv := by
  unfold State.forceStep
  with_reducible repeat' first | assumption | intro _ | apply State.logOnly_inv | apply State.modPower_inv | split

theorem State.parkLost_inv {s : State} (h : s.Inv) (n : Nat) : (State.parkLost n s).Inv := by
  unfold State.parkLost
  with_reducible repeat' first
    | assumption | intro _ | apply State.hold_inv | apply State.logOnly_inv | apply State.modPower_inv
    | apply State.unitReset_inv | split

theorem State.parkFailed_inv {s : State} (h : s.Inv) (n : Nat) : (State.parkFailed n s).Inv := by
  unfold State.parkFailed
  with_reducible repeat' first | assumption | intro _ | apply State.parkLost_inv | split

theorem State.stopDone_inv {s : State} (h : s.Inv) (n : Nat) : (State.stopDone n s).Inv := by
  unfold State.stopDone
  dsimp only
  with_reducible repeat' first
    | assumption | intro _ | apply State.draw_inv | apply State.lower_inv | apply State.modQuench_inv
    | apply State.parkLost_inv | apply State.quenchStop_inv | apply State.railHome_inv | split

theorem State.gate_inv {s : State} (h : s.Inv) (n cause : Nat) : (State.gate n cause s).Inv := by
  unfold State.gate
  dsimp only
  with_reducible repeat' first
    | assumption | intro _ | apply State.lower_inv | apply State.modPower_inv | apply State.modQuench_inv
    | apply State.railHome_inv | apply State.unitReset_inv | split

theorem State.beginStart_inv {s : State} (h : s.Inv) (n : Nat) (run : Bool) : (State.beginStart n run s).Inv := by
  unfold State.beginStart
  dsimp only
  with_reducible repeat' first | assumption | intro _ | apply State.modPower_inv | apply State.raise_inv | split

theorem State.actPower_inv {s : State} (h : s.Inv) (n req : Nat) : (State.actPower n req s).Inv := by
  unfold State.actPower
  dsimp only
  with_reducible repeat' first
    | assumption | intro _ | apply State.beginStart_inv | apply State.hold_inv | apply State.modPower_inv
    | apply State.offAir_inv | apply State.raise_inv | apply State.stopUnit_inv | apply State.unitReset_inv | split

theorem State.actRequest_inv {s : State} (h : s.Inv) (n req : Nat) : (State.actRequest n req s).Inv := by
  unfold State.actRequest
  with_reducible repeat' first | assumption | intro _ | apply State.actPower_inv | split

theorem State.request_inv {s : State} (h : s.Inv) (n req keep : Nat) : (State.request n req keep s).Inv := by
  unfold State.request
  with_reducible repeat' first
    | assumption | intro _ | apply State.actRequest_inv | apply State.modPower_inv | apply State.train_inv | split

theorem State.takeUp_inv {s : State} (h : s.Inv) (n : Nat) : (State.takeUp n s).Inv := by
  unfold State.takeUp
  dsimp only
  with_reducible repeat' first
    | assumption | intro _ | apply State.actRequest_inv | apply State.discardHub_inv | apply State.modPower_inv
    | split

theorem State.enterRun_inv {s : State} (h : s.Inv) (n : Nat) : (State.enterRun n s).Inv := by
  unfold State.enterRun
  dsimp only
  with_reducible repeat' first
    | assumption | intro _ | apply State.modChan_inv | apply State.modPower_inv | apply State.modUmp_inv
    | apply State.raise_inv | split

theorem State.imageBad_inv {s : State} (h : s.Inv) (n : Nat) : (State.imageBad n s).Inv := by
  unfold State.imageBad
  with_reducible repeat' first
    | assumption | intro _ | apply State.hubErr_inv | apply State.post_inv | apply State.raise_inv

theorem State.trainingBad_inv {s : State} (h : s.Inv) (n : Nat) (run : Bool) : (State.trainingBad n run s).Inv := by
  unfold State.trainingBad
  dsimp only
  with_reducible repeat' first
    | assumption | intro _ | apply State.draw_inv | apply State.logOnly_inv | apply State.lower_inv
    | apply State.modPower_inv | apply State.railHome_inv | apply State.train_inv | apply State.unitReset_inv | split

theorem State.unitsCold_inv {s : State} (h : s.Inv) : (State.unitsCold s).Inv := by
  unfold State.unitsCold
  with_reducible repeat' first
    | assumption | intro _ | apply forN_inv | apply State.gate_inv | apply State.modPower_inv | apply State.offAir_inv
    | split | omega

theorem State.imgLost_inv {s : State} (h : s.Inv) : (State.imgLost s).Inv := by
  unfold State.imgLost
  with_reducible repeat' first | assumption | intro _ | apply State.modUmp_inv | split

/-- Dropping the bench: SRC and DST stand, SEL is 111. -/
theorem State.modSubst_seven {s : State} (h : s.Inv) (f : Subst → Subst)
    (hf : ∀ x, (f x).src = x.src ∧ (f x).dst = x.dst ∧ (f x).sel = 7) : (s.modSubst f).Inv :=
  State.modSubst_inv h f (by rw [(hf _).1]; exact h.src) (by rw [(hf _).2.1]; exact h.dst) (.inr (hf _).2.2)

theorem State.deviceReset_inv {s : State} (h : s.Inv) (link : Nat) : (State.deviceReset link s).Inv := by
  unfold State.deviceReset
  dsimp only
  refine State.modSubst_seven ?_ _ (fun _ => ⟨rfl, rfl, rfl⟩)
  refine State.uset_inv (State.uset_inv (State.clearQueue_inv (State.modHub_inv ?_ _) _) _ _) _ _
  exact State.unitsCold_inv (State.imgLost_inv (State.modUmp_inv h _))

theorem State.hubOff_inv {s : State} (h : s.Inv) (cause link : Nat) : (State.hubOff cause link s).Inv := by
  unfold State.hubOff
  with_reducible repeat' first
    | assumption | intro _ | apply State.deviceReset_inv | apply State.fault_inv | apply State.logOnly_inv
    | apply State.modUmp_inv | split

theorem State.showBench_inv {s : State} (h : s.Inv) : (State.showBench s).Inv := by
  unfold State.showBench
  refine State.modSubst_inv h _ ?_ ?_ ?_
  · split <;> exact h.src
  · split <;> exact h.dst
  · split
    · next hb =>
      simp only [Bool.and_eq_true] at hb
      have := h.trained_lt hb.2
      left; show s.subst.bench ≤ 4; omega
    · exact h.sel

theorem State.linkReset_inv {s : State} (h : s.Inv) : (State.linkReset s).Inv := by
  unfold State.linkReset
  dsimp only
  with_reducible repeat' first
    | assumption | intro _ | apply foldl_inv | apply State.dropWaiting_inv | apply State.modHub_inv | apply State.imgLost_inv
    | apply State.uset_inv | split

theorem State.functionReset_inv {s : State} (h : s.Inv) (n : Nat) : (State.functionReset n s).Inv := by
  unfold State.functionReset
  dsimp only
  with_reducible repeat' first
    | assumption | intro _ | apply foldl_inv | apply State.dropWaiting_inv | apply State.modHub_inv | split

theorem State.auxReset_inv {s : State} (h : s.Inv) (straps : Straps) (kept : Option KeptRecords) :
    (State.auxReset straps kept s).Inv := by
  unfold State.auxReset
  apply State.deviceReset_inv
  apply forN_inv
  · have h1 : ∀ t : State, t.Inv → State.Inv { t with power := { t.power with subst := {} } } := fun t ht =>
      ⟨ht.five, ht.four, Nat.zero_le 4, Nat.zero_le 4, .inr rfl, ht.full⟩
    have h2 : ∀ (t : State) x, t.Inv → State.Inv { t with centre := { t.centre with xcount := x } } :=
      fun t _ ht => ht.of_eq rfl rfl
    cases kept with
    | none => exact h1 _ (h2 _ _ (State.modUmp_inv h _))
    | some k => exact State.logOnly_inv (h1 _ (h2 _ _ (State.modUmp_inv h _))) _ _ _ _
  · intro i _ t ht
    exact State.modPower_inv ht _ _

theorem State.substNot_inv {s : State} (h : s.Inv) (n trig reason : Nat) : (State.substNot n trig reason s).Inv := by
  unfold State.substNot
  with_reducible repeat' first
    | assumption | intro _ | apply State.modSubst_keep | apply State.post_inv | exact ⟨rfl, rfl, rfl⟩ | split

theorem State.cardOffAir_inv {s : State} (h : s.Inv) (k : Option Scorecard) : (State.cardOffAir k s).Inv := by
  unfold State.cardOffAir
  with_reducible repeat' first | assumption | intro _ | apply State.fault_inv | split

theorem State.startBench_inv {s : State} (h : s.Inv) : (State.startBench s).Inv := by
  unfold State.startBench
  dsimp only
  with_reducible repeat' first | assumption | intro _ | apply State.beginStart_inv | apply State.train_inv | split

theorem State.routeBench_inv {s : State} (h : s.Inv) : (State.routeBench s).Inv := by
  unfold State.routeBench
  dsimp only
  repeat' split
  · exact State.startBench_inv (State.modSubst_inv h _ h.src h.dst (.inr rfl))
  · exact State.startBench_inv (State.modSubst_inv h _ h.src h.dst h.sel)
  · exact State.modSubst_inv h _ h.src h.dst h.sel
  · exact h

theorem State.substBegin_inv {s : State} (h : s.Inv) (state src dst trig : Nat) (card : Scorecard) (cfg : ConfigRec)
    (hs : src ≤ 4) (hd : dst ≤ 4) : (State.substBegin state src dst trig card cfg s).Inv := by
  unfold State.substBegin
  dsimp only
  apply State.routeBench_inv
  have h1 := State.post_inv (State.modSubst_inv (State.fault_inv h Reg.SUP_FAULT_STAT_SUBST) (fun x => { x with
    state := state, failed := src, server := dst, trigger := trig, reason := 0, src := src, dst := dst, step := 3
    t0 := (s.fault Reg.SUP_FAULT_STAT_SUBST).centre.xcount, card := some card, config := some cfg }) hs hd
    (State.fault_inv h Reg.SUP_FAULT_STAT_SUBST).sel) 0x0C01 .sup src trig
  split
  · exact h1
  · exact State.stopUnit_inv h1 _ _ _

theorem State.substNoCard_inv {s : State} (h : s.Inv) (n dst trig : Nat) : (State.substNoCard n dst trig s).Inv := by
  unfold State.substNoCard
  dsimp only
  with_reducible repeat' first
    | assumption | intro _ | apply State.fault_inv | apply State.offAir_inv | apply State.post_inv
    | apply State.stopUnit_inv | apply State.substNot_inv | apply State.ubump_inv | split

theorem State.declare_inv {s : State} (h : s.Inv) (n trig : Nat) (hn : n ≤ 4) (hb : s.subst.bench ≤ 4) :
    (State.declare n trig s).Inv := by
  unfold State.declare
  split
  · exact State.substBegin_inv h _ _ _ _ _ _ hn hb
  · exact State.substNoCard_inv h _ _ _

theorem State.substFail_inv {s : State} (h : s.Inv) (reason : Nat) : (State.substFail reason s).Inv := by
  unfold State.substFail
  dsimp only
  split
  · exact h
  · have h1 := State.stopUnit_inv (State.modSubst_keep (State.ubump_inv (State.post_inv h 0x0C02 .sup
      (2 ^ 31 + s.subst.dst) (s.subst.src + 2 ^ 8 * reason)) Reg.SUP_SUBST_COUNT_FAILED 1)
      (fun y => { y with reason := reason }) (fun _ => ⟨rfl, rfl, rfl⟩)) s.subst.dst false 2
    split
    · have h2 : ∀ t : State, t.Inv → (if s.subst.benchEn then t else
          t.modSubst (fun y => { y with bench := s.subst.src, sel := s.subst.src })).Inv := fun t ht =>
        State.inv_ite (fun _ => ht) (fun _ => State.modSubst_inv ht _ ht.src ht.dst (.inl h.src))
      split
      · exact State.substBegin_inv (h2 _ h1) _ _ _ _ _ _ h.dst h.src
      · exact State.modSubst_keep (h2 _ h1) _ (fun _ => ⟨rfl, rfl, rfl⟩)
    · have h2 := State.cardOffAir_inv h1 s.subst.card
      refine State.modSubst_inv h2 _ h2.src h2.dst ?_
      dsimp only
      split
      · exact .inl h.dst
      · exact .inr rfl

theorem State.benchCheck_inv {s : State} (h : s.Inv) : (State.benchCheck s).Inv := by
  unfold State.benchCheck
  dsimp only
  with_reducible repeat' first | assumption | intro _ | apply State.substFail_inv | split

theorem State.seedBench_inv {s : State} (h : s.Inv) : (State.seedBench s).Inv := by
  unfold State.seedBench
  dsimp only
  with_reducible repeat' first
    | assumption | intro _ | apply State.modChan_inv | apply State.modSubst_keep | exact ⟨rfl, rfl, rfl⟩ | split

theorem State.substInit_inv {s : State} (h : s.Inv) (n : Nat) : (State.substInit n s).Inv := by
  unfold State.substInit
  with_reducible repeat' first
    | assumption | intro _ | apply State.modRun_inv | apply State.modSubst_keep | exact ⟨rfl, rfl, rfl⟩ | split

theorem State.substVerdict_inv {s : State} (h : s.Inv) (n code : Nat) : (State.substVerdict n code s).Inv := by
  unfold State.substVerdict
  with_reducible repeat' first
    | assumption | intro _ | apply State.modSubst_keep | apply State.substFail_inv | exact ⟨rfl, rfl, rfl⟩ | split

theorem State.substDone_inv {s : State} (h : s.Inv) (n : Nat) : (State.substDone n s).Inv := by
  unfold State.substDone
  dsimp only
  with_reducible repeat' first
    | assumption | intro _ | apply State.modSubst_keep | apply State.post_inv | apply State.showBench_inv
    | apply State.ubump_inv | apply State.uset_inv | exact ⟨rfl, rfl, rfl⟩ | split

theorem State.hasBench_le {s : State} (h : s.hasBench = true) : s.subst.bench ≤ 4 := by
  simp only [State.hasBench, Bool.and_eq_true, decide_eq_true_eq] at h
  exact h.1.1.1

theorem State.trigger_inv {s : State} (h : s.Inv) (n trig mode : Nat) (onAir : Bool) (hn : n ≤ 4) :
    (State.trigger n trig mode onAir s).Inv := by
  unfold State.trigger
  have hl : ∀ t : State, t.Inv → (if onAir = true ∧ 4 ≤ trig then t.fault Reg.SUP_FAULT_STAT_OFFAIR else t).Inv :=
    fun t ht => State.inv_ite (fun _ => State.fault_inv ht _) (fun _ => ht)
  dsimp only
  split
  · split
    · exact State.substFail_inv h _
    · exact h
  · split
    · exact h
    · split
      · exact hl _ (State.substNot_inv h _ _ _)
      · split
        · exact hl _ (State.substNot_inv h _ _ _)
        · next hb =>
          have hb' := State.hasBench_le (s := s) (by simpa using hb)
          split
          · exact State.declare_inv h _ _ hn hb'
          · exact hl _ (State.declare_inv h _ _ hn hb')

theorem State.giveBack_inv {s : State} (h : s.Inv) (n : Nat) (hn : n ≤ 4) (hs : s.subst.server ≤ 4) :
    (State.giveBack n s).Inv := by
  unfold State.giveBack
  split
  · exact State.substBegin_inv h _ _ _ _ _ _ hs hn
  · exact State.substNoCard_inv h _ _ _

theorem State.driveSel_inv {s : State} (h : s.Inv) : (State.driveSel s).Inv := by
  unfold State.driveSel
  dsimp only
  split
  · exact State.benchCheck_inv (State.startBench_inv (State.modSubst_inv h _ h.src h.dst (.inl h.src)))
  · exact h

theorem State.designate_inv {s : State} (h : s.Inv) (v : Nat) : (State.designate v s).Inv := by
  unfold State.designate
  refine State.modSubst_inv h _ h.src h.dst ?_
  dsimp only
  split
  · exact .inl ‹_›
  · exact .inr rfl

theorem State.afterStop_inv {s : State} (h : s.Inv) (n : Nat) : (State.afterStop n s).Inv := by
  unfold State.afterStop
  dsimp only
  with_reducible repeat' first
    | assumption | intro _ | apply State.benchCheck_inv | apply State.routeBench_inv | apply State.startBench_inv
    | apply State.takeUp_inv | split

theorem State.afterWait_inv {s : State} (h : s.Inv) (n : Nat) : (State.afterWait n s).Inv := by
  unfold State.afterWait
  dsimp only
  with_reducible repeat' first
    | assumption | intro _ | apply State.benchCheck_inv | apply State.startBench_inv | apply State.takeUp_inv | split

theorem State.startHeld_inv {s : State} (h : s.Inv) (n : Nat) : (State.startHeld n s).Inv := by
  unfold State.startHeld
  with_reducible repeat' first | assumption | intro _ | apply State.raise_inv | apply State.modPower_inv | apply State.unitReset_inv | split

theorem State.startDone_inv {s : State} (h : s.Inv) (n : Nat) (r : StartResult) : (State.startDone n r s).Inv := by
  unfold State.startDone
  dsimp only
  with_reducible repeat' first
    | assumption | intro _ | apply State.enterRun_inv | apply State.imageBad_inv | apply State.startHeld_inv
    | apply State.seedBench_inv | apply State.substFail_inv | apply State.trainingBad_inv | split

theorem State.trainDone_inv {s : State} (h : s.Inv) (n failing : Nat) : (State.trainDone n failing s).Inv := by
  unfold State.trainDone
  dsimp only
  with_reducible repeat' first
    | assumption | intro _ | apply State.draw_inv | apply State.hubErr_inv | apply State.logOnly_inv
    | apply State.modPower_inv | apply State.post_inv | apply State.showBench_inv | apply State.substFail_inv | split

theorem State.dieEvent_inv {s : State} (h : s.Inv) (typ d a0 : Nat) (a1 : Int) : (State.dieEvent typ d a0 a1 s).Inv := by
  unfold State.dieEvent
  with_reducible repeat' first | assumption | intro _ | apply State.post_inv | apply State.unitEvent_inv | split

theorem State.dieInt_inv {s : State} (h : s.Inv) (d i : Nat) : (State.dieInt d i s).Inv := by
  unfold State.dieInt
  with_reducible repeat' first | assumption | intro _ | apply State.modRun_inv

theorem State.shutDie_inv {s : State} (h : s.Inv) (d link : Nat) (t : Int) (forced : Bool) (hd : d ≤ 5) :
    (State.shutDie d link t forced s).Inv := by
  unfold State.shutDie
  dsimp only
  have h1 := State.modUmp_inv (State.modDie_inv h d (fun x => { x with shut := true, hot := 0 })) (fun u => { u with
    trip := true, tripAt := (s.modDie d (fun x => { x with shut := true, hot := 0 })).centre.xcount })
  split
  · exact State.hubRecord_inv (State.deviceReset_inv (State.faultEvent_inv (State.modUmp_inv (State.fault_inv h1 _) _)
      _ _ _ _ _ _ _) _) _ _ _ _
  · split
    · exact h1
    · split
      · exact State.post_inv h1 _ _ _ _
      · exact State.trigger_inv (State.stopUnit_inv (State.post_inv h1 _ _ _ _) _ _ _) _ _ _ _ (by omega)

theorem State.forceDies_inv {s : State} (h : s.Inv) (mask : Nat) : (State.forceDies mask s).Inv := by
  unfold State.forceDies
  with_reducible repeat' first | assumption | intro _ | apply forN_inv | apply State.shutDie_inv | split | omega

theorem State.roundDie_inv {s : State} (h : s.Inv) (raw : Nat → Option Int) (link : Nat) (s0 : State) (d : Nat) (hd : d ≤ 5) :
    (State.roundDie raw link s0 d s).Inv := by
  unfold State.roundDie
  extract_lets x y s1 s2 s3 s4 s5
  have h1 : s1.Inv := State.modDie_inv h _ _
  have h2 : s2.Inv := State.inv_ite (fun _ => State.dieInt_inv (State.dieEvent_inv h1 _ _ _ _) _ _) (fun _ => h1)
  have h3 : s3.Inv := State.inv_ite (fun _ => State.dieInt_inv (State.dieEvent_inv h2 _ _ _ _) _ _) (fun _ => h2)
  have h4 : s4.Inv := State.inv_ite (fun _ => State.modRun_inv h3 _ _) (fun _ => h3)
  have h5 : s5.Inv := State.modDie_inv h4 _ _
  split
  · split
    · exact State.inv_ite (fun _ => State.deviceReset_inv (State.modUmp_inv h5 _) _) (fun _ => h5)
    · exact h4
  · exact State.inv_ite (fun _ => State.shutDie_inv h4 _ _ _ _ hd) (fun _ => h4)

theorem State.steer_inv {s : State} (h : s.Inv) (d m : Nat) : (State.steer d m s).Inv := by
  unfold State.steer
  dsimp only
  with_reducible repeat' first
    | assumption | intro _ | apply State.draw_inv | apply State.modRail_inv | apply State.railAdd_inv | split

theorem State.fastStep_inv {s : State} (h : s.Inv) (r : Nat) : (State.fastStep r s).Inv := by
  unfold State.fastStep
  with_reducible repeat' first | assumption | intro _ | apply State.railAdd_inv | split

theorem State.stepDue_inv {s : State} (h : s.Inv) (r : Nat) : (State.stepDue r s).Inv := by
  unfold State.stepDue
  with_reducible repeat' first | assumption | intro _ | apply State.railStep_inv | split

theorem State.telemetry_inv {s : State} (h : s.Inv) (n : Nat) (k : Round) : (State.telemetry n k s).Inv := by
  unfold State.telemetry
  dsimp only
  with_reducible repeat' first
    | assumption | intro _ | apply forN_inv | apply State.modRail_inv | apply State.modRun_inv | split | omega

theorem State.faultsAgain_inv {s : State} (h : s.Inv) : (State.faultsAgain s).Inv := by
  unfold State.faultsAgain
  dsimp only
  with_reducible repeat' first | assumption | intro _ | apply State.fault_inv | split

theorem State.laneCopies_inv {s : State} (h : s.Inv) : (State.laneCopies s).Inv := by
  unfold State.laneCopies
  dsimp only
  with_reducible repeat' first | assumption | intro _ | apply State.modUmp_inv | split

theorem State.railRead_inv {s : State} (h : s.Inv) (r : Nat) (v : Option Nat) : (State.railRead r v s).Inv := by
  unfold State.railRead
  dsimp only
  with_reducible repeat' first | assumption | intro _ | apply State.avsAnswer_inv | apply State.avsBegin_inv | apply State.avsPut_inv | apply State.modRail_inv | split

theorem State.round_inv {s : State} (h : s.Inv) (k : Round) : (State.round k s).Inv := by
  unfold State.round
  dsimp only
  with_reducible repeat' first
    | assumption | intro _ | apply forN_inv | apply State.draw_inv | apply State.faultsAgain_inv
    | apply State.laneCopies_inv | apply State.railRead_inv | apply State.modUmp_inv | apply State.roundDie_inv
    | apply State.steer_inv | apply State.telemetry_inv | split | omega

theorem State.tripRelease_inv {s : State} (h : s.Inv) : (State.tripRelease s).Inv := by
  unfold State.tripRelease
  with_reducible repeat' first | assumption | intro _ | apply State.modUmp_inv | split

theorem State.energy_inv {s : State} (h : s.Inv) (e : EnergyReport) : (State.energy e s).Inv := by
  unfold State.energy
  dsimp only
  with_reducible repeat' first
    | assumption | intro _ | apply forN_inv | apply foldl_inv | apply State.draw_inv | apply State.modRun_inv
    | apply State.uset_inv | apply State.modUmp_inv | split | omega

theorem State.cardIn_inv {s : State} (h : s.Inv) (n : Nat) (sc : Scorecard) : (State.cardIn n sc s).Inv := by
  unfold State.cardIn
  with_reducible repeat' first | assumption | intro _ | apply State.modCards_inv | split

theorem State.configIn_inv {s : State} (h : s.Inv) (n : Nat) (r : ConfigRec) : (State.configIn n r s).Inv := by
  unfold State.configIn
  with_reducible repeat' first
    | assumption | intro _ | apply State.modCards_inv | apply State.modUmp_inv | apply State.take_inv | split

theorem State.retiredIn_inv {s : State} (h : s.Inv) (n p span : Nat) : (State.retiredIn n p span s).Inv := by
  unfold State.retiredIn
  with_reducible repeat' first | assumption | intro _ | apply State.modUmp_inv | split

theorem State.stormIn_inv {s : State} (h : s.Inv) (n : Nat) (hn : n ≤ 4) : (State.stormIn n s).Inv :=
  State.trigger_inv (State.fault_inv h _) _ _ _ _ hn

theorem State.carry_inv {s : State} (h : s.Inv) (n : Nat) (x : Signal) (hn : n ≤ 4) : (State.carry n x s).Inv := by
  unfold State.carry
  split
  · exact State.unitEvent_inv h _ _ _ _ _ _
  · exact State.ringRecord_inv h _ _
  · exact State.ringRecord_inv h _ _
  · exact State.take_inv h _ _ _
  · exact State.stormIn_inv h _ hn
  · exact State.cardIn_inv h _ _
  · exact State.configIn_inv h _ _
  · exact State.substVerdict_inv h _ _
  · exact State.substDone_inv h _
  · exact State.substInit_inv h _
  · exact State.retiredIn_inv h _ _ _
  · exact State.modPower_inv h _ _
  · exact State.inv_ite (fun _ => State.put_inv h _) (fun _ => h)

theorem State.flush_inv {s : State} (h : s.Inv) (n : Nat) (hn : n ≤ 4) : (State.flush n s).Inv := by
  unfold State.flush
  dsimp only
  split
  · exact h
  · exact foldl_inv _ (State.modChan_inv h _ _) (fun x _ ht => State.carry_inv ht _ x hn)

theorem State.flushAll_inv {s : State} (h : s.Inv) : (State.flushAll s).Inv :=
  forN_inv h (fun i hi _ ht => State.flush_inv ht i (by omega))

theorem State.settle_inv {s : State} (h : s.Inv) (before : State) : (State.settle before s).Inv := by
  unfold State.settle
  dsimp only
  with_reducible repeat' first
    | assumption | intro _ | apply State.finish_inv | apply State.flushAll_inv | apply State.pumpAll_inv | split

theorem State.modBankAt_inv {s : State} (h : s.Inv) (x : Site) (b : Block) (f : RegBank → RegBank) : (State.modBankAt x b f s).Inv := by
  unfold State.modBankAt
  with_reducible repeat' first | assumption | intro _ | apply State.modBank_inv | apply State.modRun_inv | split

theorem State.putAt_inv {s : State} (h : s.Inv) (x : Site) (b : Block) (k v : Nat) : (State.putAt x b k v s).Inv := by
  unfold State.putAt
  dsimp only
  with_reducible repeat' first | assumption | intro _ | apply State.modBankAt_inv | split

theorem State.discardAt_inv {s : State} (h : s.Inv) (x : Site) (b : Block) (code off : Nat) (p : Path) (arg1 : Nat) : (State.discardAt x b code off p arg1 s).Inv := by
  unfold State.discardAt
  with_reducible repeat' first | assumption | intro _ | apply State.discardHub_inv | apply State.modRun_inv | split

theorem State.unavailable_inv {s : State} (h : s.Inv) (n off : Nat) (p : Path) (write : Bool) : (State.unavailable n off p write s).Inv := by
  unfold State.unavailable
  dsimp only
  with_reducible repeat' first
    | assumption | intro _ | apply State.hbump_inv | apply State.hubErr_inv | apply State.modHub_inv
    | apply State.post_inv | split

theorem State.snapCard_inv {s : State} (h : s.Inv) (x : Site) (p : Path) (k e : Nat) : (State.snapCard x p k e s).Inv := by
  unfold State.snapCard
  dsimp only
  with_reducible repeat' first | assumption | intro _ | apply State.modUmp_inv | split

theorem State.loadTable_inv {s : State} (h : s.Inv) (x : Site) (p : Path) (b : Block) (t : TableDef) (k e : Nat) (ainc : Bool) : (State.loadTable x p b t k e ainc s).Inv := by
  unfold State.loadTable
  dsimp only
  with_reducible repeat' first | assumption | intro _ | apply State.modBankAt_inv | apply State.snapCard_inv | split

theorem State.tableReady_inv {s : State} (h : s.Inv) (x : Site) (p : Path) (b : Block) (t : TableDef) (k : Nat) : (State.tableReady x p b t k s).Inv := by
  unfold State.tableReady
  with_reducible repeat' first | assumption | intro _ | apply State.loadTable_inv | split

theorem State.tableNext_inv {s : State} (h : s.Inv) (x : Site) (p : Path) (b : Block) (t : TableDef) (k : Nat) : (State.tableNext x p b t k s).Inv := by
  unfold State.tableNext
  dsimp only
  with_reducible repeat' first | assumption | intro _ | apply State.loadTable_inv | split

theorem State.ringStored_inv {s : State} (h : s.Inv) (i : Nat) (was : Bool) : (State.ringStored i was s).Inv := by
  unfold State.ringStored
  with_reducible repeat' first | assumption | intro _ | apply State.ringHalt_inv | apply State.ringStart_inv | split

theorem State.storeEntry_inv {s : State} (h : s.Inv) (x : Site) (p : Path) (b : Block) (page : Nat) (t : TableDef) (off v : Nat) : (State.storeEntry x p b page t off v s).Inv := by
  unfold State.storeEntry
  dsimp only
  with_reducible repeat' first
    | assumption | intro _ | apply forN_inv | apply foldl_inv | apply State.discardAt_inv | apply State.putAt_inv
    | apply State.ringStored_inv | apply State.tableNext_inv | split | omega

theorem commonWrite_inv {s : State} (h : s.Inv) (x : Site) (p : Path) (b : Block) (o off v : Nat) : (commonWrite x p b o off v s).Inv := by
  unfold commonWrite
  dsimp only
  with_reducible repeat' first
    | assumption | intro _ | apply State.discardAt_inv | apply State.modRun_inv | apply State.putAt_inv | split

theorem commonRead_inv {s : State} (h : s.Inv) (x : Site) (b : Block) (o : Nat) : (commonRead x b o s).2.Inv := by
  unfold commonRead
  dsimp only
  with_reducible repeat' first | assumption | intro _ | apply State.putAt_inv | split

theorem State.imgGo_inv {s : State} (h : s.Inv) : (State.imgGo s).Inv := by
  unfold State.imgGo
  dsimp only
  with_reducible repeat' first
    | assumption | intro _ | apply State.modUmp_inv | apply State.post_inv | apply State.uset_inv | split

theorem State.logClear_inv {s : State} (h : s.Inv) : (State.logClear s).Inv := by
  unfold State.logClear
  dsimp only
  with_reducible repeat' first | assumption | intro _ | apply State.logOnly_inv | apply State.modUmp_inv | split

theorem State.substRefused_inv {s : State} (h : s.Inv) (d : RegDef) (v : Nat) : (State.substRefused d v s).Inv := by
  unfold State.substRefused
  dsimp only
  with_reducible repeat' first
    | assumption | intro _ | apply State.modSubst_keep | apply State.trigger_inv | exact ⟨rfl, rfl, rfl⟩ | split

/-- What the checks of SUP_SUBST_CTL say of the units that a write names. -/
def substNames (s : State) (d : RegDef) (v : Nat) : Prop :=
  d.act = .substCtl → (bitAt v 8 = true → bitsOf v 0 3 ≤ 4 ∧ s.subst.bench ≤ 4) ∧
    (bitAt v 8 = false → bitAt v 9 = true → bitsOf v 0 3 ≤ 4 ∧ s.subst.server ≤ 4)

theorem State.act_inv {s : State} (h : s.Inv) (x : Site) (d : RegDef) (page rep off v : Nat) (hd : substNames s d v) :
    (State.act x d page rep off v s).Inv := by
  unfold State.act
  split
  · split
    · split
      · exact State.quenchStart_inv h _ _
      · split
        · exact State.quenchResume_inv h _
        · exact h
    · exact State.hubEvent_inv h _ _ _ _ _
    · exact State.request_inv h _ _ _
    · split
      · exact State.imgGo_inv h
      · exact h
    · split
      · exact State.logClear_inv h
      · exact h
    · exact State.designate_inv h _
    · next ha =>
      split
      · next h8 => exact State.declare_inv h _ _ ((hd ha).1 h8).1 ((hd ha).1 h8).2
      · next h8 =>
        split
        · next h9 => exact State.giveBack_inv h _ ((hd ha).2 (by simpa using h8) h9).1 ((hd ha).2 (by simpa using h8) h9).2
        · exact h
    · exact State.forceDies_inv h _
    · exact h
  · repeat' first
      | assumption | apply State.unitEvent_inv | apply State.modRun_inv | split

theorem State.putReg_inv {s : State} (h : s.Inv) (x : Site) (b : Block) (d : RegDef) (k v : Nat) : (State.putReg x b d k v s).Inv := by
  unfold State.putReg
  dsimp only
  with_reducible repeat' first | assumption | intro _ | apply State.putAt_inv | split

theorem State.mode_lt {s : State} (h : s.Inv) {n : Nat} (hm : inService (s.modeOf n) = true) : n ≤ 4 := by
  have hr : s.running n = true := by
    by_cases hr : s.running n = true
    · exact hr
    · simp [State.modeOf, hr, inService] at hm
  have : (s.pw n).state = .run := by
    simp only [State.running, Bool.and_eq_true, beq_iff_eq] at hr
    exact hr.1
  have := h.run_lt (n := n) (by rw [this]; exact fun e => by cases e)
  omega

theorem State.goCode_names {s : State} (h : s.Inv) {n : Nat} (hc : s.goCode n = 0) : n ≤ 4 ∧ s.subst.bench ≤ 4 := by
  unfold State.goCode at hc
  split at hc
  · simp [codeBUSY] at hc
  · split at hc
    · simp [codeRANGE] at hc
    · next hm =>
      split at hc
      · simp [codeBENCH_UNIT] at hc
      · next hb =>
        simp only [Bool.or_eq_true, not_or, Bool.not_eq_true', Bool.not_eq_false, Bool.not_eq_true] at hm
        exact ⟨State.mode_lt h (by simpa using hm.1), State.hasBench_le (by simpa using hb)⟩

theorem State.returnCode_names {s : State} (h : s.Inv) {n : Nat} (hc : s.returnCode n = 0) :
    n ≤ 4 ∧ s.subst.server ≤ 4 := by
  unfold State.returnCode at hc
  dsimp only at hc
  split at hc
  · simp [codeBUSY] at hc
  · split at hc
    · simp [codeBENCH_UNIT] at hc
    · next hn =>
      split at hc
      · simp [codeRANGE] at hc
      · next hm =>
        simp only [not_or] at hn
        have ht : (s.pw n).trained = true := by simpa using hn.2.2.2.2
        have := h.trained_lt ht
        exact ⟨by omega, State.mode_lt h (by simpa using hm)⟩

/-- A register's words change neither power states nor the substitution. -/
theorem State.putAt_power (x : Site) (b : Block) (k v : Nat) (s : State) : (State.putAt x b k v s).power = s.power := by
  unfold State.putAt State.modBankAt State.modBank State.modRun
  dsimp only
  repeat' split
  all_goals rfl

theorem State.putReg_power (x : Site) (b : Block) (d : RegDef) (k v : Nat) (s : State) :
    (State.putReg x b d k v s).power = s.power := by
  unfold State.putReg
  dsimp only
  split <;> simp [State.putAt_power]

theorem State.storeReg_inv {s : State} (h : s.Inv) (x : Site) (p : Path) (b : Block) (d : RegDef)
    (page rep k off full v : Nat) : (State.storeReg x p b d page rep k off full v s).Inv := by
  unfold State.storeReg
  extract_lets old discard live differs fcode s1 code0 code1 owner s2
  have hdis : ∀ c (t : State), t.Inv → (discard c t).Inv := fun c t ht => State.discardAt_inv ht _ _ _ _ _ _
  have h1 : s1.Inv := State.inv_ite (fun _ => State.putReg_inv h _ _ _ _ _) (fun _ => h)
  have h2 : s2.Inv := State.inv_ite (fun _ => State.putReg_inv h _ _ _ _ _) (fun _ => h)
  have hp : s2.power = s.power := by
    show (ite _ _ _ : State).power = _
    split
    · exact State.putReg_power _ _ _ _ _ _
    · rfl
  split
  · exact State.inv_ite (fun _ => hdis _ _ h) (fun _ => State.inv_ite (fun _ => hdis _ _ h1)
      (fun _ => State.inv_ite (fun _ => hdis _ _ h) (fun _ => State.putReg_inv h _ _ _ _ _)))
  · split
    · exact hdis _ _ h
    · split
      · exact hdis _ _ (State.substRefused_inv h _ _)
      · next hc =>
        have hc' : s.ownerCode x d page rep full = 0 := by simpa using hc
        refine State.act_inv h2 _ _ _ _ _ _ (fun ha => ?_)
        have hs : s2.subst = s.subst := by simp [State.subst, hp]
        rw [hs]
        refine ⟨fun h8 => State.goCode_names h ?_, fun h8 h9 => State.returnCode_names h ?_⟩
        · simpa [State.ownerCode, ha, h8] using hc'
        · simpa [State.ownerCode, ha, h8, h9] using hc'

theorem State.regWriteAt_inv {s : State} (h : s.Inv) (x : Site) (p : Path) (off v : Nat) : (State.regWriteAt x p off v s).Inv := by
  unfold State.regWriteAt
  dsimp only
  with_reducible repeat' first
    | assumption | intro _ | apply commonWrite_inv | apply State.discardAt_inv | apply State.loadTable_inv
    | apply State.modBankAt_inv | apply State.storeEntry_inv | apply State.storeReg_inv | apply State.tableReady_inv
    | split

theorem State.latch_inv {s : State} (h : s.Inv) (x : Site) (p : Path) (b : Block) (k v : Nat) : (State.latch x p b k v s).Inv := by
  unfold State.latch
  with_reducible repeat' first | assumption | intro _ | apply State.modBankAt_inv | split

theorem State.regRead_inv {s : State} (h : s.Inv) (x : Site) (p : Path) (b : Block) (page rep w : Nat) (d : RegDef) (off : Nat) : (State.regRead x p b page rep w d off s).2.Inv := by
  unfold State.regRead
  dsimp only
  with_reducible repeat' first
    | assumption | intro _ | apply State.draw_inv | apply State.latch_inv | apply State.modUmp_inv
    | apply State.putAt_inv | split

theorem State.regReadAt_inv {s : State} (h : s.Inv) (x : Site) (p : Path) (off : Nat) : (State.regReadAt x p off s).2.Inv := by
  unfold State.regReadAt
  dsimp only
  with_reducible repeat' first
    | assumption | intro _ | apply commonRead_inv | apply State.regRead_inv | apply State.tableNext_inv
    | apply State.tableReady_inv | split

theorem State.writeAt_inv {s : State} (h : s.Inv) (p : Path) (t : Target) (v : Word) (be : BitVec 4) : (State.writeAt p t v be s).Inv := by
  unfold State.writeAt
  dsimp only
  with_reducible repeat' first
    | assumption | intro _ | apply State.discardAt_inv | apply State.discardHub_inv | apply State.regWriteAt_inv
    | apply State.unavailable_inv | split

theorem State.readAt_inv {s : State} (h : s.Inv) (p : Path) (t : Target) : (State.readAt p t s).2.Inv := by
  unfold State.readAt
  with_reducible repeat' first
    | assumption | intro _ | apply State.regReadAt_inv | apply State.unavailable_inv | split

theorem State.writeTo_inv {s : State} (h : s.Inv) (p : Path) (t : Target) (v : Word) : (State.writeTo p t v s).Inv := by
  unfold State.writeTo
  with_reducible repeat' first | assumption | intro _ | apply State.writeAt_inv | split

theorem State.writeBar0_inv {s : State} (h : s.Inv) (p : Path) (off : Nat) (v : Word) (be : BitVec 4) : (State.writeBar0 p off v be s).Inv := by
  unfold State.writeBar0
  with_reducible repeat' first | assumption | intro _ | apply State.writeAt_inv | split

theorem State.readBar0_inv {s : State} (h : s.Inv) (p : Path) (off : Nat) : (State.readBar0 p off s).Inv := by
  unfold State.readBar0
  dsimp only
  with_reducible repeat' first | assumption | intro _ | apply State.put_inv | apply State.readAt_inv | split

theorem State.unsupported_inv {s : State} (h : s.Inv) (p : Path) : (State.unsupported p s).Inv := by
  unfold State.unsupported
  with_reducible repeat' first | assumption | intro _ | apply State.aer_inv | apply State.put_inv | split

theorem State.readBar4_inv {s : State} (h : s.Inv) (p : Path) (off : Nat) (vc1 : Bool) : (State.readBar4 p off vc1 s).Inv := by
  unfold State.readBar4
  with_reducible repeat' first | assumption | intro _ | apply State.put_inv | apply State.unsupported_inv | split

theorem State.readBar_inv {s : State} (h : s.Inv) (p : Path) (bar off : Nat) (vc1 : Bool) : (State.readBar p bar off vc1 s).Inv := by
  unfold State.readBar
  with_reducible repeat' first | assumption | intro _ | apply State.readBar0_inv | apply State.readBar4_inv | split

theorem State.writeMsix_inv {s : State} (h : s.Inv) (f off : Nat) (v : Word) : (State.writeMsix f off v s).Inv := by
  unfold State.writeMsix
  dsimp only
  with_reducible repeat' first | assumption | intro _ | apply State.modHub_inv | apply State.sendPending_inv | split

theorem State.writeBar_inv {s : State} (h : s.Inv) (p : Path) (bar off : Nat) (v : Word) (be : BitVec 4) : (State.writeBar p bar off v be s).Inv := by
  unfold State.writeBar
  with_reducible repeat' first | assumption | intro _ | apply State.writeBar0_inv | apply State.writeMsix_inv | split

theorem State.bar2Write_inv {s : State} (h : s.Inv) (p : Path) (off : Nat) (bytes : List Byte) (vc1 : Bool) : (State.bar2Write p off bytes vc1 s).Inv := by
  unfold State.bar2Write
  dsimp only
  with_reducible repeat' first | assumption | intro _ | apply State.hbump_inv | apply State.modRun_inv | split

theorem State.bar2Read_inv {s : State} (h : s.Inv) (p : Path) (off len : Nat) (vc1 : Bool) (beats : List (Nat × BeatCheck)) :
    (State.bar2Read p off len vc1 beats s).Inv := by
  unfold State.bar2Read
  dsimp only
  with_reducible repeat' first | assumption | intro _ | apply State.unsupported_inv | apply State.modRun_inv | apply State.put_inv | split

theorem State.respond_inv {s : State} (h : s.Inv) (status : Nat) (data : List Nat) : (State.respond status data s).Inv := by
  unfold State.respond
  with_reducible repeat' first | assumption | intro _ | apply State.mgtSignal_inv | apply State.modMgt_inv | split

theorem State.refuse_inv {s : State} (h : s.Inv) (code : Nat) : (State.refuse code s).Inv := by
  unfold State.refuse
  with_reducible repeat' first | assumption | intro _ | apply State.respond_inv

theorem State.mgtRequest_inv {s : State} (h : s.Inv) (opcode : Nat) (q : MgtReq) {f : State → State}
    (hf : ∀ t : State, t.Inv → (f t).Inv) : (State.mgtRequest opcode q f s).Inv := by
  unfold State.mgtRequest
  repeat' split
  · exact h
  · exact State.hubErr_inv h _ _ _ _
  · exact State.post_inv (State.hubErr_inv h _ _ _ _) _ _ _ _
  · exact hf _ (State.modMgt_inv h _)

theorem State.mgtCommand_inv {s : State} (h : s.Inv) (opcode : Nat) (q : MgtReq) (len : Nat) (ok : List Nat → Bool)
    {f : List Nat → State → State} (hf : ∀ a, ∀ t : State, t.Inv → (f a t).Inv) :
    (State.mgtCommand opcode q len ok f s).Inv := by
  refine State.mgtRequest_inv h _ _ (fun t ht => ?_)
  repeat' split
  · exact State.respond_inv ht _ _
  · exact State.respond_inv ht _ _
  · exact hf _ _ ht

theorem State.mgtRead32_inv {s : State} (h : s.Inv) (a : List Nat) : (State.mgtRead32 a s).Inv := by
  unfold State.mgtRead32
  dsimp only
  with_reducible repeat' first | assumption | intro _ | apply State.readAt_inv | apply State.respond_inv | split

theorem State.mgtWrite32_inv {s : State} (h : s.Inv) (a : List Nat) : (State.mgtWrite32 a s).Inv := by
  unfold State.mgtWrite32
  dsimp only
  with_reducible repeat' first | assumption | intro _ | apply State.respond_inv | apply State.writeAt_inv | split

theorem State.mgtReadLog_inv {s : State} (h : s.Inv) (a : List Nat) : (State.mgtReadLog a s).Inv := by
  unfold State.mgtReadLog
  with_reducible repeat' first | assumption | intro _ | apply State.respond_inv

theorem State.mgtReadCard_inv {s : State} (h : s.Inv) (a : List Nat) : (State.mgtReadCard a s).Inv := by
  unfold State.mgtReadCard
  dsimp only
  with_reducible repeat' first | assumption | intro _ | apply State.modMgt_inv | apply State.respond_inv | split

theorem State.mgtDiscard_inv {s : State} (h : s.Inv) (code off arg : Nat) : (State.mgtDiscard code off arg s).Inv := by
  unfold State.mgtDiscard
  with_reducible repeat' first | assumption | intro _ | apply State.discardHub_inv | apply State.refuse_inv

theorem State.setUnitCtl_inv {s : State} (h : s.Inv) (n req keep : Nat) : (State.setUnitCtl n req keep s).Inv := by
  unfold State.setUnitCtl
  with_reducible repeat' first | assumption | intro _ | apply State.uset_inv

theorem State.mgtSetPower_inv {s : State} (h : s.Inv) (a : List Nat) : (State.mgtSetPower a s).Inv := by
  unfold State.mgtSetPower
  dsimp only
  with_reducible repeat' first
    | assumption | intro _ | apply State.mgtDiscard_inv | apply State.request_inv | apply State.respond_inv
    | apply State.setUnitCtl_inv | split

theorem State.mgtResetUnit_inv {s : State} (h : s.Inv) (a : List Nat) : (State.mgtResetUnit a s).Inv := by
  unfold State.mgtResetUnit
  dsimp only
  with_reducible repeat' first
    | assumption | intro _ | apply State.mgtDiscard_inv | apply State.request_inv | apply State.respond_inv
    | apply State.setUnitCtl_inv | split

theorem State.mgtSubstitute_inv {s : State} (h : s.Inv) (a : List Nat) : (State.mgtSubstitute a s).Inv := by
  unfold State.mgtSubstitute
  extract_lets n code
  have h1 : (s.modSubst (fun y => { y with trigger := 1 })).Inv := State.modSubst_keep h _ (fun _ => ⟨rfl, rfl, rfl⟩)
  split
  · with_reducible apply State.mgtDiscard_inv
    exact h1
  · next hc =>
    have hc' : s.goCode n = 0 := by
      show code = 0
      simpa using hc
    have hg := State.goCode_names h hc'
    with_reducible apply State.respond_inv
    exact State.declare_inv h _ _ hg.1 hg.2

theorem State.mgtMask_inv {s : State} (h : s.Inv) {f : Nat → State → State} (a : List Nat)
    (hf : ∀ n, ∀ t : State, t.Inv → (f n t).Inv) : (State.mgtMask f a s).Inv := by
  unfold State.mgtMask
  apply State.respond_inv
  exact State.inv_ite (fun _ => forN_inv h (fun i _ _ ht => State.inv_ite (fun _ => hf i _ ht) (fun _ => ht))) (fun _ => h)

theorem State.mgtRead_inv {s : State} (h : s.Inv) : (State.mgtRead s).Inv := by
  unfold State.mgtRead
  extract_lets m r body addr block bytes s1
  have h1 : s1.Inv := State.put_inv h _
  clear_value r bytes
  refine State.inv_ite (fun _ => h) (fun _ => ?_)
  split
  · exact State.modMgt_inv h1 _
  · exact h1

theorem State.mgtTimeout_inv {s : State} (h : s.Inv) : (State.mgtTimeout s).Inv := by
  unfold State.mgtTimeout
  with_reducible repeat' first | assumption | intro _ | apply State.respond_inv | split

theorem State.ccc_inv {s : State} (h : s.Inv) {f : State → State} (hf : ∀ t : State, t.Inv → (f t).Inv) :
    (State.ccc f s).Inv := State.inv_ite (fun _ => hf _ h) (fun _ => h)

theorem State.cccRead_inv {s : State} (h : s.Inv) (v : Nat) : (State.cccRead v s).Inv := by
  unfold State.cccRead
  with_reducible repeat' first | assumption | intro _ | apply State.ccc_inv | apply State.put_inv | split

theorem State.cccGet_inv {s : State} (h : s.Inv) (v : Nat) : (State.cccGet v s).Inv := by
  unfold State.cccGet
  with_reducible repeat' first | assumption | intro _ | apply State.cccRead_inv | split

theorem State.assign_inv {s : State} (h : s.Inv) (addr : Nat) : (State.assign addr s).Inv := by
  unfold State.assign
  with_reducible repeat' first | assumption | intro _ | apply State.ccc_inv | apply State.modMgt_inv | split

theorem State.alertRead_inv {s : State} (h : s.Inv) : (State.alertRead s).Inv := by
  unfold State.alertRead
  dsimp only
  with_reducible repeat' first | assumption | intro _ | apply State.modMgt_inv | apply State.put_inv | split

theorem State.unitPass_inv {s : State} (h : s.Inv) (n : Nat) : (State.unitPass n s).Inv := by
  unfold State.unitPass
  with_reducible repeat' first | assumption | intro _ | apply State.modRun_inv | split

theorem State.idle_inv {s : State} (h : s.Inv) : (State.idle s).Inv := by
  unfold State.idle
  have h1 : State.Inv { s with centre := { s.centre with xcount := s.centre.xcount + 1, out := [] } } := h.of_eq rfl rfl
  exact State.inv_ite (fun _ => State.flushAll_inv (forN_inv h1 (fun i _ _ ht => State.unitPass_inv ht i))) (fun _ => h)

theorem opVddAuxRise_inv {s : State} (h : s.Inv) (straps : Straps) : (opVddAuxRise straps s).Inv := by
  unfold opVddAuxRise
  with_reducible repeat' first | assumption | intro _ | apply State.auxReset_inv | split

theorem opPowerFail_inv {s : State} (h : s.Inv) (hubSupply : Bool) (link : Nat) : (opPowerFail hubSupply link s).Inv := by
  unfold opPowerFail
  with_reducible repeat' first
    | assumption | intro _ | apply State.hubOff_inv | apply State.modUmp_inv | apply State.uset_inv | split

theorem opPwrGoodRise_inv {s : State} (h : s.Inv) (link : Nat) : (opPwrGoodRise link s).Inv := by
  unfold opPwrGoodRise
  with_reducible repeat' first | assumption | intro _ | apply State.deviceReset_inv | apply State.modUmp_inv | split

theorem opVddAuxLoss_inv {s : State} (h : s.Inv) : (opVddAuxLoss s).Inv := by
  unfold opVddAuxLoss
  with_reducible repeat' first
    | assumption | intro _ | apply State.modSubst_keep | apply State.modUmp_inv | exact ⟨rfl, rfl, rfl⟩ | split

theorem opBankSupplyChange_inv {s : State} (h : s.Inv) (bank : Nat) (up : Bool) : (opBankSupplyChange bank up s).Inv := by
  unfold opBankSupplyChange
  with_reducible repeat' first | assumption | intro _ | apply State.modUmp_inv | split

theorem opSupplyIsolation_inv {s : State} (h : s.Inv) (n : Nat) (hn : n ≤ 4) : (opSupplyIsolation n s).Inv := by
  unfold opSupplyIsolation
  exact State.afterStop_inv (State.trigger_inv (State.post_inv (State.gate_inv (State.modPower_inv h _ _) _ _) _ _ _ _)
    _ _ _ _ hn) _

theorem opTrainingStart_inv {s : State} (h : s.Inv) (invalid : List Nat) : (opTrainingStart invalid s).Inv := by
  unfold opTrainingStart
  dsimp only
  with_reducible repeat' first
    | assumption | intro _ | apply forN_inv | apply State.modHub_inv | apply State.modPower_inv
    | apply State.showBench_inv | apply State.train_inv | split | omega

theorem State.linkGone_inv {s : State} (h : s.Inv) : (State.linkGone s).Inv := by
  unfold State.linkGone
  dsimp only
  with_reducible repeat' first | assumption | intro _ | apply State.linkReset_inv | apply State.post_inv | split

theorem opLinkReset_inv {s : State} (h : s.Inv) : (opLinkReset s).Inv := by
  unfold opLinkReset
  dsimp only
  with_reducible repeat' first | assumption | intro _ | apply State.linkGone_inv | apply State.modHub_inv | split

theorem opLtssm_inv {s : State} (h : s.Inv) (state rate width : Nat) (flit : Bool) : (opLtssm state rate width flit s).Inv := by
  unfold opLtssm
  dsimp only
  with_reducible repeat' first
    | assumption | intro _ | apply State.hset_inv | apply State.modHub_inv | apply State.post_inv | split

theorem State.dropVfs_inv {s : State} (h : s.Inv) : (State.dropVfs s).Inv := by
  unfold State.dropVfs
  with_reducible repeat' first | assumption | intro _ | apply State.modHub_inv | apply State.take_inv | split

theorem opConfig_inv {s : State} (h : s.Inv) (r : ConfigReq) : (opConfig r s).Inv := by
  unfold opConfig
  with_reducible repeat' first
    | assumption | intro _ | apply State.draw_inv | apply State.dropVfs_inv | apply State.hset_inv
    | apply State.modFn_inv | apply State.modHub_inv | apply State.put_inv | apply State.sendPending_inv | split

theorem opD3hot_inv {s : State} (h : s.Inv) (f : Nat) : (opD3hot f s).Inv := by
  unfold opD3hot
  dsimp only
  with_reducible repeat' first
    | assumption | intro _ | apply foldl_inv | apply State.modFn_inv | apply State.modRing_inv | apply State.imgAbandon_inv | split

theorem State.imgFinish_inv {s : State} (h : s.Inv) (l : ImgLoad) (res : Nat) : (State.imgFinish l res s).Inv := by
  unfold State.imgFinish
  dsimp only
  with_reducible repeat' first | assumption | intro _ | apply State.post_inv | apply State.uset_inv | apply State.modUmp_inv | split

theorem imgLast_inv {s : State} (h : s.Inv) (last : Option ReadReply) : (imgLast last s).Inv := by
  unfold imgLast
  with_reducible repeat' first | assumption | intro _ | apply State.imgReply_inv | split

theorem opImgLoadDone_inv {s : State} (h : s.Inv) : (opImgLoadDone s).Inv := by
  unfold opImgLoadDone
  with_reducible repeat' first | assumption | intro _ | apply State.imgFinish_inv | split

theorem unitCtl_inv {s : State} (h : s.Inv) (path : Path) (n req : Nat) (keep : Byte) : (unitCtl path n req keep s).Inv := by
  unfold unitCtl
  with_reducible repeat' first | assumption | intro _ | apply State.writeTo_inv

theorem opUnitStopComplete_inv {s : State} (h : s.Inv) (n : Nat) : (opUnitStopComplete n s).Inv := by
  unfold opUnitStopComplete
  with_reducible repeat' first | assumption | intro _ | apply State.afterStop_inv | apply State.stopDone_inv | split

theorem opBlockTimeout_inv {s : State} (h : s.Inv) (u : Option (Fin 5)) (block wait : Nat) : (opBlockTimeout u block wait s).Inv := by
  unfold opBlockTimeout
  with_reducible repeat' first
    | assumption | intro _ | apply State.hubErr_inv | apply State.modRun_inv | apply State.post_inv | split

theorem storeEnable_inv {s : State} (h : s.Inv) (path : Path) (u : Option (Fin 5)) (ring : Nat) (on : Bool) : (storeEnable path u ring on s).Inv := by
  unfold storeEnable
  dsimp only
  with_reducible repeat' first | assumption | intro _ | apply State.writeTo_inv | split

theorem opModerationTimeout_inv {s : State} (h : s.Inv) (ring : Nat) : (opModerationTimeout ring s).Inv := by
  unfold opModerationTimeout
  with_reducible repeat' first | assumption | intro _ | apply State.modRing_inv | apply State.signalRing_inv | split

theorem opQuenchDone_inv {s : State} (h : s.Inv) (n ns : Nat) : (opQuenchDone n ns s).Inv := by
  unfold opQuenchDone
  dsimp only
  with_reducible repeat' first | assumption | intro _ | apply State.quenchStop_inv | split

theorem opSmbusTimeout_inv {s : State} (h : s.Inv) : (opSmbusTimeout s).Inv := by
  unfold opSmbusTimeout
  with_reducible repeat' first | assumption | intro _

theorem opConfigTimeout_inv {s : State} (h : s.Inv) (n : Nat) : (opConfigTimeout n s).Inv := by
  unfold opConfigTimeout
  with_reducible repeat' first | assumption | intro _ | apply State.modCards_inv | split

theorem encPctl_inv {s : State} (h : s.Inv) (path : Path) (n prog : Nat) (v : Word) : (encPctl path n prog v s).Inv := by
  unfold encPctl
  with_reducible repeat' first | assumption | intro _ | apply State.writeTo_inv | split

theorem opCardReceive_inv {s : State} (h : s.Inv) (n : Nat) (crcOk : Bool) : (opCardReceive n crcOk s).Inv := by
  unfold opCardReceive
  dsimp only
  with_reducible repeat' first | assumption | intro _ | apply State.modCards_inv | apply State.ringRecord_inv | split

theorem lanePctl_inv {s : State} (h : s.Inv) (path : Path) (n lane bit : Nat) : (lanePctl path n lane bit s).Inv := by
  unfold lanePctl
  dsimp only
  with_reducible repeat' first | assumption | intro _ | apply State.unitReset_inv | apply State.writeTo_inv | split

theorem audCtl_inv {s : State} (h : s.Inv) (path : Path) (n port side : Nat) (v : Word) : (audCtl path n port side v s).Inv := by
  unfold audCtl
  with_reducible repeat' first | assumption | intro _ | apply State.writeTo_inv | split

theorem opWatchdog_inv {s : State} (h : s.Inv) (n p : Nat) (hn : n ≤ 4) : (opWatchdog n p s).Inv := by
  unfold opWatchdog
  exact State.inv_ite (fun _ => State.trigger_inv (State.modUmp_inv (State.fault_inv h _) _) _ _ _ _ hn) (fun _ => h)

theorem opSuppressed_inv {s : State} (h : s.Inv) (source typ : Nat) : (opSuppressed source typ s).Inv := by
  unfold opSuppressed
  with_reducible repeat' first | assumption | intro _ | apply State.logSuppressed_inv | split

theorem opStatusRead_inv {s : State} (h : s.Inv) (path : Path) : (opStatusRead path s).Inv := by
  unfold opStatusRead
  dsimp only
  with_reducible repeat' first | assumption | intro _ | apply State.put_inv | apply State.readAt_inv | split


end Sys2Proof.Machine
end

