-- ==== Sys2Proof/Tests/Slice0.lean ====
section
/-! SUPPORT. Ill-formed commands, values that the specification works out, single steps, and for every statement states that
meet its hypotheses, clause by clause, at the ends of their ranges. -/

open Sys2Proof Sys2Proof.Machine

set_option Elab.async false

namespace Sys2Proof.Tests

/-! ### States -/

/-- An image without a body: MAGIC, LENGTH 0x100, and the digest of no bytes as FIPS 180-4's examples give it; its signature is
zero. -/
def emptyDigest : List Byte := bytesBE 48
  0x38B060A751AC96384CD9327EB1B1E36A21FDB71114BE07434C0CC7BF63F6E1DA274EDEBFE76F65FBD51AD2F14898B95B
def img : List Byte :=
  bytesLE 4 0x555A4B53 ++ List.replicate 4 0#8 ++ bytesLE 4 0x100 ++ List.replicate 52 0#8 ++ emptyDigest ++ List.replicate 144 0#8

/-- All supplies good, the hub ready, the link in L0, CU0 to CU3 in RUN, CU4 COLD, every stack trained. -/
def up : State :=
  let s := State.reset
  { s with
    power := { units := List.replicate 4 { state := .run, trained := true } ++ [{ trained := true }] }
    centre := { s.centre with
      hub := { powered := true, ready := true, perst := true, link := true, bank := { regs := [(0x100, 0x1063#32)] }
               fns := List.replicate 6 { busMaster := true } }
      ump := { s.centre.ump with starting := false, pwrGood := true, vddHub := true, image := some img } } }

/-- `up` with CU0 changed, with fields of CU0 set, with the power of a unit, the hub, the umpire, the time changed. -/
def cu (f : Chan → Chan) : State := up.modChan 0 f
def sets (l : List (Fld × Nat)) (c : Chan) : Chan := l.foldl (fun c x => c.set x.1 x.2) c
def regs (l : List (Fld × Nat)) : State := cu (sets l)
def pow (n : Nat) (u : UnitPower) : State := { up with power := { up.power with units := up.power.units.set n u } }
def hubs (f : Hub → Hub) : State := up.modHub f
def umps (f : Umpire → Umpire) : State := up.modUmp f
def at_ (t : Nat) (s : State) : State := { s with centre := { s.centre with xcount := t } }
def ltssm (v : Nat) : State := up.hset Reg.HST_LINK_STAT_LTSSM v
/-- Device time of CU0 in units of 2⁻¹⁶ ns; its timing unit's age in crystal periods. -/
def timed (t : Nat) (c : Chan) : Chan := c.modTim (fun x => { x with fine := t * 2 ^ 32 })
def aged (t : Nat) (c : Chan) : Chan := c.modTim (fun x => { x with age := t })
/-- VF1 exists. -/
def vf : State := hubs (fun h => { h with vfEnable := true, numVfs := 1 })
/-- The umpire has no supply; a substitution waits at step 5 of R433 for CU4, at step 4. -/
def off : State := umps (fun u => { u with on := false })
def step5 (s : State) : State := s.modSubst (fun x => { x with state := 1, step := 5, benchEn := true, src := 0, dst := 4 })
def step4 : State := up.modSubst (fun x => { x with state := 1, step := 4, benchEn := true, src := 0, dst := 4 })

/-- The register and the table that an offset of a unit window reaches. -/
def regAt (o : Nat) : RegDef :=
  match unitHit o with
  | .reg _ _ _ _ d => d
  | _ => ⟨"", 0, 0, 0, 0, 0, 0, false, .none, .none, []⟩
def hubRegAt (o : Nat) : RegDef :=
  match hubHit o with
  | .reg _ _ _ _ d => d
  | _ => ⟨"", 0, 0, 0, 0, 0, 0, false, .none, .none, []⟩
def tabAt (o : Nat) : TableDef :=
  match unitHit o with
  | .idx _ _ t | .data _ _ _ t => t
  | _ => ⟨"", 0, 0, 0, 0, 0, 0, false, .none, []⟩
def hubTabAt (o : Nat) : TableDef :=
  match hubHit o with
  | .idx _ _ t | .data _ _ _ t => t
  | _ => ⟨"", 0, 0, 0, 0, 0, 0, false, .none, []⟩

/-- Ring `i` enabled with sixteen entries; its stage. -/
def ringed (i : Nat) : State := (up.setRingWord i 4 0x80004).setRingWord i 5 (2 ^ 17 + 1)
def staged (i : Nat) (x : Stage) : State := (ringed i).modRing i (fun r => { r with stage := x })
def descr : Descr := { addr := 0x1000, length := 4096, int := true, inline_ := false, timed := false, param := [], clean := true }
def evt : EventRec := { typ := 0xFE, src := 0, timebase := false, overflow := false, block := 31, seq := 0, time := 0, due := 0, arg0 := 0, arg1 := 0 }
def queued (l : List EventRec) (s : State) : State := { s with queues := [{ recs := l }, {}, {}, {}, {}, {}] }

/-- A management request in I3C mode: TAG 1, LEN, the arguments and the CRC-8 over OPCODE and those (R132). -/
def req (op : Nat) (args : List Nat) : MgtReq :=
  let bs := [1#8, BitVec.ofNat 8 args.length] ++ args.map (BitVec.ofNat 8)
  { bytes := bs ++ [BitVec.ofNat 8 (crc8 (BitVec.ofNat 8 op :: bs))] }

/-- A packet on `n` lanes of group 0 of CU0, as code groups from negative disparity (R361, R362). -/
def run (n : Nat) (bytes : List Byte) : ColumnRun :=
  { group := 0, rds := List.replicate n false, columns := codeColumns (List.replicate n false) (packetSyms n bytes) }

/-! ### Ill-formed commands -/

/-- One command for each check of `Instr.wf` that fails that check alone. -/
def illFormed : List Instr :=
  let p : Path := .pf
  [ .vddAuxRise { addr := 4 }, .vddAuxRise { link := 4 }, .auxRstAssert { addr := 4 } {}, .pwrGoodRise 4, .powerFail ⟨true, 4⟩,
    .hbmTrainingStart [5], .hbmTrainingDone 0 33, .ltssmChange 8 1 1 false, .ltssmChange 3 7 1 false,
    .ltssmChange 3 1 3 false, .configRequest (.read 6 0), .configRequest (.read 0 4096), .configRequest (.read 0 2),
    .configRequest (.feature 6 .aer), .configRequest (.readAer 6), .configRequest (.clearAer 0 16),
    .configRequest (.deviceControl 0 8 0 true true), .configRequest (.deviceControl 0 0 8 true true),
    .configRequest (.busMaster 6 true), .configRequest (.sriov true 6), .configRequest (.msix 6 true false) ] ++
  [ .configRequest (.write 6 0 0), .configRequest (.write 0 0 (2 ^ 32)), .d3hotEntry 6, .d0Return 6, .avsTimeout 6,
    .marginComparator 6, .avsStepDue 6, .forcedStep 0 0, .forcedStep 0 5, .regWrite p 1 0 0 15, .regWrite p 0 (2 ^ 26) 0 15,
    .regWrite p 0 2 0 15, .latchedRead p ⟨1, 0, false⟩, .latchedRead p ⟨0, 2, false⟩, .readClear p 2, .tableIdxWrite p 2 0,
    .tableDataWrite p 2 0, .tableDataRead p 2, .revert p 2 0, .errClear p 2, .intClr p 2 0, .blockTimeout none 32 0,
    .blockTimeout none 0 (2 ^ 32), .doorbell p (some 0) 32 0, .doorbell p none 1 0, .ringEnable p (some 0) 32 ] ++
  [ .ringDisable p none 1, .descriptorComplete 161, .msixModerationTimeout 161, .dmaReadTimeout 162,
    .pcieCompletion 162 (.error false), .bar2Write p (2 ^ 38) [0] false, .bar2Read p ⟨2 ^ 38, false⟩ 1 [],
    .unknownOpcode 256 {}, .entdaa 128, .setdasa 128, .setmwl (2 ^ 16), .setmrl (2 ^ 16), .rstact 256,
    .linePacket 0 { group := 5, rds := [], columns := [] }, .ubnenSReceive 0 5 [] [],
    .taskComplete 0 0x51 {}, .flipArm p 0 4 0, .flipApply 0 0 8, .cycle p 0 8, .freeze p 0 8, .pcrOnlyPacket 0 8,
    .watchdog 0 8, .pathUnderrun 0 2, .laneUp 0 5 [], .laneOrder 0 5 false, .alignLost 0 5 ] ++
  [ .referenceQualified 0 5 0, .referenceAbsent 0 5, .timDrift 0 5 0, .revertSwitch 0 5, .hardCrossing 0 5 0,
    .timContest 0 ⟨5, 0⟩ ⟨0, 0⟩, .contestWindowEnd 0 ⟨0, 0⟩ ⟨5, 0⟩ 0, .pairAgree 0 ⟨0, 0⟩ ⟨5, 0⟩, .laneSignalDetect 0 16, .cdrLock 0 21,
    .commaAlign 0 16, .polarityPass 0 16, .polarityInvert 0 16, .bringupTimeout 0 16, .adaptationUpdate 0 16 [],
    .laneLost 0 0 4 0, .fomUpdate 0 0 256, .alignmentMarker 0 20 0 0 0 0, .alignmentMarker 0 0 256 0 0 0,
    .autonegComplete 0 (2 ^ 16), .sLaneTxStart 0 4, .eyeScan p 0 20, .eyeScanDone 0 16 [], .prbsClear p 0 16,
    .prbsLock 0 16 [] [] [] ] ++
  [ .tdmFrame 0 4 .absent ⟨[], []⟩ [], .tdmFrameTransmit 0 4 .absent [], .maskArm p 0 0 2, .restartRequest p 0 4 0,
    .bitClockLoss 0 4 0, .substGo p 5, .substReturn p 5, .suppressed 16 0, .suppressed 0 (2 ^ 16), .bankSupplyChange 7 true ]

theorem test_wf_refuses : illFormed.all (fun i => !i.wf) = true := by decide +kernel

/-- The greatest operands in range. -/
theorem test_wf_takes :
    [ Instr.vddAuxRise { addr := 3, link := 3 }, .powerFail ⟨false, 3⟩, .hbmTrainingDone 4 32, .ltssmChange 7 6 16 true,
      .configRequest (.write 5 4092 0xFFFFFFFF), .configRequest (.deviceControl 5 7 7 true true), .forcedStep 4 4,
      .regWrite .pf 4 0x3FFFFFC 0 15, .blockTimeout none 31 0, .doorbell .pf (some 4) 31 0, .doorbell .pf none 0 0,
      .descriptorComplete 160, .dmaReadTimeout 161, .bar2Write .pf (2 ^ 38 - 1) [0] false, .taskComplete 0 0x50 {},
      .cdrLock 0 20, .laneLost 0 15 3 0, .tdmFrame 0 3 .absent ⟨[], []⟩ [], .bankSupplyChange 6 true ].all Instr.wf = true := by
  decide +kernel

/-! ### Values that the specification works out -/

/-- The text on due times in 00_scope.md: (17, 2,300) is 0x001108FC. -/
theorem test_due : tickOf 17 2300 = 0x001108FC ∧ tickFrame 0x001108FC = 17 ∧ tickLine 0x001108FC = 2300 := by decide

/-- R76's example: page 0 of TIM in CU3 is at 0x02920000. -/
theorem test_bar0 : pfTarget 0x02920000 = .unit 3 0x120000 ∧ bar0Unit 3 0x120000 = 0x02920000 := by decide +kernel

/-- R206's example: alpha 0x80 widens to 0x8080. -/
theorem test_alpha : wideAlpha 8 0x80 = 0x8080 ∧ wideAlpha 8 0xFF = 0xFFFF ∧ wideAlpha 10 0x3FF = 0xFFFF := by decide

/-- The example after R213: 0x80FF4000 at GALPHA 0xC000 over C0 of 30,000 gives 24,874. -/
theorem test_blend :
    a17 0x8080 = 32897 ∧ a17 0xC000 = 49153 ∧ rnd16 (32897 * 49153) = 24673 ∧
      (layerSample 2 0x80FF4000 (fun _ => 0)).px.c0 = 16384 ∧
      (blend false 0xC000 (layerSample 2 0x80FF4000 (fun _ => 0)) ⟨30000, 0, 0⟩).c0 = 24874 := by decide

/-- The check values of R221 and R364: the CRC-32 and the HCRC of "123456789". -/
theorem test_crc :
    let digits : List Byte := [0x31, 0x32, 0x33, 0x34, 0x35, 0x36, 0x37, 0x38, 0x39]
    crc32 digits = 0xCBF43926 ∧ crc16 digits = 0x29B1 ∧ crc32 [] = 0 := by decide +kernel

/-- The example after R217: full-range BT.709 white into narrow-range Y is 4,096 + 56,064 within the rounding of its weights. -/
theorem test_matrix :
    let m (j : Nat) : Int := [40098, 4048, 11919].getD j 0
    matrixRow m (fun _ => 0) 4096 ⟨0, 0, 0⟩ = 4096 ∧ matrixRow m (fun _ => 0) 4096 ⟨65535, 65535, 65535⟩ = 60160 := by decide

/-- FIPS 180-4's example values of SHA-384: no bytes, and "abc". -/
theorem test_sha384 :
    sha384 [] = emptyDigest ∧ sha384 [0x61#8, 0x62#8, 0x63#8] = bytesBE 48
      0xCB00753F45A35E8BB5A03D699AC65007272C32AB0EDED1631A8B605A43FF5BED8086072BA1E7CC2358BAECA134C825A7 := by
  decide +kernel

/-- The base point of P-384 and its order, of FIPS 186-5: the point lies on the curve. -/
theorem test_p384 :
    let x := p384G.1
    let y := p384G.2
    let b := 0xB3312FA7E23EE7E4988E056BE3F82D19181D9C6EFE8141120314088F5013875AC656398D8A2ED19D2A85C8EDD3EC2AEF
    (y * y) % p384P = (x * x * x + (p384P - 3) * x + b) % p384P := by decide +kernel

/-- R361 names K28.5, K28.1, K27.7, K29.7 and K30.7; Clause 36 gives K28.5 as 001111 1010 and 110000 0101, D21.5 as 101010 1010. -/
theorem test_code_groups :
    codeGroup false symIdle = 0b0011111010 ∧ codeGroup true symIdle = 0b1100000101 ∧
      codeGroup false (.data 0xB5#8) = 0b1010101010 ∧ readGroup false 0b0011111010 = some symIdle ∧
      readGroup true 0b0011111010 = none := by decide +kernel

/-- The digests of RFC 1321 for no bytes and for "abc". -/
theorem test_md5 :
    md5 [] = bytesBE 16 0xD41D8CD98F00B204E9800998ECF8427E ∧
      md5 [0x61#8, 0x62#8, 0x63#8] = bytesBE 16 0x900150983CD24FB0D6963F7D28E17F72 := by decide +kernel

/-! ### Single steps -/

/-- What a test asks of the state after one step. -/
def after (s : State) (p : State → Bool) : Bool :=
  match step s with
  | .next t => p t
  | _ => false

/-- R76, R81: a write of PH in a lane page reaches the unit that was addressed and no other. -/
theorem test_write_reaches_one_unit :
    after { up with pending := [.regWrite .pf 0 0x01120024 7 15] } (fun t => t.pending == [] && t.chan 1 == up.chan 1) = true := by
  decide +kernel

/-- R55: the front of a queue of two is taken first; the loss of VDD_AUX stops the umpire. -/
theorem test_front_first :
    after { up with pending := [.vddAuxLoss, .thermTripRelease] } (fun t => !t.ump.on && t.pending == [.thermTripRelease]) = true := by
  decide +kernel

/-- No row of the table has bits. -/
theorem test_no_word : decodeTableWord 32 0 = none ∧ State.reset.withFetchWord 32 0 = State.reset := ⟨rfl, rfl⟩

/-! ### Witnesses: hypotheses of the statements, met together -/

theorem test_witness_IdleAndOff :
    (up.pending = [] ∧ up.ump.on = true) ∧ (off.pending = [] ∧ off.ump.on = false) := by
  and_intros <;> decide +kernel

/-- A command that the off state of the umpire leaves without effect, in that state. -/
theorem test_witness_Off :
    off.ump.on = false ∧ (∀ x, Instr.logClear .pf ≠ .vddAuxRise x) ∧ ∀ b u, Instr.logClear .pf ≠ .bankSupplyChange b u :=
  ⟨by decide +kernel, fun _ h => Instr.noConfusion h, fun _ _ h => Instr.noConfusion h⟩

/-- A state of the invariant that steps. -/
theorem test_witness_StepKeepsInvariant : up.Inv ∧ ∃ t, step up = .next t :=
  ⟨⟨by decide +kernel, by decide +kernel, by decide +kernel, by decide +kernel, by decide +kernel, by decide +kernel⟩, _, rfl⟩

theorem test_witness_SettledStays : State.atRest up up := by
  unfold State.atRest
  and_intros <;> decide +kernel

theorem test_witness_UnitFrame :
    ((Instr.lockLost ⟨0, 0⟩).unitEvent = some 0 ∧ up.ump.on = true ∧ up.running 0 = true) ∧
    ((Instr.lockLost ⟨4, 0⟩).unitEvent = some 4 ∧ up.ump.on = true ∧ up.running 4 = false) := by
  and_intros <;> decide +kernel

/-- A command that completes within CU0 and after which nothing follows. -/
theorem test_witness_UnitFrameEffect :
    CompletesIn (.lockLost ⟨0, 0⟩) 0 up (opLockLost 0) ∧ up.ump.on = true ∧
      State.atRest { up with centre := { up.centre with out := [] } }
        (State.modChan 0 (opLockLost 0) { up with centre := { up.centre with out := [] } }) := by
  refine ⟨?_, by decide +kernel, ?_⟩
  · unfold CompletesIn Completes
    rfl
  · unfold State.atRest
    and_intros <;> decide +kernel

theorem test_witness_LaneAndTimingFrames :
    ((Instr.lrefLoss 3).laneEvent = some 3 ∧ up.live 3) ∧ ((Instr.lockLost ⟨3, 0⟩).timingEvent = some 3 ∧ up.live 3) := by
  simp only [State.live]
  and_intros <;> decide +kernel

theorem test_witness_VfWritesStayInside : vf.ump.on = true ∧ 0x7FFFFC < 0x00800000 := by
  and_intros <;> decide +kernel

theorem test_witness_FieldsReadBack :
    (Reg.SCH_MODE.lo + Reg.SCH_MODE.w ≤ 32 ∧ Reg.TIM_STAT_SEL.lo + Reg.TIM_STAT_SEL.w ≤ 32 ∧
      storeWf unitReset (Chan.init 0).bank.regs = true ∧ Reg.TIM_STAT_SEL.key ≠ Reg.SCH_MODE.key) ∧
    (Reg.TIM_STAT_STANDBY.key = Reg.TIM_STAT_SEL.key ∧
      (Reg.TIM_STAT_STANDBY.lo + Reg.TIM_STAT_STANDBY.w ≤ Reg.TIM_STAT_SEL.lo ∨
        Reg.TIM_STAT_SEL.lo + Reg.TIM_STAT_SEL.w ≤ Reg.TIM_STAT_STANDBY.lo)) := by
  and_intros <;> decide +kernel

theorem test_witness_Supplies :
    off.ump.on = false ∧ (up.ump.on = true ∧ up.ump.vddHub = true ∧ up.ump.pwrGood = true) ∧
    (State.reset.ump.on = true ∧ State.reset.ump.vddHub = false ∧ State.reset.ump.pwrGood = false) := by
  and_intros <;> decide +kernel

/-- CU4 in training, for the first time and again, and with a start to RUN held for it; a hub that is not ready. -/
def trains (u : UnitPower) : State := pow 4 { u with training := true }
def unready : State := hubs fun h => { h with ready := false }

theorem test_witness_Training :
    (unready.ump.on = true ∧ unready.hub.powered = true ∧ unready.hub.ready = false) ∧
    (up.ump.on = true ∧ up.hub.ready = true ∧ (up.pw 4).training = false) ∧
    (State.reset.ump.on = true ∧ State.reset.hub.powered = false) ∧
    ((trains {}).ump.on = true ∧ ((trains {}).pw 4).training = true ∧ 32 ≠ 0 ∧ ((trains {}).pw 4).retried = false) ∧
    (((trains { retried := true }).pw 4).retried = true ∧ ((trains { retried := true }).pw 4).held = none ∧
      (trains { retried := true }).substBusy = false) ∧
    (((trains { retried := true, held := some (3, 0) }).pw 4).held.isSome = true ∧
      ((trains { retried := true, held := some (3, 0) }).pw 4).retried = true ∧
      (trains { retried := true, held := some (3, 0) }).substBusy = false) ∧
    (((step5 (trains { retried := true })).pw 4).held = none ∧ (step5 (trains { retried := true })).substBusy = true ∧
      ((step5 (trains { retried := true })).pw 4).retried = true ∧
      (step5 (trains { retried := true })).subst.step = 5 ∧ (step5 (trains { retried := true })).subst.dst = 4) := by
  and_intros <;> decide +kernel

theorem test_witness_LinkEvents :
    (unready.ump.on = true ∧ unready.hub.ready = false) ∧
    ((ltssm 0).ump.on = true ∧ (ltssm 0).hub.ready = true ∧ (ltssm 0).hget Reg.HST_LINK_STAT_LTSSM = 0) ∧
    ((ltssm 1).hub.ready = true ∧ (ltssm 1).hget Reg.HST_LINK_STAT_LTSSM ∈ [1, 2, 3, 4, 6]) ∧
    ((ltssm 6).hub.ready = true ∧ (ltssm 6).hget Reg.HST_LINK_STAT_LTSSM ∈ [1, 2, 3, 4, 6]) ∧
    ((ltssm 7).hub.ready = true ∧
      ((ltssm 7).hget Reg.HST_LINK_STAT_LTSSM = 5 ∨ (ltssm 7).hget Reg.HST_LINK_STAT_LTSSM = 7)) ∧
    (State.reset.ump.on = true ∧ State.reset.hub.link = false) ∧
    (up.hub.link = true ∧ up.hget Reg.HST_LINK_STAT_LTSSM ≠ 0) ∧
    ((ltssm 0).hub.link = true ∧ (ltssm 0).hget Reg.HST_LINK_STAT_LTSSM = 0) ∧
    ((ltssm 2).hub.ready = true ∧ (ltssm 2).hub.perst = true ∧ 7 ≤ 7 ∧ 6 + (ltssm 2).ump.straps.link ≤ 6 ∧
      (((ltssm 2).flitMode 7 true).getD true = true ∨ 6 ≤ 4) ∧ (16 ∈ [1, 2, 4, 8, 16] ∨ 16 = 0 ∧ 7 ≤ 2) ∧
      (ltssm 2).hget Reg.HST_LINK_STAT_LTSSM ≠ 7) ∧
    ((ltssm 1).hub.ready = true ∧ (ltssm 1).hub.perst = true ∧ 0 + (ltssm 1).ump.straps.link ≤ 6 ∧
      (((ltssm 1).flitMode 2 false).getD false = true ∨ 0 ≤ 4) ∧ (0 ∈ [1, 2, 4, 8, 16] ∨ 0 = 0 ∧ 2 ≤ 2) ∧
      (ltssm 1).hget Reg.HST_LINK_STAT_LTSSM ≠ 2) := by
  and_intros <;> decide +kernel

theorem test_witness_Functions :
    (up.ump.on = true ∧ up.linkUp = true ∧ up.fnExists 0 = true) ∧
    (vf.ump.on = true ∧ vf.linkUp = true ∧ vf.fnExists 1 = true ∧ 1 ≠ 0 ∧ 2 ≤ 2 ∧ 5 ≤ 5) ∧
    (up.fnExists 5 = false ∧ up.vfExists 4 = false) ∧ (State.reset.ump.on = true ∧ State.reset.linkUp = false) ∧
    (5 ≤ 5 ∧ (true ≠ up.hub.vfEnable ∨ 5 ≠ up.hub.numVfs)) ∧ (vf.linkUp = true ∧ vf.vfExists 0 = true) := by
  and_intros <;> decide +kernel

/-- Image loads: what the first word of the read, its length, the digest of a body of no bytes are. -/
def loads (len : Nat) (got : List Byte) (failed : Bool) : State :=
  (umps fun u => { u with loading := some { addr := 0, len := len, got := got, failed := failed } }).uset Reg.SUP_IMG_STAT_RESULT 1
def img5 : List Byte := bytesLE 4 0x555A4B53 ++ List.replicate 252 0#8
def img6 : List Byte := bytesLE 4 0x555A4B53 ++ List.replicate 4 0#8 ++ bytesLE 4 0x100 ++ List.replicate 244 0#8

theorem test_witness_ImageLoad :
    ((loads 256 [] false).opens .mgt (.hub 0x4015C) ∧ (loads 256 [] false).uget Reg.SUP_IMG_STAT_RESULT = 1) ∧
    (up.opens .pf (.hub 0x4015C) ∧ up.uget Reg.SUP_IMG_STAT_RESULT ≠ 1 ∧ up.uget Reg.SUP_IMG_LEN_LEN = 0) ∧
    ((up.uset Reg.SUP_IMG_LEN_LEN 0xFFFFF).opens .pf (.hub 0x4015C) ∧
      (up.uset Reg.SUP_IMG_LEN_LEN 0xFFFFF).uget Reg.SUP_IMG_STAT_RESULT ≠ 1 ∧
      (up.uset Reg.SUP_IMG_LEN_LEN 0xFFFFF).uget Reg.SUP_IMG_LEN_LEN ≠ 0) ∧
    (up.ump.on = true ∧ up.ump.loading = none) ∧
    ((loads 256 img false).ump.on = true ∧
      (loads 256 img false).ump.loading = some { addr := 0, len := 256, got := img } ∧ img.length = 256 ∧
      imgMagic img = 0x555A4B53 ∧ imgLength img = 256 ∧ sha384 (imgBody img) = imgDigest img) ∧
    ((List.replicate 256 0#8).length = 256 ∧ imgMagic (List.replicate 256 0#8) ≠ 0x555A4B53) ∧
    (img5.length = 256 ∧ imgMagic img5 = 0x555A4B53 ∧ imgLength img5 ≠ 256) ∧
    (img6.length = 256 ∧ imgMagic img6 = 0x555A4B53 ∧ imgLength img6 = 256 ∧ sha384 (imgBody img6) ≠ imgDigest img6) ∧
    ((loads 256 [] true).ump.loading = some { addr := 0, len := 256, failed := true }) ∧
    ((img.take 255).length < 256) ∧
    ((imgLast (some (.data img)) ((loads 256 [] false).modUmp (fun u => { u with
      loading := u.loading.map (fun l => { l with asked := 256 }) }))).ump.loading =
        some { addr := 0, len := 256, got := img }) := by
  simp only [State.opens]
  and_intros <;> decide +kernel

theorem test_witness_PowerRequests :
    (up.opens .pf (.hub (0x40110 + 4 * 0)) ∧ up.requestCode 0 1 0 ≠ 0 ∧ up.requestCode 0 2 0 = 0 ∧ up.requestCode 0 3 0 = 0) ∧
    (up.opens .mgt (.hub (0x40110 + 4 * 3)) ∧ up.requestCode 3 1 255 = 0) ∧
    (up.opens .pf (.hub (0x40110 + 4 * 4)) ∧ up.requestCode 4 2 0 ≠ 0 ∧ up.requestCode 4 3 0 ≠ 0) := by
  simp only [State.opens]
  and_intros <;> decide +kernel

/-- CU0 held, on its way in a move; waiting with a request; with its die shut. -/
def moves (st : Power) (m : Move) (forced : Bool) : State := pow 0 { state := st, trained := true, move := m, forced := forced }
def holds (u : UnitPower) : State := pow 0 { u with trained := !u.training }
def shut0 : State := up.modDie 0 (fun x => { x with shut := true })
/-- CU4 on its way to RUN as the bench unit of a substitution, CU0 being COLD; the same with no image. -/
def bench4 : State :=
  let s := step5 (pow 4 { trained := true, move := .start true })
  { s with power := { s.power with units := s.power.units.set 0 { trained := true } } }
def bench4none : State := bench4.modUmp (fun u => { u with image := none })

theorem test_witness_PowerMoves :
    ((moves .cold (.start false) false).ump.on = true ∧ ((moves .cold (.start false) false).pw 0).move = .start false ∧
      (StartResult.good ≠ .badMemory ∨ ((moves .cold (.start false) false).pw 0).state = .held)) ∧
    ((moves .held (.start true) false).ump.on = true ∧ ((moves .held (.start true) false).pw 0).move = .start true ∧
      ((moves .held (.start true) false).pw 0).state = .held ∧ (moves .held (.start true) false).imageGood .good = true ∧
      (moves .held (.start true) false).imageGood (.body [1#8]) = false ∧
      (moves .held (.start true) false).substBusy = false) ∧
    (bench4.ump.on = true ∧ (bench4.pw 4).move = .start true ∧ StartResult.good ≠ .badMemory ∧
      bench4.imageGood .good = true ∧ bench4.substBusy = true ∧ bench4.subst.step = 5 ∧ bench4.subst.dst = 4) ∧
    (bench4none.ump.on = true ∧ (bench4none.pw 4).move = .start true ∧ bench4none.imageGood .good = false ∧
      bench4none.substBusy = true ∧ bench4none.subst.step = 5 ∧ bench4none.subst.dst = 4) ∧
    (((moves .parked (.start true) false).pw 0).move = .start true ∧ ((moves .parked (.start true) false).pw 0).state ≠ .held) ∧
    (up.ump.on = true ∧ (up.pw 0).move = .none ∧ 0 < up.power.units.length ∧ up.othersUp 0 < 4) ∧
    ((moves .held (.stop true) false).ump.on = true ∧ ((moves .held (.stop true) false).pw 0).move = .stop true ∧
      (((moves .held (.stop true) false).pw 0).forced = false ∨ true = false) ∧
      ((moves .held (.stop true) false).pw 0).held = none ∧ (moves .held (.stop true) false).substBusy = false) ∧
    (shut0.ump.on = true ∧ (shut0.die 0).shut = true) ∧
    ((holds { state := .run, held := some (4, 0) }).ump.on = true ∧ (holds { state := .run, held := some (4, 0) }).substBusy = false ∧
      ((holds { state := .run, held := some (4, 0) }).pw 0).held = some (4, 0) ∧
      (holds { state := .run, held := some (4, 0) }).mustWait 0 4 = false ∧
      ((holds { state := .run, held := some (4, 0) }).modPower 0 (fun u => { u with held := none })).requestCode 0 (min 4 3) 0 = 0 ∧
      ((holds { state := .run, held := some (4, 0) }).die 0).shut = false) ∧
    ((holds { held := some (1, 0) }).mustWait 0 1 = false ∧ ((holds { held := some (1, 0) }).pw 0).held = some (1, 0) ∧
      ((holds { held := some (1, 0) }).modPower 0 (fun u => { u with held := none })).requestCode 0 (min 1 3) 0 ≠ 0) ∧
    ((holds { training := true, held := some (3, 0) }).mustWait 0 3 = true ∧
      ((holds { training := true, held := some (3, 0) }).pw 0).held = some (3, 0)) ∧
    (up.substBusy = false ∧ (up.pw 0).held = none) ∧
    ((step5 up).ump.on = true ∧ (step5 up).substBusy = true ∧ (step5 up).subst.step = 5 ∧ (step5 up).subst.dst = 4 ∧
      ((step5 up).die 4).shut = false) := by
  and_intros <;> decide +kernel

theorem test_witness_Isolation :
    (up.ump.on = true ∧ up.running 4 = false ∧ up.substBusy = false ∧ (up.pw 4).held = none) ∧
    ((moves .held (.stop false) false).ump.on = true ∧ ((moves .held (.stop false) false).pw 0).move = .stop false ∧ 4 ≤ 4) ∧
    (up.pw 0).move = .none := by
  and_intros <;> decide +kernel

theorem test_witness_ParkFailures :
    ((moves .held (.stop true) true).ump.on = true ∧ ((moves .held (.stop true) true).pw 0).move = .stop true ∧
      ((moves .held (.stop true) true).pw 0).forced = true) ∧
    (((moves .held (.stop false) true).pw 0).move = .stop false ∨ ((moves .held (.stop false) true).pw 0).move = .none) := by
  and_intros <;> decide +kernel

theorem test_witness_RegisterHoles :
    (up.ump.on = true ∧ up.arrives .pf = true ∧ 0x3FFFFFC < barSize .pf ∧ 0x3FFFFFC % 4 = 0 ∧
      target .pf 0x3FFFFFC = .none 0x3FFFFFC ∧ target .pf 0x3800000 = .none 0x3800000) ∧
    (target .pf 0x104 = .hub 0x104 ∧ hubHit 0x104 = .hole .hst) ∧ (target .pf 0x40124 = .hub 0x40124 ∧ hubHit 0x40124 = .hole .sup) ∧
    (target .pf 0xFC = .hub 0xFC ∧ hubHit 0xFC = .common .hst 0xFC ∧ commonFields 0xFC = none) ∧
    (0x17FFFFC < barSize .pf ∧ target .pf 0x17FFFFC = .unit 0 0x7FFFFC ∧ up.running 0 = true ∧ unitHit 0x7FFFFC = .hole .hst ∧
      Block.hst.isUnit = false) ∧
    (0x1100FFC < barSize .pf ∧ target .pf 0x1100FFC = .unit 0 0x100FFC ∧ unitHit 0x100FFC = .hole .sch ∧
      Block.sch.isUnit = true) ∧
    (0x1100008 < barSize .pf ∧ target .pf 0x1100008 = .unit 0 0x100008 ∧ unitHit 0x100008 = .common .sch 8 ∧
      commonFields 8 = none) := by
  and_intros <;> decide +kernel

/-- CU0 with a commit pending; with the low word of CMP_LNEXT_ADDR of layer 0 held. -/
def committed : State := regs [(Reg.SCH_COMMIT_STAT_STATE, 2)]
def halved : State := cu (fun c => { c with bank := { c.bank with held := [(0x48110, 0xFFFFFFC0#32)] } })

theorem test_witness_RegisterWrites :
    (up.ump.on = true ∧ up.arrives .pf = true ∧ 0x11A0100 < barSize .pf ∧ target .pf 0x11A0100 = .unit 0 0x1A0100 ∧
      unitHit 0x1A0100 = .reg .evt 0 0 0 (regAt 0x1A0100) ∧ Block.evt.isUnit = true ∧ (regAt 0x1A0100).words = 1 ∧
      up.running 0 = true ∧ (regAt 0x1A0100).staged = false ∧ stagedMask 0x1A0100 = 0 ∧
      fieldsCode (regAt 0x1A0100).fields false (0x3FFF#32).toNat = 0 ∧ crossOk (regAt 0x1A0100).cross 0 0 (0x3FFF#32).toNat = true ∧
      (regAt 0x1A0100).act = .none ∧ (regAt 0x1A0100).fields.any (fun f => f.acc == .rw || f.acc == .w1c) = true) ∧
    (vf.ump.on = true ∧ vf.arrives (.vf 0) = true ∧ 0x1A0100 < barSize (.vf 0) ∧ target (.vf 0) 0x1A0100 = .unit 0 0x1A0100 ∧
      vf.running 0 = true ∧ fieldsCode (regAt 0x1A0100).fields false (0xFFFF#32).toNat ≠ 0) ∧
    (committed.running 0 = true ∧ 0x1100100 < barSize .pf ∧ target .pf 0x1100100 = .unit 0 0x100100 ∧
      unitHit 0x100100 = .reg .sch 0 0 0 (regAt 0x100100) ∧ (regAt 0x100100).words = 1 ∧ (regAt 0x100100).staged = true ∧
      (committed.chan 0).committing = true ∧ (regAt 0x100100).fields.any (·.live) = false) ∧
    ((up.chan 0).committing = false ∧ stagedMask 0x100100 ≠ 0 ∧ fieldsCode (regAt 0x100100).fields true (7#32).toNat = 0 ∧
      crossOk (regAt 0x100100).cross 0 0 (7#32).toNat = true ∧ (regAt 0x100100).act = .none ∧
      (regAt 0x100100).fields.any (fun f => f.acc == .rw || f.acc == .w1c) = true) ∧
    (14#4 ≠ 15#4 ∧ (blockFor (.unit 0) 0x100100).isUnit = true) ∧
    (0x3100100 < barSize .pf ∧ target .pf 0x3100100 = .unit 4 0x100100 ∧ up.running 4 = false) ∧
    (0x1141104 < barSize .pf ∧ target .pf 0x1141104 = .unit 0 0x141104 ∧ unitHit 0x141104 = .reg .aud 1 0 0 (regAt 0x141104) ∧
      (regAt 0x141104).words = 2 ∧ (regAt 0x141104).staged = true) ∧
    (halved.arrives .pf = true ∧ halved.running 0 = true ∧ target .pf 0x1048114 = .unit 0 0x48114 ∧ 0x1048114 < barSize .pf ∧
      unitHit 0x48114 = .reg .cmp 8 0 1 (regAt 0x48110) ∧ Block.cmp.isUnit = true ∧ (regAt 0x48110).words = 2 ∧
      ((regAt 0x48110).staged && (halved.chan 0).committing) = false ∧
      (halved.chan 0).bank.held.find? (fun y => y.1 == 0x48110) = some (0x48110, 0xFFFFFFC0#32) ∧ (regAt 0x48110).act = .none ∧
      fieldsCode (regAt 0x48110).fields (regAt 0x48110).staged ((0xFFFFFFC0#32).toNat + 2 ^ 32 * (5#32).toNat) = 0 ∧
      crossOk (regAt 0x48110).cross 8 0 ((0xFFFFFFC0#32).toNat + 2 ^ 32 * (5#32).toNat) = true ∧
      (regAt 0x48110).fields.any (fun f => f.acc == .rw || f.acc == .w1c) = true) ∧
    (target .pf 0x1100 = .hub 0x1100 ∧ 0x1100 < barSize .pf ∧ hubHit 0x1100 = .reg .hst 1 0 0 (hubRegAt 0x1100) ∧
      (hubRegAt 0x1100).words = 1 ∧ (hubRegAt 0x1100).staged = false ∧ fieldsCode (hubRegAt 0x1100).fields false (1#32).toNat = 0 ∧
      crossOk (hubRegAt 0x1100).cross 1 0 (1#32).toNat = true ∧ (hubRegAt 0x1100).act = .none ∧
      (hubRegAt 0x1100).fields.any (fun f => f.acc == .rw || f.acc == .w1c) = true) ∧
    (Path.pf ≠ .mgt ∧ 12 < msixSize (pathFn .pf) * 16) := by
  and_intros <;> decide +kernel

theorem test_witness_RegisterReads :
    (up.ump.on = true ∧ up.arrives .pf = true ∧ 0x11A0100 < barSize .pf ∧ target .pf 0x11A0100 = .unit 0 0x1A0100 ∧
      up.running 0 = true ∧ nowHigh (.unit 0) 0x1A0100 = false ∧ 0x1A0100 ≠ 0x120100 ∧
      (regAt 0x1A0100).fields.any (fun f => f.acc == .rc) = false ∧ unitHit 0x1A0100 = .reg .evt 0 0 0 (regAt 0x1A0100) ∧
      (regAt 0x1A0100).words = 1) ∧
    (0x1001118 < barSize .pf ∧ target .pf 0x1001118 = .unit 0 0x1118 ∧ nowHigh (.unit 0) 0x1118 = false ∧
      (regAt 0x1118).fields.any (fun f => f.acc == .rc) = false ∧ unitHit 0x1118 = .reg .lnk 1 0 0 (regAt 0x1118) ∧
      (regAt 0x1118).words = 2 ∧ target .pf 0x100111C = .unit 0 0x111C ∧ nowHigh (.unit 0) 0x111C = false ∧
      unitHit 0x111C = .reg .lnk 1 0 1 (regAt 0x1118)) ∧
    (0x1120104 < barSize .pf ∧ target .pf 0x1120104 = .unit 0 0x120104 ∧ unitHit 0x120104 = .reg .tim 0 0 0 (regAt 0x120104) ∧
      (regAt 0x120104).words = 1 ∧ nowHigh (.unit 0) 0x120104 = true) ∧
    (target .pf 0x1120100 = .unit 0 0x120100 ∧ unitHit 0x120100 = .reg .tim 0 0 0 (regAt 0x120100) ∧ (regAt 0x120100).words = 1) ∧
    (target .pf 0x1001110 = .unit 0 0x1110 ∧ nowHigh (.unit 0) 0x1110 = false ∧ unitHit 0x1110 = .reg .lnk 1 0 0 (regAt 0x1110) ∧
      (regAt 0x1110).words = 1 ∧ (regAt 0x1110).fields.any (fun f => f.acc == .rc) = true) ∧
    (0x3001110 < barSize .pf ∧ target .pf 0x3001110 = .unit 4 0x1110 ∧ up.running 4 = false) ∧
    (vf.arrives (.vf 0) = true ∧ Path.vf 0 ≠ .mgt ∧ 0x3FFC < (if Path.vf 0 = .pf then 0x10000 else 0x4000)) := by
  and_intros <;> decide +kernel

/-- The buffers after the word `v` of a table entry of CU0 arrives, `i` the word. -/
def filled (b : Block) (page i : Nat) (t : TableDef) (v : Word) : State :=
  let k := idxKey b page t
  let s := up.tableReady (.unit 0) .pf b t k
  let buf := s.tableBuf (.unit 0) b k
  s.modBankAt (.unit 0) b (fun r => { r with bufs := (k, { buf with w := buf.w.set i v }) :: r.bufs.filter (fun y => y.1 != k) })

theorem test_witness_TableAccess :
    (up.ump.on = true ∧ up.running 0 = true ∧ up.arrives .pf = true ∧ 0x1041120 < barSize .pf ∧
      target .pf 0x1041120 = .unit 0 0x41120 ∧ Block.cmp.isUnit = true ∧ unitHit 0x41120 = .idx .cmp 1 (tabAt 0x41120) ∧
      bitsOf (2#32).toNat 16 15 = 0 ∧ idxEntry (2#32).toNat < (tabAt 0x41120).entries) ∧
    (bitsOf (3#32).toNat 16 15 ≠ 0 ∨ (tabAt 0x41120).entries ≤ idxEntry (3#32).toNat) ∧
    (target .pf 0x1041130 = .unit 0 0x41130 ∧ unitHit 0x41130 = .data .cmp 1 3 (tabAt 0x41120) ∧
      ((tabAt 0x41120).staged && (up.chan 0).committing) = false ∧ 3 + 1 < (tabAt 0x41120).words) ∧
    (target .pf 0x1041134 = .unit 0 0x41134 ∧ unitHit 0x41134 = .data .cmp 1 4 (tabAt 0x41120) ∧ 4 + 1 = (tabAt 0x41120).words ∧
      (tabAt 0x41120).cross ≠ .ring ∧
      (let whole := filled .cmp 1 4 (tabAt 0x41120) 7
       let k := idxKey .cmp 1 (tabAt 0x41120)
       let ws := (whole.tableBuf (.unit 0) .cmp k).w.map BitVec.toNat
       (∀ j < (tabAt 0x41120).words, fieldsCode (((tabAt 0x41120).fields.filter (fun f => f.1 == j)).map (·.2))
         (tabAt 0x41120).staged (ws.getD j 0) = 0) ∧
       whole.entryCode (.unit 0) .cmp 1 (tabAt 0x41120) (idxEntry (whole.idxAt (.unit 0) .cmp k)) ws = 0)) ∧
    (target .pf 0x1048190 = .unit 0 0x48190 ∧ unitHit 0x48190 = .data .cmp 8 3 (tabAt 0x48180) ∧ 3 + 1 = (tabAt 0x48180).words ∧
      (tabAt 0x48180).cross ≠ .ring ∧
      (let whole := filled .cmp 8 3 (tabAt 0x48180) 1
       let k := idxKey .cmp 8 (tabAt 0x48180)
       let ws := (whole.tableBuf (.unit 0) .cmp k).w.map BitVec.toNat
       (∀ j < (tabAt 0x48180).words, fieldsCode (((tabAt 0x48180).fields.filter (fun f => f.1 == j)).map (·.2))
         (tabAt 0x48180).staged (ws.getD j 0) = 0) ∧
       whole.entryCode (.unit 0) .cmp 8 (tabAt 0x48180) (idxEntry (whole.idxAt (.unit 0) .cmp k)) ws ≠ 0)) ∧
    (committed.running 0 = true ∧ (tabAt 0x41120).staged = true ∧ (committed.chan 0).committing = true) := by
  simp only []
  and_intros <;> decide +kernel

/-- CU0 with an error of SCH recorded. -/
def erred : State := cu fun c => c.err .sch codeRANGE 0 0

theorem test_witness_BlockCommons :
    (erred.ump.on = true ∧ erred.arrives .pf = true ∧ pageReg 0x1100000 0x30 < barSize .pf ∧
      (Site.unit 0).hit 0x100030 = .common .sch 0x30 ∧ erred.running 0 = true ∧ Block.sch.isUnit = true ∧
      target .pf (pageReg 0x1100000 0x30 - pageReg 0x1100000 0x30 % 4) = .unit 0 0x100030) ∧
    ((Site.unit 0).hit 0x10002C = .common .sch 0x2C ∧
      target .pf (pageReg 0x1100000 0x2C - pageReg 0x1100000 0x2C % 4) = .unit 0 0x10002C) ∧
    ((Site.unit 0).hit 0x100010 = .common .sch 0x10 ∧ (0xFFFFFF01#32).toNat / 4 % 64 = 0 ∧ (erred.chan 0).committing = false ∧
      target .pf (pageReg 0x1100000 0x10 - pageReg 0x1100000 0x10 % 4) = .unit 0 0x100010) ∧
    (committed.ump.on = true ∧ committed.arrives .pf = true ∧ committed.running 0 = true ∧ (committed.chan 0).committing = true) ∧
    (up.ump.on = true ∧ up.arrives .mgt = true ∧ pageReg 0x40000 0x30 < barSize .mgt ∧ Site.hub.hit 0x40030 = .common .sup 0x30 ∧
      target .mgt (pageReg 0x40000 0x30 - pageReg 0x40000 0x30 % 4) = .hub 0x40030 ∧ Site.hub.hit 0x40010 = .common .sup 0x10 ∧
      target .mgt (pageReg 0x40000 0x10 - pageReg 0x40000 0x10 % 4) = .hub 0x40010) ∧
    (committed.live 0 ∧ Block.sch ∈ unitBlocks) ∧
    (State.reset.ump.on = true ∧ Block.sup ∈ hubBlocks ∧ Block.sup.ofUmpire = true) ∧
    (Block.dma ∈ hubBlocks ∧ up.hub.ready = true) := by
  simp only [State.live]
  and_intros <;> decide +kernel

def injected : Descr := { descr with addr := 0, length := 32, inline_ := true }
def delivers : State := queued [evt] (staged 29 (.hold injected))

theorem test_witness_Events :
    (up.live 0 ∧ up.opens .pf (.unit 0 0x1A0114)) ∧ up.opens .pf (.hub 0x1114) ∧
    (delivers.ump.on = true ∧ (delivers.ring (32 * 0 + 29)).stage = .hold injected ∧ (delivers.queues.getD 0 {}).recs = [evt] ∧
      delivers.ringReady (32 * 0 + 29) = true ∧ delivers.descrStatus (32 * 0 + 29) injected = 0) ∧
    (up.queues.getD 5 {}).recs = [] ∧
    ((queued (List.replicate 255 evt) up).queues[0]? = some { recs := List.replicate 255 evt } ∧ (List.replicate 255 evt).length < 256) ∧
    ((queued (List.replicate 256 evt) up).queues[0]? = some { recs := List.replicate 256 evt } ∧ 256 ≤ (List.replicate 256 evt).length) ∧
    1 ≠ 0 := by
  simp only [State.live, State.opens]
  and_intros <;> decide +kernel

theorem test_witness_Doorbells :
    (ringOk (some 4) 28 = true ∧ (ringed 156).opens .pf (.hub (ringPage (some 4) + 0x400 + 4 * 28)) ∧
      (ringed 156).ringOn (ringIx (some 4) 28) = true ∧
      ((16#32).toNat + 2 ^ 32 - (ringed 156).ringCi (ringIx (some 4) 28)) % 2 ^ 32 ≤ (ringed 156).ringSize (ringIx (some 4) 28) ∧
      (ringed 156).ringSize (ringIx (some 4) 28) < ((17#32).toNat + 2 ^ 32 - (ringed 156).ringCi (ringIx (some 4) 28)) % 2 ^ 32) ∧
    (ringOk none 0 = true ∧ up.opens .mgt (.hub (ringPage none + 0x400 + 4 * 0)) ∧ up.ringOn (ringIx none 0) = false) ∧
    (ringed 160).ringOn 160 = true := by
  simp only [State.opens]
  and_intros <;> decide +kernel

/-- The decoder's input ring of CU0 with a read outstanding; an image load with one. -/
def reads4 (lim : Nat) : State := (staged 4 (.read { descr with length := 8 } 0 [])).modRing 4 (fun r => { r with limit := lim })
def fetches (i : Nat) : State := staged i .fetch
def imgAsks : State := umps fun u => { u with loading := some { addr := 0, len := 256, asked := 128 } }
def gathers : State := up.modRing 4 (fun r => { r with gathered := 1 })

theorem test_witness_RingEvents :
    (vf.ump.on = true ∧ vf.arrives (.vf 0) = true ∧ ringOk (some 0) 31 = true ∧ ringIx (some 0) 31 < vf.hub.rings.length ∧
      reaches (.vf 0) (.hub (ringPage (some 0) + 0x110)) = true ∧ reaches (.vf 0) (.hub (ringPage (some 0) + 0x134)) = true ∧
      vf.ringOn (ringIx (some 0) 31) = false ∧ storeWf hubReset vf.hub.bank.regs = true) ∧
    ((ringed 128).ump.on = true ∧ (ringed 128).arrives .pf = true ∧ ringOk (some 4) 0 = true ∧
      ringIx (some 4) 0 < (ringed 128).hub.rings.length ∧ (ringed 128).ringOn (ringIx (some 4) 0) = true ∧
      reaches .pf (.hub (ringPage (some 4) + 0x110)) = true ∧ reaches .pf (.hub (ringPage (some 4) + 0x134)) = true ∧
      storeWf hubReset (ringed 128).hub.bank.regs = true) ∧
    (ringOk none 0 = true ∧ reaches .mgt (.hub (ringPage none + 0x110)) = true ∧ reaches .mgt (.hub (ringPage none + 0x134)) = true) ∧
    ((staged 160 (.ready descr 0 32 [])).ump.on = true ∧ ((staged 160 (.ready descr 0 32 [])).ring 160).stage = .ready descr 0 32 [] ∧
      (staged 160 (.ready descr 0 32 [])).ringOn 160 = true ∧ (staged 160 (.ready descr 0 32 [])).dlUp = true ∧
      (staged 160 (.ready descr 0 32 [])).engineWaits (ringEngine 160) = false) ∧
    ((fetches 4).ump.on = true ∧ 4 ≠ imgRing ∧ ((fetches 4).ring 4).stage = .fetch ∧
      ((fetches 4).ring 4).limit ≤ (fetches 4).centre.xcount) ∧
    (4 % 32 = 4 ∧ ((reads4 0).ring 4).stage = .read { descr with length := 8 } 0 [] ∧
      8 ≤ ([] ++ fit ((reads4 0).askedOf 4 { descr with length := 8 } []) (List.replicate 8 0#8)).length ∧
      ((reads4 0).ring 4).limit ≤ (reads4 0).centre.xcount ∧ (reads4 0).centre.xcount < ((reads4 1).ring 4).limit) ∧
    (up.ump.on = true ∧ (up.ring 4).stage = .idle ∧ (up.ring 4).gathered = 0) ∧
    (imgAsks.ump.on = true ∧ imgAsks.ump.loading = some { addr := 0, len := 256, asked := 128 } ∧ 128 ≠ 0 ∧
      0 ≤ imgAsks.centre.xcount) ∧
    (gathers.ump.on = true ∧ 0 < (gathers.ring 4).gathered) := by
  and_intros <;> decide +kernel

/-- Every table at HST's ring index offset, all of whose words may be stored with the entry enabled or disabled. -/
theorem test_witness_storable : ∀ p ∈ [(vf, 31, 1), (ringed 128, 128, 0)], ∀ b page t,
    hubHit (0x2110 + 0x1000 * (p.2.1 / 32)) = .idx b page t → ∀ j < t.words,
      fieldsCode ((t.fields.filter (fun f => f.1 == j)).map (·.2)) t.staged
        (if j = 5 then setBitsOf (p.1.ringWord p.2.1 5) 17 1 p.2.2 else p.1.ringWord p.2.1 j) = 0 := by
  intro p hp b page t ht
  simp only [List.mem_cons, List.not_mem_nil, or_false] at hp
  rcases hp with rfl | rfl
  · have e : hubHit (0x2110 + 0x1000 * (31 / 32)) = .idx .hst 2 (hubTabAt 0x2110) := by decide +kernel
    cases e.symm.trans ht
    decide +kernel
  · have e : hubHit (0x2110 + 0x1000 * (128 / 32)) = .idx .hst 6 (hubTabAt 0x6110) := by decide +kernel
    cases e.symm.trans ht
    decide +kernel

theorem test_witness_HostWindow :
    (up.ump.on = true ∧ up.arrives .pf = true ∧ 0x5FFFFFFE0 < 0x800000000 ∧ up.running 0 = true ∧
      0x5FFFFFFE0 + (List.replicate 32 1#8).length ≤ hbmSize ∧ (up.chan 0).sink.held + (List.replicate 32 1#8).length ≤ sinkSize) ∧
    (hbmSize < 0x5FFFFFFE1 + (List.replicate 32 1#8).length ∧ hbmSize ≤ 0x600000000 ∧ 0x5FFFFFFE0 < hbmSize) ∧
    (0x2000000000 + 0x5FFFFFFFF = 0x800000000 * 4 + 0x5FFFFFFFF ∧ up.running 4 = false ∧ 0x5FFFFFFFF < hbmSize) ∧
    (vf.arrives (.vf 0) = true ∧ vf.running 0 = true) ∧ 0x2800000000 ≤ 0x3FFFFFFFFF := by
  and_intros <;> decide +kernel

/-- A quench of CU0: its engines still stopping, and stopped. -/
def quenched (stopped : Bool) : State := up.modQuench 0 (fun q => { q with on := true, stopped := stopped })

theorem test_witness_Quenches :
    (up.opens .pf (.hub (0x2100 + 0x1000 * 0)) ∧ (up.quenchOf 0).stopped = false ∧ up.running 0 = true ∧ (up.quenchOf 0).on = false) ∧
    (up.opens .pf (.hub (0x2100 + 0x1000 * 4)) ∧ up.running 4 = false) ∧
    ((quenched true).opens .pf (.hub (0x2100 + 0x1000 * 0)) ∧ ((quenched true).quenchOf 0).on = true ∧
      ((quenched true).quenchOf 0).stopped = true) ∧
    ((quenched false).opens .pf (.hub (0x2100 + 0x1000 * 0)) ∧ ((quenched false).quenchOf 0).on = true ∧
      ((quenched false).quenchOf 0).stopped = false) := by
  simp only [State.opens]
  and_intros <;> decide +kernel

/-- `up` without an address of the management bus; with one; in SMBus mode; with a request in hand; under TEST_MODE. -/
def inHand : State := up.taken 0x10 (req 0x10 [])
def testMode : State := umps (fun u => { u with straps := { u.straps with test := true } })
def busDown : State := umps (fun u => { u with banks := u.banks.set 0 false })
def addressed (test : Bool) : State :=
  (umps (fun u => { u with straps := { u.straps with test := test } })).modMgt (fun m => { m with dyn := some 9 })
def smbus (alerts : Nat) : State := up.modMgt (fun m => { m with smbus := true, alerts := alerts })
def snapped : State := up.modMgt (fun m => { m with snap := some (4, 1, none) })

theorem test_witness_ManagementReads :
    (up.ump.on = true ∧ up.mgtUp = true ∧ up.ump.straps.test = false ∧ up.ump.mgt.pending = none) ∧
    (up.mgtOk 0x10 (req 0x10 []) = true ∧ reqArgs (req 0x10 []) = [] ∧ up.mgtOk 0x31 (req 0x31 []) = true) ∧
    (up.mgtOk 0x30 (req 0x30 [4]) = true ∧ reqArgs (req 0x30 [4]) = [4]) ∧
    (up.mgtOk 0x11 (req 0x11 [255, 3]) = true ∧ reqArgs (req 0x11 [255, 3]) = [(255#8).toNat, (3#8).toNat] ∧
      (255#8).toNat + 256 * (3#8).toNat < 1024) ∧
    (up.mgtOk 0x12 (req 0x12 [4, 1, 0]) = true ∧ reqArgs (req 0x12 [4, 1, 0]) = [4, 1, 0] ∧ 1 ≤ 1) ∧
    (snapped.mgtOk 0x12 (req 0x12 [4, 1, 127]) = true ∧ reqArgs (req 0x12 [4, 1, 127]) = [4, 1, 127] ∧ 127 ≤ 127 ∧
      snapped.ump.mgt.snap = some (4, 1, none) ∧ up.ump.mgt.snap = none ∧ snapped.ump.mgt.pending = none) ∧
    (up.mgtOk 0x01 (req 0x01 [0xFC, 0xFF, 0xFF, 3]) = true ∧ reqArgs (req 0x01 [0xFC, 0xFF, 0xFF, 3]) = wordBytes 4 0x03FFFFFC ∧
      0x03FFFFFC < 0x04000000 ∧ 0x03FFFFFC % 4 = 0 ∧ up.hub.ready = true) ∧
    (State.reset.ump.on = true ∧ State.reset.mgtUp = true ∧ State.reset.ump.straps.test = false ∧
      State.reset.ump.mgt.pending = none ∧ State.reset.hub.ready = false ∧
      State.reset.mgtOk 0x01 (req 0x01 [0xFC, 0xFF, 0xFF, 3]) = true) := by
  and_intros <;> decide +kernel

/-- CU0 in M1, and the bench unit designated since the reset. -/
def benched : State := (regs [(Reg.SCH_MODE, 1)]).modSubst (fun x => { x with sel := 4 })

theorem test_witness_ManagementWrites :
    (up.ump.on = true ∧ up.mgtUp = true ∧ up.ump.straps.test = false ∧ up.ump.mgt.pending = none ∧ up.hub.ready = true ∧
      up.mgtOk 0x02 (req 0x02 [0x44, 0, 0, 0, 9, 0, 0, 0]) = true ∧
      reqArgs (req 0x02 [0x44, 0, 0, 0, 9, 0, 0, 0]) = wordBytes 4 0x44 ++ wordBytes 4 (9#32).toNat) ∧
    (State.reset.hub.ready = false ∧ State.reset.mgtOk 0x02 (req 0x02 [0x44, 0, 0, 0, 9, 0, 0, 0]) = true) ∧
    (up.mgtOk 0x20 (req 0x20 [0, 3, 0]) = true ∧ reqArgs (req 0x20 [0, 3, 0]) = [0, 3, 0] ∧ 3 ≤ 3 ∧
      up.requestCode 0 3 0 = 0) ∧
    (up.mgtOk 0x20 (req 0x20 [4, 3, 255]) = true ∧ reqArgs (req 0x20 [4, 3, 255]) = [4, 3, 255] ∧ up.requestCode 4 3 255 ≠ 0) ∧
    (up.mgtOk 0x21 (req 0x21 [0]) = true ∧ reqArgs (req 0x21 [0]) = [0] ∧
      up.requestCode 0 3 (up.uget (Reg.SUP_UNIT_CTL_KEEP 0)) = 0 ∧ up.requestCode 4 3 (up.uget (Reg.SUP_UNIT_CTL_KEEP 4)) ≠ 0 ∧
      up.mgtOk 0x21 (req 0x21 [4]) = true ∧ reqArgs (req 0x21 [4]) = [4]) ∧
    (benched.mgtOk 0x22 (req 0x22 [0]) = true ∧ reqArgs (req 0x22 [0]) = [0] ∧ benched.goCode 0 = 0 ∧ up.goCode 0 ≠ 0) ∧
    (up.mgtOk 0x23 (req 0x23 [0x0F]) = true ∧ reqArgs (req 0x23 [0x0F]) = [0x0F] ∧ reqArgs (req 0x23 [4]) = [4]) ∧
    (up.mgtOk 0x24 (req 0x24 [0x1F]) = true ∧ up.mgtOk 0x25 (req 0x25 [0x1F]) = true ∧ reqArgs (req 0x25 [0x1F]) = [0x1F] ∧
      reqArgs (req 0x24 [0x1F]) = [0x1F]) ∧
    (up.mgtOk 0x3E (req 0x3E [1]) = true ∧ reqArgs (req 0x3E [1]) = [1]) := by
  and_intros <;> decide +kernel

theorem test_witness_ManagementRejects :
    (up.mgtFree ∧ up.mgtOk 0x11 {} = false ∧ up.mgtOk 0x20 (req 0x21 [0]) = false) ∧
    (inHand.ump.on = true ∧ inHand.mgtUp = true ∧ inHand.ump.straps.test = false ∧ inHand.ump.mgt.pending.isSome = true ∧
      inHand.mgtOk 0x20 (req 0x20 [0, 3, 0]) = true) ∧
    (up.mgtOk 0x20 (req 0x20 [0, 3]) = true ∧ (reqArgs (req 0x20 [0, 3])).length ≠ 3) ∧
    (up.mgtOk 0x20 (req 0x20 [5, 0, 0]) = true ∧ reqArgs (req 0x20 [5, 0, 0]) = [5, 0, 0] ∧ (4 < 5 ∨ 3 < 0)) ∧
    (up.mgtOk 0xFF (req 0xFF []) = true ∧ 0xFF < 256 ∧ unknownOp 0xFF = true) ∧
    (testMode.ump.on = true ∧ testMode.mgtUp = true ∧ testMode.ump.straps.test = true ∧
      testMode.mgtOk 0x10 (req 0x10 []) = true ∧ reqArgs (req 0x10 []) = [] ∧ testMode.ump.mgt.pending = none) ∧
    (busDown.ump.on = true ∧ busDown.mgtUp = false) ∧
    (up.ump.mgt.mode = none ∧ (up.modMgt (fun m => { m with mode := some true })).ump.mgt.mode = some true) ∧
    inHand.ump.mgt.pending = some (0x10, 1) ∧
    ((smbus 1).ump.on = true ∧ (smbus 1).mgtUp = true ∧ (smbus 1).ump.mgt.smbus = true ∧ (smbus 1).ump.straps.test = false ∧
      0 < (smbus 1).ump.mgt.alerts) ∧
    up.ump.mgt.alerts = 0 := by
  simp only [State.mgtFree]
  and_intros <;> decide +kernel

theorem test_witness_CommonCommandCodes :
    (up.ump.on = true ∧ up.mgtUp = true ∧ up.ump.mgt.smbus = false ∧ up.ump.mgt.dyn = none) ∧
    ((addressed false).mgtUp = true ∧ (addressed false).ump.mgt.dyn.isSome = true ∧ (addressed false).ump.straps.test = false ∧
      (addressed false).ump.mgt.smbus = false) ∧
    ((addressed true).mgtUp = true ∧ (addressed true).ump.mgt.dyn.isSome = true ∧ (addressed true).ump.straps.test = true) ∧
    ((smbus 0).ump.on = true ∧ (smbus 0).ump.mgt.smbus = true) := by
  and_intros <;> decide +kernel

/-! States of CU0 with a raster, programmes, tasks, sources, decoder. -/

def ms1 : Nat := 1000000 * 65536
def rast : Raster := { id := 1, pre := false, num := 60, den := 1, total := 1125, active := 1080, tick := 0, base := 0, index := 0 }
/-- The last tick of frame 5. -/
def rast5 : Raster := { rast with tick := tickOf 5 1124, index := 5 }
def rasters (r : Raster) (f : Chan → Chan) : State := cu (fun c => f { c with sched := { c.sched with raster := some r } })
def progs (g : Prog) : State := cu (fun c => { c with progs := c.progs.set 0 g })
/-- A commit of M1 waits for its verdict; one that keeps M7 is due at 1 ms, with slip at its target; one into M7 is due. -/
def checked (mode : Nat) : State :=
  cu (fun c => sets [(Reg.SCH_COMMIT_STAT_STATE, 1)] { c with bank := { c.bank with staged := [(0x100100, BitVec.ofNat 32 mode)] } })
def dueM7 (slip : Nat) : State := cu (fun c => timed ms1 (sets [(Reg.SCH_COMMIT_STAT_STATE, 2)]
  { c with sched := { c.sched with at_ := some 6 }, progs := c.progs.set 0 { on := true, slip := slip } }))
def leaves : State := rasters rast5 (sets [(Reg.SCH_MODE, 1), (Reg.SCH_COMMIT_STAT_STATE, 2)])
def newest : State := up.modCards 0 (fun y => { y with newest := some 3 })

theorem test_witness_CommitChecks :
    (up.live 0 ∧ up.opens .pf (.unit 0 0x100104) ∧ (up.chan 0).committing = false) ∧
    (vf.live 0 ∧ vf.opens (.vf 0) (.unit 0 0x100104) ∧ (vf.chan 0).committing = false) ∧
    (committed.live 0 ∧ committed.opens .pf (.unit 0 0x100104) ∧ (committed.chan 0).committing = true) ∧
    ((up.chan 0).get Reg.SCH_COMMIT_STAT_STATE ≠ 1) ∧
    ((checked 1).live 0 ∧ ((checked 1).chan 0).get Reg.SCH_COMMIT_STAT_STATE = 1 ∧
      admission ((checked 1).involved 0) ((checked 1).chan 0) = (some { code := 0x105, kind := 0, index := 0 }, 9)) ∧
    ((checked 7).live 0 ∧ ((checked 7).chan 0).get Reg.SCH_COMMIT_STAT_STATE = 1 ∧
      admission ((checked 7).involved 0) ((checked 7).chan 0) = (none, 3)) := by
  simp only [State.live, State.opens]
  and_intros <;> decide +kernel

theorem test_witness_CommitTakesEffect :
    ((dueM7 0).live 0 ∧ commitDue ((dueM7 0).chan 0) (incoming ((dueM7 0).chan 0)) = true) ∧
    (leaves.live 0 ∧ commitDue (leaves.chan 0) (incoming (leaves.chan 0)) = true) ∧
    (up.live 0 ∧ commitDue (up.chan 0) (incoming (up.chan 0)) = false ∧ slipDue (up.chan 0) (incoming (up.chan 0)) = false) ∧
    ((dueM7 1).live 0 ∧ slipDue ((dueM7 1).chan 0) (incoming ((dueM7 1).chan 0)) = true ∧
      noSlip ((dueM7 1).chan 0) = false) ∧
    (newest.ump.on = true ∧ (newest.card 0).newest = some 3) ∧ (up.card 0).newest = none := by
  simp only [State.live]
  and_intros <;> decide +kernel

/-- One context in the pool, of a kind, run by executor 0x40; a segment run by engine 15; a row that waits for contexts. -/
def ctx (k : Nat) : Ctx := { key := { prog := 0, pic := 0, row := 0, kind := k }, state := 4 }
def task (k : Nat) : State := cu (fun c => { c with sched := { c.sched with ctxs := [(0, ctx k)], others := [(0x40, 0)] } })
def segment : State := cu (fun c => { c with sched := { c.sched with
  ctxs := [(0, ctx 1)], engines := List.replicate 15 {} ++ [{ run := some 0 }] } })
def waitsPic (tiles : Nat) : PicSt := { serial := 0, cfg := { tiles := tiles }, frame := 0 }
def waitsRow : RowSt := { serial := 0, row := 0, release := 0, core := 0, due := 0 }
def waitsIn (l : List (Nat × Nat × Nat)) (tiles : Nat) : State := cu (fun c => { c with
  sched := { c.sched with waiting := l }, progs := [{ pics := [waitsPic tiles], rows := [waitsRow] }] })
def waiting (tiles : Nat) : State := waitsIn [(0, 0, 0)] tiles
def unqueued (tiles : Nat) : Chan := (waitsIn [] tiles).chan 0

theorem test_witness_Scheduler :
    (up.live 0 ∧ ¬ (beforeBoundary (up.chan 0) = true ∧ laysRaster (up.chan 0) (incoming (up.chan 0)) = false) ∧
      (up.chan 0).sched.raster = none) ∧
    ((rasters rast id).live 0 ∧ ¬ (beforeBoundary ((rasters rast id).chan 0) = true ∧
        laysRaster ((rasters rast id).chan 0) (incoming ((rasters rast id).chan 0)) = false) ∧
      ((rasters rast id).chan 0).sched.raster = some rast) ∧
    ((rasters rast5 id).live 0 ∧ beforeBoundary ((rasters rast5 id).chan 0) = true ∧
      laysRaster ((rasters rast5 id).chan 0) (incoming ((rasters rast5 id).chan 0)) = false ∧
      (opSlipPending (opCommitDone ((rasters rast5 id).chan 0))).sched.raster = some rast5) ∧
    (leaves.live 0 ∧ beforeBoundary (leaves.chan 0) = true ∧ laysRaster (leaves.chan 0) (incoming (leaves.chan 0)) = false ∧
      (opSlipPending (opCommitDone (leaves.chan 0))).sched.raster = none) ∧
    ((up.chan 0).sched.old[0]? = none ∧
      ((cu fun c => { c with sched := { c.sched with old := [rast] } }).chan 0).sched.old[0]? = some rast) ∧
    (15 < 16 ∧ ((up.chan 0).sched.engines.getD 15 {}).run = none ∧ 16 ≤ 0x40 ∧
      (up.chan 0).sched.others.find? (fun y => y.1 == 0x40) = none) ∧
    (segment.live 0 ∧ ((segment.chan 0).sched.engines.getD 15 {}).run = some 0 ∧ (segment.chan 0).ctx? 0 = some (ctx 1) ∧
      (ctx 1).key.kind = 1) ∧
    (∀ k < 6, ((task k).chan 0).sched.others.find? (fun y => y.1 == 0x40) = some (0x40, 0) ∧
      ((task k).chan 0).ctx? 0 = some (ctx k) ∧ (ctx k).key.kind = k ∧ (task k).ump.on = true ∧ (task k).running 0 = true) ∧
    (up.chan 0).sched.waiting = [] ∧
    (∀ t ∈ [1, 12100], ((waiting t).chan 0).sched.waiting = [(0, 0, 0)] ∧
      (((waiting t).chan 0).prog 0).pic? 0 = some (waitsPic t) ∧ (((waiting t).chan 0).prog 0).row? 0 0 = some waitsRow ∧
      (waiting t).ump.on = true ∧ (waiting t).running 0 = true) ∧
    (allocRow (unqueued 1) 0 (waitsPic 1) waitsRow).isSome = true ∧
    allocRow (unqueued 12100) 0 (waitsPic 12100) waitsRow = none := by
  simp only [State.live]
  and_intros
  all_goals first
    | decide +kernel
    | exact Option.isNone_iff_eq_none.1 (by decide +kernel)

/-- The body of a line packet of line 4 of a source 64 pixels wide, in packed 4:2:0 of 8 bits, with `bad` added to its CRC and
`hdr` to its HCRC. -/
def lineBody (bad hdr : Nat) : List Byte :=
  let h : List Byte := [0x10#8, 0#8, 19#8, 0#8] ++ bytesBE 2 7 ++ bytesBE 2 4 ++ bytesBE 2 (lineBytes 19 64) ++ List.replicate 4 0#8
  let p := List.replicate (lineBytes 19 64) 0x55#8
  h ++ bytesBE 2 (crc16 h + hdr) ++ p ++ bytesBE 4 (crc32 p + bad)
/-- CU0 with group 0 of four lanes aligned, that carries source 0, at a lead of `lt` line periods to line 4 of frame 0. -/
def capture (lt : Nat) : State := rasters rast (fun c => timed ((4 - lt) * secUnits / (60 * 1125)) (sets
  [(Reg.LNK_CFG_SPLIT, 1), (Reg.LNK_PCFG_MODE 0, 1), (Reg.LNK_PCFG_MODE 1, 1), (Reg.LNK_PCFG_MODE 2, 1),
   (Reg.LNK_PCFG_MODE 3, 1), (Reg.SCH_MODE, 1), (Reg.LNK_GSTAT_GROUP, 1), (Reg.CAP_SRC_CFG_EN 0, 1), (Reg.CAP_SRC_CFG_GROUP 0, 0),
   (Reg.CAP_SRC_GEOM_WIDTH 0, 64)] c))
/-- What CU0 holds once the packet is heard. -/
def heardOf (s : State) (k : ColumnRun) : Chan :=
  ((runBody (s.chan 0) k).map (hearPacket (countViolations k (s.chan 0)) k.group)).getD (Chan.init 0)

/-- A layer whose next surface waits, at the last tick of frame 5. -/
def flips : State := rasters rast5 (fun c => c.modLayer 3 7 (fun y => { y with pending := some ⟨64, 0, 0, 0⟩ }))

theorem test_witness_LinesAndFlips :
    (up.live 0 ∧ runBody (up.chan 0) { group := 0, rds := [], columns := [] } = none) ∧
    ((capture 2).live 0 ∧ groupUp (heardOf (capture 2) (run 4 (lineBody 0 0))) 0 = true ∧
      srcOfGroup (heardOf (capture 2) (run 4 (lineBody 0 0))) 0 = some 0 ∧
      (heardOf (capture 2) (run 4 (lineBody 0 0))).sched.raster = some rast) ∧
    ((runBody ((capture 2).chan 0) (run 4 (lineBody 0 0))).any (fun b => b.headerOk &&
        lineCheck (heardOf (capture 2) (run 4 (lineBody 0 0))) 0 4 b == 0) = true) ∧
    ((runBody ((capture 2).chan 0) (run 4 (lineBody 1 0))).any (fun b => b.headerOk &&
        lineCheck (heardOf (capture 2) (run 4 (lineBody 1 0))) 0 4 b == 2) = true) ∧
    ((runBody ((capture 2).chan 0) (run 4 (lineBody 0 1))).any (fun b =>
        lineCheck (heardOf (capture 2) (run 4 (lineBody 0 1))) 0 4 b == 1) = true) ∧
    (rast.inWindow (nearestTick (heardOf (capture 2) (run 4 (lineBody 0 0))) rast 4).2 = true ∧
      rast.inWindow (nearestTick (heardOf (capture 1) (run 4 (lineBody 0 0))) rast 4).2 = false) ∧
    (up.opens .pf (.unit 0 (0x48120 + 0x1000 * (8 * 3 + 7))) ∧ 3 < 4 ∧ 7 < 8) ∧
    (flips.live 0 ∧ (flips.chan 0).sched.raster = some rast5 ∧ flipDrained (flips.chan 0) ((flips.chan 0).layer 3 7) = true ∧
      ((flips.chan 0).layer 3 7).pending = some ⟨64, 0, 0, 0⟩ ∧ tickLine rast5.tick + 1 = rast5.total) ∧
    flipDrained (up.chan 0) ((up.chan 0).layer 3 7) = false := by
  simp only [State.live, State.opens]
  and_intros <;> decide +kernel

/-- A programme of CU0 with one stream, which has sent no video since device time 0, at `t`; a path with a packet between two
instants. -/
def stream0 : Stream := { id := 0, sid := 0, epoch := 0, seq := 0, first := 0, sent := true }
def streams (t : Nat) : State := cu (fun c => timed t { c with progs := c.progs.set 0 { on := true, streams := [stream0] } })
def sends0 : Sending := { first := 0, last := 10, pkt := { typ := 0, flags := 0, sid := 0, seq := 7, time := 0, epoch := 0, picture := 0, due := 0, payload := [] } }
def sending (t : Nat) : State := cu (fun c => timed t (sets [(Reg.LNK_GSTAT_PATHB, 1)] { c with paths := [{}, { queue := [sends0] }] }))

theorem test_witness_Streams :
    ((progs { on := true }).live 0 ∧ (progs { on := true }).opens .pf (.unit 0 (0x81120 + 0x1000 * 0)) ∧
      (((progs { on := true }).chan 0).prog 0).on = true ∧ (((progs { on := true }).chan 0).prog 0).cfg.mode ≠ 4) ∧
    (up.opens .pf (.unit 0 (0x81120 + 0x1000 * 7)) ∧ (((up.chan 0).prog 7).on = false ∨ ((up.chan 0).prog 7).cfg.mode = 4)) ∧
    (up.live 0 ∧ ((up.chan 0).prog 0).streams = []) ∧
    ((streams (secUnits / 50)).live 0 ∧ (((streams (secUnits / 50)).chan 0).prog 0).streams = [stream0] ∧ 0 < 8 ∧
      (((streams (secUnits / 50)).chan 0).prog 0).on = true ∧ (((streams (secUnits / 50)).chan 0).prog 0).cfg.form = 1 ∧
      stream0.sent = true ∧ stream0.lastVideo + secUnits / 50 ≤ ((streams (secUnits / 50)).chan 0).now) ∧
    ((((streams (secUnits / 50 - 1)).chan 0).prog 0).streams = [stream0] ∧
      ¬ stream0.lastVideo + secUnits / 50 ≤ ((streams (secUnits / 50 - 1)).chan 0).now) ∧
    (((up.chan 0).paths.getD 1 {}).queue = []) ∧
    ((sending 9).live 0 ∧ (((sending 9).chan 0).paths.getD 1 {}).queue = [sends0] ∧ sends0.first ≤ ((sending 9).chan 0).now ∧
      ((sending 9).chan 0).now < sends0.last ∧ pathUp ((sending 9).chan 0) 1 = true) ∧
    ((((sending 10).chan 0).paths.getD 1 {}).queue = [sends0] ∧ ¬ ((sending 10).chan 0).now < sends0.last) := by
  simp only [State.live, State.opens]
  and_intros <;> decide +kernel

/-- CU0 in M5 with fields set and with decoder state. -/
def deco (l : List (Fld × Nat)) (d : Decoder) : State := cu (fun c => { sets l (c.set Reg.SCH_MODE 5) with dec := d })
/-- An Ubnen-S packet on two lanes of group 1, which the decoder's path takes: as much of it as its checks look at. -/
def spkt : List Byte := Packet.bytes { typ := 0, flags := 0, sid := 0, seq := 7, time := 0, epoch := 0, picture := 0, due := 0, payload := [0#8] }
def pathIn : State := deco [(Reg.DEC_CFG_INPATH, 1), (Reg.DEC_LANES_GROUPB, 1), (Reg.LNK_CFG_SPLIT, 1), (Reg.LNK_PCFG_MODE 4, 2),
  (Reg.LNK_PCFG_MODE 5, 2), (Reg.LNK_GSTAT_GROUP, 2)] {}
def srun : ColumnRun := { run 2 spkt with group := 1 }
def missing (t : Nat) : State := (deco [] {}).modChan 0 (fun c => timed t { c with rx := { c.rx with missing := [(3, 1, 0)] } })
/-- An access unit of one HEVC slice NAL unit, an IRAP picture, with nothing of its parameter sets; one of none. -/
def unit1 : AccessUnit := { bytes := [0#8, 0#8, 1#8, 0x26#8, 1#8, 0x80#8] }
def unitGap : AccessUnit := { gap := some 3 }
def decodes (st : Nat) (u : AccessUnit) : State := deco [(Reg.DEC_STAT_STATE, st)] { units := [u] }
def starves : State := deco [(Reg.DEC_STAT_STATE, 1)] { open_ := some unitGap }

/-- What the decoder of CU0 holds when it begins on the unit `u`, its one waiting access unit; the bytes that it reads. -/
def scan0 (s : State) (u : AccessUnit) : Scan :=
  scanUnit { s.chan 0 with dec := { (s.chan 0).dec with units := [] } } false u
def begun0 (s : State) (u : AccessUnit) (r : DecodeResult) : Chan :=
  let c : Chan := { s.chan 0 with dec := { (s.chan 0).dec with units := [] } }
  memFind { c with dec := { c.dec with seqs := (scan0 s u).seqs, pics := (scan0 s u).pics } } r.beats
def fails0 (s : State) (u : AccessUnit) (r : DecodeResult) : Bool :=
  (decPlaces (begun0 s u r) u.start u.bytes.length ++ r.reads).any (fun e => memReadFails (begun0 s u r) e.1 e.2)
def stops0 (s : State) (u : AccessUnit) (r : DecodeResult) : List (Option StopCause) :=
  [u.gap.map (fun o => (⟨0x09, 0, r.reached, o⟩ : StopCause)), (scan0 s u).stop]
/-- A stop met in the syntax; a read of a beat of the DPB that cannot be corrected. -/
def stop1 : DecodeResult := { stop := some ⟨0x01, 3, 5, 9⟩ }
def read1 : DecodeResult := { reads := [(0x1000, 32)] }
def decodesBad (u : AccessUnit) : State :=
  (decodes 1 u).modChan 0 (fun c => { c with mem := { c.mem with bad := [(0x1000, 1)] } })

theorem test_witness_DecoderEvents :
    (pathIn.live 0 ∧ (runBody (pathIn.chan 0) srun).bind laneBytes = some spkt ∧
      decActive (countViolations srun (pathIn.chan 0)) = true ∧
      (countViolations srun (pathIn.chan 0)).flag Reg.DEC_CFG_INPATH = true ∧ srun.group < 4 ∧
      groupUp (countViolations srun (pathIn.chan 0)) srun.group = true ∧
      ((countViolations srun (pathIn.chan 0)).get Reg.DEC_LANES_GROUPA = srun.group ∨
        (countViolations srun (pathIn.chan 0)).get Reg.DEC_LANES_GROUPB = srun.group)) ∧
    (up.live 0 ∧ decActive (up.chan 0) = false ∧ (up.chan 0).get Reg.DEC_STAT_STATE ≠ 2 ∧
      up.opens .pf (.unit 0 0xE0104)) ∧
    ((missing (2 ^ 50)).live 0 ∧ decActive ((missing (2 ^ 50)).chan 0) = true ∧
      ((missing (2 ^ 50)).chan 0).rx.missing = [(3, 1, 0)] ∧
      0 + ((missing (2 ^ 50)).chan 0).get Reg.DEC_HOLD * 65536000 ≤ ((missing (2 ^ 50)).chan 0).now ∧
      ((missing 0).chan 0).now < 0 + ((missing 0).chan 0).get Reg.DEC_HOLD * 65536000) ∧
    (decActive ((deco [] {}).chan 0) = true ∧ ((deco [] {}).chan 0).rx.missing = [] ∧ ((deco [] {}).chan 0).dec.units = []) ∧
    ((deco [] { outs := [{ w := 1, h := 1, lines := [] }] }).chan 0).mode = 5 ∧
    (((decodes 3 {}).chan 0).get Reg.DEC_STAT_STATE = 3 ∧ ((decodes 3 {}).chan 0).dec.units = [{}] ∧
      (scan0 (decodes 3 {}) {}).resume = false ∧ decActive ((decodes 3 {}).chan 0) = true) ∧
    ((decodes 1 unit1).live 0 ∧ ((decodes 1 unit1).chan 0).dec.units = [unit1] ∧ decActive ((decodes 1 unit1).chan 0) = true ∧
      ((decodes 1 unit1).chan 0).get Reg.DEC_STAT_STATE = 1 ∧ ((decodes 1 unit1).chan 0).dec.queue.length < 4 ∧
      ((decodes 1 unit1).chan 0).dec.outs = [] ∧ (scan0 (decodes 1 unit1) unit1).rasl = false ∧
      fails0 (decodes 1 unit1) unit1 {} = false ∧
      firstStop (stops0 (decodes 1 unit1) unit1 {} ++ [none]) = some ⟨0x01, 5, 0xFFFF, 5⟩) ∧
    ((scan0 (decodes 1 unitGap) unitGap).rasl = false ∧ fails0 (decodes 1 unitGap) unitGap {} = false ∧
      firstStop (stops0 (decodes 1 unitGap) unitGap {} ++ [none]) = some ⟨0x09, 0, 0xFFFF, 3⟩) ∧
    ((scan0 (decodes 1 {}) {}).rasl = false ∧ fails0 (decodes 1 {}) {} stop1 = false ∧
      firstStop (stops0 (decodes 1 {}) {} stop1 ++ [stop1.stop.filter (fun e => e.cause != 0x0A)]) = some ⟨0x01, 3, 5, 9⟩) ∧
    (fails0 (decodesBad unitGap) unitGap read1 = true ∧
      firstStop (stops0 (decodesBad unitGap) unitGap read1) = some ⟨0x09, 0, 0xFFFF, 3⟩) ∧
    (fails0 (decodesBad {}) {} read1 = true ∧ firstStop (stops0 (decodesBad {}) {} read1) = none) ∧
    (fails0 (decodes 1 {}) {} {} = false ∧ firstStop (stops0 (decodes 1 {}) {} {} ++ [none]) = none) ∧
    ((decodes 2 {}).opens .pf (.unit 0 0xE0104) ∧ ((decodes 2 {}).chan 0).get Reg.DEC_STAT_STATE = 2) ∧
    (starves.live 0 ∧ decActive (starves.chan 0) = true ∧ (starves.chan 0).dec.open_ = some unitGap ∧
      (starves.chan 0).get Reg.DEC_STAT_STATE ≠ 2 ∧ (starves.chan 0).dec.units = []) := by
  simp only [State.live, State.opens]
  and_intros <;> decide +kernel

def sent : Scorecard := { number := 1 }
def arriving (host : Nat) : State := (up.modCards 0 (fun y => { y with transfer := some sent })).uset Reg.SUP_SC_HOST_HOST host

theorem test_witness_Scorecards :
    ((arriving 0x1E).ump.on = true ∧ ((arriving 0x1E).card 0).transfer = some sent ∧
      bitAt ((arriving 0x1E).uget Reg.SUP_SC_HOST_HOST) 0 = false) ∧
    (((arriving 1).card 0).transfer = some sent ∧ bitAt ((arriving 1).uget Reg.SUP_SC_HOST_HOST) 0 = true) ∧
    (((arriving 1).card 0).transfer.isSome = true ∧ (up.card 0).transfer = none) := by
  and_intros <;> decide +kernel

def tims (l : List (Fld × Nat)) (f : Timing → Timing) : State := cu (fun c => { sets l c with tim := f c.tim })
/-- A reference 3 that is within SOFT; one that has crossed it; a selected one; LOSC as the oscillator. -/
def ref3 : State := regs [(Reg.TIM_REFCFG_EN 3, 1), (Reg.TIM_REFSTAT_PRESENT 3, 1), (Reg.TIM_REFCFG_SOFT 3, 50)]
def sel3 (d : List Nat) : State :=
  tims [(Reg.TIM_STAT_SEL, 3), (Reg.TIM_REFSTAT_PRESENT 3, 1), (Reg.TIM_REFCFG_SOFT 3, 50)] (fun t => { t with drifted := d })
def losc (src : Nat) : State := regs [(Reg.TIM_STAT_OSCSRC, src), (Reg.TIM_REFSTAT_PRESENT 4, 1), (Reg.TIM_OSC_LOSCKHZ, 10000)]
/-- PPS edges seen at whole seconds before `t`. -/
def pulses (n present t : Nat) : State := (tims [(Reg.TIM_REFSTAT_PRESENT 1, present)] (fun x => { x with
  pps := (List.range n).map (fun i => (9 - i) * secUnits) })).modChan 0 (timed t)

theorem test_witness_TimingReferences :
    (ref3.live 0 ∧ 3 < 5 ∧ timMayQualify (ref3.chan 0) 3 (-5000) = true ∧ timMayQualify (ref3.chan 0) 3 5001 = false) ∧
    ((sel3 []).live 0 ∧ ((sel3 []).chan 0).get Reg.TIM_STAT_SEL ≠ 4 ∧
      ((sel3 []).chan 0).flag (Reg.TIM_REFSTAT_PRESENT 3) = true ∧ (5000 : Int).natAbs ≤ (timSoft ((sel3 []).chan 0) 3).natAbs ∧
      (timSoft ((sel3 []).chan 0) 3).natAbs < (5001 : Int).natAbs ∧ ((sel3 []).chan 0).tim.drifted.contains 3 = false ∧
      ((sel3 [3]).chan 0).tim.drifted.contains 3 = true ∧ (timSoft ((sel3 [3]).chan 0) 3).natAbs < (5001 : Int).natAbs) ∧
    ((up.chan 0).flag (Reg.TIM_REFSTAT_PRESENT 0) = false) ∧
    (((sel3 []).chan 0).get Reg.TIM_STAT_SEL = 3 ∧ (timHard ((sel3 []).chan 0) 3).natAbs < (2147483647 : Int).natAbs ∧
      (0 : Int).natAbs ≤ (timHard ((sel3 []).chan 0) 3).natAbs ∧ (timHard ((sel3 []).chan 0) 4).natAbs < (-2147483647 : Int).natAbs) ∧
    ((losc 1).live 0 ∧ loscIn ((losc 1).chan 0) 10000500 = true ∧ loscIn ((losc 1).chan 0) 10000501 = false ∧
      ((losc 1).chan 0).get Reg.TIM_STAT_OSCSRC = 1 ∧ ((losc 0).chan 0).get Reg.TIM_STAT_OSCSRC ≠ 1 ∧
      ((losc 0).chan 0).flag (Reg.TIM_REFSTAT_PRESENT 4) = true ∧ loscIn ((losc 0).chan 0) 0 = false) ∧
    ((up.chan 0).get Reg.TIM_STAT_OSCSRC ≠ 1 ∧ (up.chan 0).flag (Reg.TIM_REFSTAT_PRESENT 4) = false ∧
      loscIn (up.chan 0) 0 = false) ∧
    (((regs [(Reg.TIM_OSC, 1)]).chan 0).flag Reg.TIM_OSC = true ∧ ((regs [(Reg.TIM_OSC, 0)]).chan 0).flag Reg.TIM_OSC = false) ∧
    ((pulses 4 1 (10 * secUnits + secUnits / 1000 + 1)).live 0 ∧ 99 < 100 ∧
      ((pulses 4 1 (10 * secUnits + secUnits / 1000 + 1)).chan 0).tim.pps = 9 * secUnits :: [8 * secUnits, 7 * secUnits, 6 * secUnits] ∧
      ((pulses 4 1 (10 * secUnits + secUnits / 1000 + 1)).chan 0).flag (Reg.TIM_REFSTAT_PRESENT 1) = true ∧
      secUnits / 1000 < ((((pulses 4 1 (10 * secUnits + secUnits / 1000 + 1)).chan 0).now : Int) - (9 * secUnits : Nat) - secUnits).natAbs) ∧
    (100 ≤ 100 ∧ ((pulses 2 0 0).chan 0).tim.pps.length < 3 ∧ ((pulses 2 0 0).chan 0).flag (Reg.TIM_REFSTAT_PRESENT 1) = false) ∧
    (((pulses 3 0 (10 * secUnits)).chan 0).tim.pps = [9 * secUnits, 8 * secUnits, 7 * secUnits] ∧
      ((pulses 3 0 (10 * secUnits)).chan 0).now = 9 * secUnits + secUnits ∧ 9 * secUnits = 8 * secUnits + secUnits ∧
      8 * secUnits = 7 * secUnits + secUnits) := by
  simp only [State.live]
  and_intros <;> decide +kernel

/-- References 0 and 4 of one RANK, qualified; a contest of them, with LOSC or none for witness; a better reference 0. -/
def rivals : State := regs [(Reg.TIM_REFSTAT_QUALIFIED 0, 1), (Reg.TIM_REFSTAT_QUALIFIED 4, 1), (Reg.TIM_REFCFG_RANK 0, 2), (Reg.TIM_REFCFG_RANK 4, 2)]
def contest (w : Nat) (alarm : Bool) : State := tims [(Reg.TIM_STAT_SEL, 7)] (fun t => { t with contests := [⟨0, 4, w, alarm⟩] })
def better (age : Nat) : State := tims
  [(Reg.TIM_STAT_STATE, 2), (Reg.TIM_LIMITS_REVERT, 1), (Reg.TIM_STAT_SEL, 1), (Reg.TIM_REFCFG_EN 0, 1),
   (Reg.TIM_REFSTAT_QUALIFIED 0, 1), (Reg.TIM_REFCFG_RANK 0, 0), (Reg.TIM_REFCFG_RANK 1, 1), (Reg.TIM_LIMITS_QUAL, 1)]
  (fun t => { t with since := [some 0, none, none, none, none], age := age })
def timState (st sel age : Nat) : State := tims [(Reg.TIM_STAT_STATE, st), (Reg.TIM_STAT_SEL, sel), (Reg.TIM_HOLD_HOLDMAX, 1)]
  (fun t => { t with age := age })
def hostTime (t0 t1 : Nat) : State := tims [] (fun t => { t with host0 := t0, host1 := t1 })
def half (mode : Nat) : State := cu (fun c => sets [(Reg.SCH_MODE, mode)] { c with bank := { c.bank with held := [(0x120140, 0x36000000#32)] } })

theorem test_witness_TimingStates :
    (rivals.live 0 ∧ 0 < 4 ∧ 4 < 5 ∧ (rivals.chan 0).flag (Reg.TIM_REFSTAT_QUALIFIED 0) = true ∧
      (rivals.chan 0).flag (Reg.TIM_REFSTAT_QUALIFIED 4) = true ∧
      (rivals.chan 0).get (Reg.TIM_REFCFG_RANK 0) = (rivals.chan 0).get (Reg.TIM_REFCFG_RANK 4) ∧
      (rivals.chan 0).get Reg.TIM_AGREE_AGREEF < (1000000 - 0 : Int).natAbs ∧
      (rivals.chan 0).tim.contests.all (fun k => !k.of 0 4) = true ∧
      ¬ (rivals.chan 0).get Reg.TIM_AGREE_AGREEF < (5 - 5 : Int).natAbs) ∧
    ((up.chan 0).tim.contests.find? (fun k => k.of 0 4) = none ∧
      ((contest 255 true).chan 0).tim.contests.find? (fun k => k.of 0 4) = some ⟨0, 4, 255, true⟩ ∧
      ((contest 255 false).chan 0).tim.contests.find? (fun k => k.of 0 4) = some ⟨0, 4, 255, false⟩) ∧
    (((contest 2 false).chan 0).tim.contests.find? (fun k => k.of 0 4) = some ⟨0, 4, 2, false⟩ ∧ 2 ≠ 255 ∧
      decide ((0 - 0 : Int).natAbs ≤ ((contest 2 false).chan 0).get Reg.TIM_AGREE_AGREEF) ≠
        decide ((1000000 - 0 : Int).natAbs ≤ ((contest 2 false).chan 0).get Reg.TIM_AGREE_AGREEF)) ∧
    (((contest 2 false).chan 0).tim.contests.any (fun k => k.of 0 4) = true ∧
      (rivals.chan 0).tim.contests.any (fun k => k.of 0 4) = false) ∧
    ((better secPeriods).live 0 ∧ ((better secPeriods).chan 0).get Reg.TIM_STAT_STATE = 2 ∧
      ((better secPeriods).chan 0).flag Reg.TIM_LIMITS_REVERT = true ∧ timSelectable ((better secPeriods).chan 0) 0 = true ∧
      ((better secPeriods).chan 0).get Reg.TIM_STAT_SEL = 1 ∧
      ((better secPeriods).chan 0).get (Reg.TIM_REFCFG_RANK 0) < ((better secPeriods).chan 0).get (Reg.TIM_REFCFG_RANK 1) ∧
      ((better secPeriods).chan 0).tim.since.getD 0 none = some 0 ∧
      0 + ((better secPeriods).chan 0).get Reg.TIM_LIMITS_QUAL * secPeriods ≤ ((better secPeriods).chan 0).tim.age ∧
      ¬ 0 + ((better (secPeriods - 1)).chan 0).get Reg.TIM_LIMITS_QUAL * secPeriods ≤ ((better (secPeriods - 1)).chan 0).tim.age) ∧
    (((timState 1 2 0).chan 0).get Reg.TIM_STAT_STATE = 1 ∧ ((timState 1 2 0).chan 0).get Reg.TIM_STAT_SEL = 2 ∧ 10 * 65536 ≤ 10 * 65536) ∧
    (((timState 2 0 0).chan 0).get Reg.TIM_STAT_STATE = 2 ∧
      4 * ((timState 2 0 0).chan 0).get Reg.TIM_AGREE_LOCKNS * 65536 < 2 ^ 40) ∧
    (((timState 3 7 secPeriods).chan 0).get Reg.TIM_STAT_STATE = 3 ∧ ((timState 3 7 secPeriods).chan 0).tim.entered +
        ((timState 3 7 secPeriods).chan 0).get Reg.TIM_HOLD_HOLDMAX * secPeriods ≤ ((timState 3 7 secPeriods).chan 0).tim.age ∧
      ((timState 3 7 0).chan 0).tim.age < ((timState 3 7 0).chan 0).tim.entered +
        ((timState 3 7 0).chan 0).get Reg.TIM_HOLD_HOLDMAX * secPeriods) ∧
    ((hostTime 0 0).opens .pf (.unit 0 0x120158) ∧
      time96Ok ((0x80000000#32).toNat / 2 ^ 16 + 2 ^ 16 * ((hostTime 0 0).chan 0).tim.host0 +
        2 ^ 48 * (((hostTime 0 0).chan 0).tim.host1 + 2 ^ 32 * ((0x80000000#32).toNat % 2 ^ 16))) = true ∧
      time96Ok ((0x80000000#32).toNat / 2 ^ 16 + 2 ^ 16 * ((hostTime 0xFFFFFFFF 0).chan 0).tim.host0 +
        2 ^ 48 * (((hostTime 0xFFFFFFFF 0).chan 0).tim.host1 + 2 ^ 32 * ((0x80000000#32).toNat % 2 ^ 16))) = false) ∧
    ((half 7).opens .pf (.unit 0 0x120144) ∧ ((half 7).chan 0).bank.held.find? (fun y => y.1 == 0x120140) = some (0x120140, 0x36000000#32) ∧
      (signedOf 64 ((0x36000000#32).toNat + 2 ^ 32 * (4294952037#32).toNat)).natAbs ≤ 65536000000000 ∧ ((half 7).chan 0).mode = 7 ∧
      ((half 1).chan 0).mode ≠ 7 ∧ 65536000000000 < (signedOf 64 ((0x36000000#32).toNat + 2 ^ 32 * (0x7FFFFFFF#32).toNat)).natAbs) := by
  simp only [State.live, State.opens]
  and_intros <;> decide +kernel

/-- CU0 with its PTP port up, in a port state, with fields set and with port state. -/
def ptps (port : Nat) (l : List (Fld × Nat)) (q : Ptp) : State :=
  cu (fun c => { sets ([(Reg.TIM_PTP_CFG_EN, 1), (Reg.TIM_PTP_STAT_LINK, 1), (Reg.TIM_PTP_STAT_PORT, port)] ++ l) c with ptp := q })
/-- The port identity, MAC and IP addresses of another clock, and its data set. -/
def otherId : Nat := 0x020000FFFE00000B * 2 ^ 16 + 1
def otherMac : Nat := 0x02000000000B
def otherIp : Nat := 0x0A00000B
def master : PtpMaster := ⟨1, 6, 0x21, 0, 1, 0x020000FFFE00000B, 0, otherId⟩
/-- A frame from it with its FCS, an IPv4 packet with its header checksum, a UDP datagram to port 319 without one (Ethernet II, RFC
791, RFC 768), a PTP message (IEEE 1588-2019). -/
def frameOf (typ : Nat) (p : List Byte) : List Byte :=
  let f := bytesBE 6 ptpGroupMac ++ bytesBE 6 otherMac ++ bytesBE 2 typ ++ p
  f ++ bytesLE 4 (crc32 f)
def ipOf (dst proto : Nat) (body : List Byte) : List Byte :=
  let h (sum : Nat) : List Byte := [0x45#8, 0#8] ++ bytesBE 2 (20 + body.length) ++ List.replicate 4 0#8 ++ [64#8, BitVec.ofNat 8 proto] ++
    bytesBE 2 sum ++ bytesBE 4 otherIp ++ bytesBE 4 dst
  frameOf 0x0800 (h (inetSum (h 0)) ++ body)
def ptpOf (m : List Byte) : List Byte :=
  ipOf ptpGroup 17 (bytesBE 2 319 ++ bytesBE 2 319 ++ bytesBE 2 (8 + m.length) ++ bytesBE 2 0 ++ m)
def message (typ domain flags seq : Nat) (body : List Byte) : List Byte :=
  bytesBE 1 typ ++ [2#8] ++ bytesBE 2 (34 + body.length) ++ bytesBE 1 domain ++ [0#8] ++ bytesBE 2 flags ++ bytesBE 8 0 ++
    bytesBE 4 0 ++ bytesBE 10 otherId ++ bytesBE 2 seq ++ [0#8, 0#8] ++ body
def stamp0 : List Byte := List.replicate 10 0#8
def announce : List Byte := message 11 127 0 0 (stamp0 ++ bytesBE 2 37 ++ [0#8] ++ bytesBE 1 1 ++ bytesBE 1 6 ++ bytesBE 1 0x21 ++
  bytesBE 2 0 ++ bytesBE 1 1 ++ bytesBE 8 0x020000FFFE00000B ++ bytesBE 2 0 ++ [0xA0#8])
def icmp (typ : Nat) : List Byte :=
  let m (sum : Nat) : List Byte := bytesBE 1 typ ++ [0#8] ++ bytesBE 2 sum ++ bytesBE 4 0x00010001
  m (inetSum (m 0))
def arp (target : Nat) : List Byte :=
  frameOf 0x0806 (bytesBE 8 0x0001080006040001 ++ bytesBE 6 otherMac ++ bytesBE 4 otherIp ++ bytesBE 6 0 ++ bytesBE 4 target)
/-- What the port of `s` reads of a PTP message. -/
def said (m : List Byte) : PtpMsg := readPtp otherMac otherIp m
def slave (l : List (Fld × Nat)) (q : Ptp) : State := ptps 9 l { q with parent := some master }
def at5 : State := ptps 6 [(Reg.TIM_PTP_IP_IP, 0x0A000001)] {}

theorem test_witness_PtpMessages :
    (up.live 0 ∧ ptpUp (up.chan 0) = false) ∧
    (at5.live 0 ∧ ptpUp (at5.chan 0) = true ∧ readFrame (at5.chan 0) (ptpOf announce ++ [0#8]) = .failed ∧
      readFrame (at5.chan 0) [] = .failed) ∧
    (readFrame (at5.chan 0) (ptpOf (message 0 0 0 0 stamp0)) = .ptp (said (message 0 0 0 0 stamp0)) ∧
      ptpOk (at5.chan 0) (said (message 0 0 0 0 stamp0)) = false) ∧
    (readFrame ((slave [] {}).chan 0) (ptpOf (message 0 127 0x0200 3 stamp0)) = .ptp (said (message 0 127 0x0200 3 stamp0)) ∧
      ptpOk ((slave [] {}).chan 0) (said (message 0 127 0x0200 3 stamp0)) = true ∧ (said (message 0 127 0x0200 3 stamp0)).typ = 0 ∧
      ptpFollows ((slave [] {}).chan 0) (said (message 0 127 0x0200 3 stamp0)) = true ∧ (said (message 0 127 0x0200 3 stamp0)).twoStep = true ∧
      (said (message 0 127 0 3 stamp0)).twoStep = false ∧ ptpFollows (at5.chan 0) (said (message 0 127 0 3 stamp0)) = false ∧
      ptpOk (at5.chan 0) (said (message 0 127 0 3 stamp0)) = true) ∧
    (readFrame ((slave [] { sync := some (3, 100, 5) }).chan 0) (ptpOf (message 8 127 0 3 stamp0)) = .ptp (said (message 8 127 0 3 stamp0)) ∧
      ptpOk ((slave [] { sync := some (3, 100, 5) }).chan 0) (said (message 8 127 0 3 stamp0)) = true ∧
      (said (message 8 127 0 3 stamp0)).typ = 8 ∧
      ptpFollows ((slave [] { sync := some (3, 100, 5) }).chan 0) (said (message 8 127 0 3 stamp0)) = true ∧
      ((slave [] { sync := some (3, 100, 5) }).chan 0).ptp.sync = some ((said (message 8 127 0 3 stamp0)).seq, 100, 5)) ∧
    (let s := slave [] { dreq := some (3, 100), t12 := some (1, 50) }
     let m := message 9 127 0 3 (stamp0 ++ bytesBE 10 (portId (s.chan 0)))
     readFrame (s.chan 0) (ptpOf m) = .ptp (said m) ∧ ptpOk (s.chan 0) (said m) = true ∧ (said m).typ = 9 ∧
      ptpFollows (s.chan 0) (said m) = true ∧ (s.chan 0).ptp.dreq = some ((said m).seq, 100) ∧ (s.chan 0).ptp.t12 = some (1, 50)) ∧
    (readFrame (at5.chan 0) (ptpOf (message 1 127 0 3 stamp0)) = .ptp (said (message 1 127 0 3 stamp0)) ∧
      ptpOk (at5.chan 0) (said (message 1 127 0 3 stamp0)) = true ∧ (said (message 1 127 0 3 stamp0)).typ = 1 ∧
      (at5.chan 0).get Reg.TIM_PTP_STAT_PORT = 6 ∧ ((slave [] {}).chan 0).get Reg.TIM_PTP_STAT_PORT = 9) ∧
    (readFrame ((ptps 4 [] {}).chan 0) (ptpOf announce) = .ptp (said announce) ∧ ptpOk ((ptps 4 [] {}).chan 0) (said announce) = true ∧
      (said announce).typ = 11 ∧ (said announce).source / 2 ^ 16 ≠ clockId ((ptps 4 [] {}).chan 0) ∧ (said announce).master.steps < 255 ∧
      (said announce).master = master ∧ ((ptps 4 [] {}).chan 0).ptp.foreign = []) ∧
    ((said (message 11 127 0 0 (List.replicate 30 0xFF#8))).typ = 11 ∧ 255 ≤ (said (message 11 127 0 0 (List.replicate 30 0xFF#8))).master.steps ∧
      ptpOk (at5.chan 0) (said (message 11 127 0 0 (List.replicate 30 0xFF#8))) = true) ∧
    (let s := ptps 4 [(Reg.TIM_PTP_CFG_SLAVEONLY, 1)] { foreign := [(master, 1, 0)] }
     (s.chan 0).ptp.foreign = [(master, 1, 0)] ∧ master.port = (said announce).source ∧ (s.chan 0).tim.age ≤ 0 + 4 * annPeriod (s.chan 0) ∧
      (s.chan 0).ptp.parent = none ∧ (s.chan 0).flag Reg.TIM_PTP_CFG_SLAVEONLY = true ∧ ptpBetter master (ptpOwn (at5.chan 0)) = true) ∧
    (readFrame (at5.chan 0) (arp 0x0A000001) = .arp otherMac otherIp 0x0A000001 ∧ 0x0A000001 = portIp (at5.chan 0) ∧
      readFrame (at5.chan 0) (arp 0x0A000002) = .arp otherMac otherIp 0x0A000002 ∧ 0x0A000002 ≠ portIp (at5.chan 0)) ∧
    (readFrame (at5.chan 0) (ipOf 0x0A000001 1 (icmp 8)) = .echo otherMac otherIp (bytesBE 4 0x00010001)) ∧
    (readFrame (at5.chan 0) (ipOf 0xE0000001 2 (bytesBE 4 0x1100EEFF ++ bytesBE 4 0)) = .query) ∧
    (readFrame (at5.chan 0) (frameOf 0x86DD (List.replicate 40 0#8)) = .other) ∧
    (((ptps 6 [(Reg.TIM_PTP_CFG_ONESTEP, 1)] {}).chan 0).flag Reg.TIM_PTP_CFG_ONESTEP = true ∧
      ((ptps 6 [(Reg.TIM_PTP_CFG_ONESTEP, 0)] {}).chan 0).flag Reg.TIM_PTP_CFG_ONESTEP = false ∧
      ((ptps 6 [(Reg.TIM_PTP_CFG_ONESTEP, 1)] {}).chan 0).get Reg.TIM_PTP_STAT_PORT = 6) ∧
    (((slave [] {}).chan 0).get Reg.TIM_PTP_STAT_PORT = 9 ∧ ptpUp ((slave [] {}).chan 0) = true) ∧
    ((up.chan 0).flag Reg.TIM_PTP_CFG_EN = false) ∧
    ((slave [] {}).live 0 ∧ ptpFresh ((slave [] {}).chan 0)
        ((((slave [] {}).chan 0).ptp.foreign.find? (fun e => e.1.port == master.port)).map (·.2.2)) = false) ∧
    ((at5.chan 0).ptp.parent = none ∧ ptpFresh (((at5.modChan 0 (aged (2 ^ 40))).chan 0)) (some 0) = false) ∧
    ((let s := slave [(Reg.TIM_REFSTAT_PRESENT 0, 1)] { foreign := [(master, 2, 0)] }
      (s.chan 0).flag Reg.TIM_PTP_CFG_EN = true ∧ (s.chan 0).flag (Reg.TIM_REFSTAT_PRESENT 0) = true ∧
        ptpFresh (s.chan 0) (((s.chan 0).ptp.foreign.find? (fun e => e.1.port == master.port)).map (·.2.2)) = true ∧
        (ptpFresh (s.chan 0) (s.chan 0).ptp.lastSync && ptpFresh (s.chan 0) (s.chan 0).ptp.lastResp) = false)) ∧
    ((at5.chan 0).flag Reg.TIM_PTP_CFG_EN = true ∧ ptpFresh (at5.chan 0) (some (at5.chan 0).ptp.listen) = true ∧
      (at5.chan 0).flag (Reg.TIM_REFSTAT_PRESENT 0) = false) := by
  simp only [State.live]
  and_intros <;> decide +kernel

/-! ### Serial lanes -/

/-- CU0 with a receiving lane on at a step of R373; with the four lanes of group 0 at a step; at an age of its timing unit. -/
def lane (k step : Nat) (l : List (Fld × Nat)) : State :=
  regs ((if k = 20 then [(Reg.TIM_PTP_CFG_EN, 1), (Reg.LNK_TSTAT_STEP, step)]
    else [(Reg.LNK_PCFG_MODE k, 1), (Reg.LNK_PSTAT_STEP k, step)]) ++ l)
def group0 (step : Nat) (f : Chan → Chan) : State :=
  cu (fun c => f ((List.range 4).foldl (fun c k => (c.set (Reg.LNK_PCFG_MODE k) 1).set (Reg.LNK_PSTAT_STEP k) step)
    (c.set Reg.LNK_CFG_SPLIT 1)))
/-- Lane `k` at a step that began at 0 with a timeout of 10 crystal periods, at age `t`. -/
def clocked (k step t : Nat) : State := (lane k step []).modChan 0 (fun c => aged t (c.modLane (laneIx k) (fun l => { l with limit := 10 })))
/-- Group 0 aligned; one whose lane 3 is lost. -/
def alignedG : State := group0 7 (fun c => setGroup c 0 true)
def lostG : State := group0 7 (fun c => (setGroup c 0 true).modLane 3 (fun l => { l with lost := true }))

theorem test_witness_LaneBringUp :
    (let at_ (s : State) (k v : Nat) : Prop := s.live 0 ∧ isRx k = true ∧ laneOn (s.chan 0) k = true ∧ laneStep (s.chan 0) k = v
     at_ (lane 15 1 []) 15 1 ∧ at_ (lane 20 2 []) 20 2 ∧ at_ (lane 0 3 []) 0 3 ∧ at_ (lane 15 4 []) 15 4 ∧
      (at_ (lane 20 4 []) 20 4 ∧ ((lane 20 4 []).chan 0).flag Reg.LNK_TCFG_AN = true) ∧
      (at_ (lane 20 4 [(Reg.LNK_TCFG_AN, 0)]) 20 4 ∧ ((lane 20 4 [(Reg.LNK_TCFG_AN, 0)]).chan 0).flag Reg.LNK_TCFG_AN = false) ∧
      at_ (clocked 15 4 5) 15 4 ∧ at_ (clocked 20 4 4) 20 4) ∧
    (lanePolfix ((clocked 15 4 5).chan 0) 15 = 0 ∧
      2 * (((clocked 15 4 5).chan 0).lane 15).start + (((clocked 15 4 5).chan 0).lane 15).limit ≤ 2 * ((clocked 15 4 5).chan 0).tim.age) ∧
    (2 * ((clocked 20 4 4).chan 0).tim.age <
      2 * (((clocked 20 4 4).chan 0).lane 16).start + (((clocked 20 4 4).chan 0).lane 16).limit) ∧
    (lanePolfix ((lane 15 4 [(Reg.LNK_PCFG_POLFIX 15, 1)]).chan 0) 15 ≠ 0) ∧
    ((up.live 0 ∧ laneOn (up.chan 0) 20 = false) ∧ isRx 16 = false ∧ laneStep ((lane 15 2 []).chan 0) 15 ≠ 1) ∧
    ((group0 5 id).live 0 ∧ groupAll ((group0 5 id).chan 0) 0 (fun k => laneStep ((group0 5 id).chan 0) k == 5) = true) ∧
    (up.live 0 ∧ groupAll (up.chan 0) 4 (fun k => laneStep (up.chan 0) k == 5) = false) ∧
    ((group0 6 id).live 0 ∧ groupAll ((group0 6 id).chan 0) 0 (fun k => laneStep ((group0 6 id).chan 0) k == 6) = true ∧
      (∀ x ∈ [96, 0, 0, 0], x ≤ 96) ∧ (∃ x ∈ [97, 0, 0, 0], 96 < x)) ∧
    (groupAll ((group0 5 id).chan 0) 0 (fun k => laneStep ((group0 5 id).chan 0) k == 6) = false) ∧
    (lostG.live 0 ∧ groupUp (lostG.chan 0) 0 = true ∧ (groupLanes (lostG.chan 0) 0).any (fun k => ((lostG.chan 0).lane k).lost) = true) ∧
    (alignedG.live 0 ∧ (groupLanes (alignedG.chan 0) 0).any (fun k => ((alignedG.chan 0).lane k).lost) = false) ∧
    (groupUp (up.chan 0) 4 = false) := by
  simp only [State.live]
  and_intros <;> decide +kernel

theorem test_witness_LaneLosses :
    (let ready (s : State) (k v : Nat) : Prop := s.live 0 ∧ isRx k = true ∧ laneOn (s.chan 0) k = true ∧
       stepDue (s.chan 0) k ≤ (s.chan 0).tim.age ∧ laneStep (s.chan 0) k = v
     (ready (clocked 15 2 10) 15 2 ∧ ((clocked 15 2 10).chan 0).tim.lref = true) ∧ ready (clocked 20 3 10) 20 3 ∧
      ready (clocked 0 4 10) 0 4 ∧ ready (group0 5 id) 3 5 ∧ ready (group0 6 id) 0 6 ∧ ready (clocked 15 1 10) 15 1 ∧
      ready (clocked 15 7 10) 15 7 ∧ ready ((clocked 15 2 10).modChan 0 (fun c => c.modTim (fun t => { t with lref := false }))) 15 2) ∧
    (groupAll ((group0 5 id).chan 0) (groupOf ((group0 5 id).chan 0) 3) (fun j => laneStep ((group0 5 id).chan 0) j == 5) = true ∧
      groupAll ((group0 6 id).chan 0) (groupOf ((group0 6 id).chan 0) 0) (fun j => laneStep ((group0 6 id).chan 0) j == 6) = true ∧
      ((clocked 15 2 10).modChan 0 (fun c => c.modTim (fun t => { t with lref := false })) |>.chan 0).tim.lref = false) ∧
    (¬ stepDue ((clocked 15 2 9).chan 0) 15 ≤ ((clocked 15 2 9).chan 0).tim.age) ∧
    (let happens (s : State) (k cause viol : Nat) : Prop := s.live 0 ∧ isRx k = true ∧ laneOn (s.chan 0) k = true ∧
       1 ≤ laneStep (s.chan 0) k ∧ cause < 4 ∧ (cause = 2 ∧ k < 16 → 4 ≤ viol)
     happens alignedG 3 3 0 ∧ happens alignedG 0 2 4 ∧ happens (lane 15 2 []) 15 0 0 ∧ happens (group0 5 id) 3 3 0 ∧
      happens (lane 20 7 []) 20 3 0 ∧ happens (lane 15 1 []) 15 1 0) ∧
    ((laneStep (alignedG.chan 0) 3 = 7 ∧ groupUp (alignedG.chan 0) (groupOf (alignedG.chan 0) 3) = true) ∧
      groupUp ((lane 15 2 []).chan 0) (groupOf ((lane 15 2 []).chan 0) 15) = false ∧
      (groupUp ((group0 5 id).chan 0) (groupOf ((group0 5 id).chan 0) 3) = false ∧ laneStep ((group0 5 id).chan 0) 3 = 5) ∧
      (laneStep ((lane 15 1 []).chan 0) 15 ≠ 5 ∧ laneStep ((lane 15 1 []).chan 0) 15 ≠ 6)) ∧
    ((group0 0 id).live 0 ∧ laneStep ((group0 0 id).chan 0) 3 < 1 ∧ ¬ ((2 : Nat) = 2 ∧ (3 : Nat) < 16 → (4 : Nat) ≤ 3)) ∧
    (alignedG.live 0 ∧ laneOn (alignedG.chan 0) 3 = true ∧ laneStep (alignedG.chan 0) 3 = 7 ∧
      251 % 256 = 255 - ((BitVec.ofNat 8 3) ^^^ (BitVec.ofNat 8 7)).toNat ∧
      ((alignedG.chan 0).lane 3).count.all (fun m => decide (7 % 256 = (m + 1) % 256)) = true ∧
      (alignedG.chan 0).flag (Reg.LNK_PSTAT_REV 3) = false ∧
      3 % 256 = (groupLanes (alignedG.chan 0) (groupOf (alignedG.chan 0) 3)).findIdx (· == 3)) ∧
    (250 % 256 ≠ 255 - ((BitVec.ofNat 8 3) ^^^ (BitVec.ofNat 8 7)).toNat ∧ ¬ 97 ≤ 96) ∧
    ((lane 15 3 []).live 0 ∧ 3 ≤ laneStep ((lane 15 3 []).chan 0) 15 ∧ laneStep ((lane 15 3 []).chan 0) 15 ≠ 7) ∧
    ((lane 15 2 []).live 0 ∧ laneOn ((lane 15 2 []).chan 0) 15 = true ∧ laneStep ((lane 15 2 []).chan 0) 15 < 3) := by
  simp only [State.live]
  and_intros <;> decide +kernel

/-- Path B of Ubnen-S enabled; an eye scan of P-lane 15 runs; its PRBS checker; lanes that sent when LREF went. -/
def pathB : State := regs [(Reg.PKT_PATH_ENB, 1)]
def scans : State := regs [(Reg.LNK_PSTAT_SCANBUSY 15, 1), (Reg.LNK_PCFG_MODE 15, 1)]
def prbs15 : State := regs [(Reg.LNK_PCFG_MODE 15, 3), (Reg.LNK_PCFG_PATTERN 15, 2)]
def driven : State := (regs [(Reg.LNK_SSTAT_SENDS 0, 1)]).modChan 0 (fun c => { c with lanes := { c.lanes with txOn := [0] } })
def adapted (k t : Nat) : State := (lane k 7 []).modChan 0 (fun c => aged t (c.modLane (laneIx k) (fun l => { l with adapted := some 0, eq := [3] })))

theorem test_witness_LaneSignals :
    ((lane 20 5 []).live 0 ∧ laneOn ((lane 20 5 []).chan 0) 20 = true ∧ laneStep ((lane 20 5 []).chan 0) 20 = 5) ∧
    (up.live 0 ∧ laneOn (up.chan 0) 20 = false ∧ laneStep ((lane 20 4 []).chan 0) 20 ≠ 5) ∧
    (pathB.live 0 ∧ sSends (pathB.chan 0) 3 ≠ 0 ∧ (pathB.chan 0).get (Reg.LNK_SSTAT_SENDS 3) = 0) ∧
    (sSends (up.chan 0) 0 = 0 ∧ (driven.live 0 ∧ (driven.chan 0).get (Reg.LNK_SSTAT_SENDS 0) ≠ 0)) ∧
    (scans.live 0 ∧ (scans.chan 0).flag (Reg.LNK_PSTAT_SCANBUSY 15) = true ∧ (up.chan 0).flag (Reg.LNK_PSTAT_SCANBUSY 15) = false) ∧
    (prbs15.live 0 ∧ (prbs15.chan 0).get (Reg.LNK_PCFG_MODE 15) = 3 ∧ (up.chan 0).get (Reg.LNK_PCFG_MODE 15) ≠ 3) ∧
    (let may (s : State) (k : Nat) : Bool := isRx k && laneOn (s.chan 0) k &&
       (k == 20 || (s.chan 0).flag (Reg.LNK_PCTL_HOLD k) == false) &&
       ((s.chan 0).lane (laneIx k)).adapted.all (fun a => decide (a + 2500 ≤ (s.chan 0).tim.age))
     (adapted 15 2500).live 0 ∧ may (adapted 15 2500) 15 = true ∧ may (adapted 20 2500) 20 = true ∧ may (adapted 15 2499) 15 = false ∧
      may ((adapted 15 2500).modChan 0 (fun c => c.set (Reg.LNK_PCTL_HOLD 15) 1)) 15 = false) ∧
    ((lane 15 7 []).live 0 ∧ isRx 15 = true ∧ laneOn ((lane 15 7 []).chan 0) 15 = true ∧
      ((lane 15 7 []).chan 0).flag (Reg.LNK_PSTAT_SCANBUSY 15) = false) ∧
    (laneOn (scans.chan 0) 15 = true) ∧
    ((lane 20 7 []).live 0 ∧ isRx 20 = true ∧ laneOn ((lane 20 7 []).chan 0) 20 = true) ∧
    (isRx 16 = false) ∧
    (up.live 0 ∧ up.opens .pf (.unit 0 (0x1104 + 0x1000 * 15)) ∧
      storeGet unitReset (up.chan 0).bank.regs (0x1104 + 0x1000 * 15) = BitVec.ofNat 32 (0 + 256 * 20)) ∧
    (scans.opens .pf (.unit 0 (0x1104 + 0x1000 * 15)) ∧
      storeGet unitReset (scans.chan 0).bank.regs (0x1104 + 0x1000 * 15) = BitVec.ofNat 32 (0 + 256 * 20)) := by
  simp only [State.live, State.opens]
  and_intros <;> decide +kernel

/-! ### Audio and memory -/

/-- Side `x` of audio port `j` of CU0 in a state, as master or slave, with what it keeps. -/
def audio (j x state master : Nat) (a : AudSide) : State :=
  cu (fun c => ((c.set (Reg.AUD_STAT_STATE j x) state).set (Reg.AUD_CFG_MASTER j x) master).modSide j x (fun _ => a))
def mems (f : MemCtl → MemCtl) : State := cu (fun c => { c with mem := f c.mem })
def edge0 : AudEdge := audEdge ((audio 3 0 2 0 {}).chan 0) 3 0
/-- The active edge of a frame sync of a side, as its FSPOL has it. -/
def syncOf (s : State) (j x m : Nat) (ok : Bool) : AudSync := .edge (!(s.chan 0).flag (Reg.AUD_CFG_FSPOL j x)) m ok
/-- A whole frame is in progress on receive side 3. -/
def whole : State := audio 3 0 2 0 { open_ := some edge0 }


theorem test_witness_AudioPorts :
    (let s := regs [(Reg.AUD_MASK_NEXT 3 1, 0xFFFF)]
     s.live 0 ∧ s.opens .pf (.unit 0 (0x14111C + 0x1000 * 3 + 0x40 * 1)) ∧ audCtlCode (s.chan 0) 3 1 1 = 0) ∧
    (let s := regs [(Reg.AUD_MASK_NEXT 0 0, 0)]
     s.live 0 ∧ s.opens .pf (.unit 0 (0x14111C + 0x1000 * 0 + 0x40 * 0)) ∧ (s.chan 0).get (Reg.AUD_MASK_NEXT 0 0) = 0 ∧
      audCtlCode (s.chan 0) 0 0 1 ≠ 0) ∧
    (let s := audio 3 1 1 0 {}
     s.live 0 ∧ s.opens .pf (.unit 0 (0x14111C + 0x1000 * 3 + 0x40 * 1)) ∧ (s.chan 0).get (Reg.AUD_STAT_STATE 3 1) ≠ 0) ∧
    ((up.chan 0).get (Reg.AUD_STAT_STATE 3 1) = 0) ∧
    (let s := audio 3 1 2 0 {}
     s.live 0 ∧ 2 ≤ (s.chan 0).get (Reg.AUD_STAT_STATE 3 1) ∧ (s.chan 0).flag (Reg.AUD_CFG_MASTER 3 1) = false) ∧
    (((audio 3 1 1 0 {}).chan 0).get (Reg.AUD_STAT_STATE 3 1) < 2 ∧ ((audio 3 1 2 1 {}).chan 0).flag (Reg.AUD_CFG_MASTER 3 1) = true) ∧
    (let at_ (s : State) (st : Nat) : Prop := (s.chan 0).get (Reg.AUD_STAT_STATE 3 0) = st ∧ (s.chan 0).flag (Reg.AUD_CFG_MASTER 3 0) = false
     at_ (audio 3 0 1 0 { good := 1 }) 1 ∧ at_ (audio 3 0 1 0 { good := 2, lag := 1 }) 1 ∧ at_ (audio 3 0 2 0 { wrong := 2, wrongAt := 511 }) 2 ∧
      at_ (audio 3 0 3 0 {}) 3 ∧ ((audio 3 0 2 1 {}).chan 0).get (Reg.AUD_STAT_STATE 3 0) ≠ 0 ∧
      ((audio 3 0 2 1 {}).chan 0).flag (Reg.AUD_CFG_MASTER 3 0) ≠ false ∧ (up.chan 0).get (Reg.AUD_STAT_STATE 3 0) = 0) ∧
    ((audFilter (up.chan 0) 3 0 .absent).2 = .none ∧
      (audFilter ((audio 3 0 1 0 { good := 2 }).chan 0) 3 0 (syncOf (audio 3 0 1 0 {}) 3 0 512 true)).2 = .begins ∧
      (whole.live 0 ∧ (audFilter (whole.chan 0) 3 0 (syncOf whole 3 0 512 true)).2 = .whole ∧
        ((audFilter (whole.chan 0) 3 0 (syncOf whole 3 0 512 true)).1.side 3 0).open_ = some edge0)) ∧
    ((audFilter (up.chan 0) 0 1 .absent).2 = .none ∧ (audFilter ((audio 0 1 2 0 {}).chan 0) 0 1 .absent).2 ≠ .none) := by
  simp only [State.live, State.opens]
  and_intros <;> decide +kernel

theorem test_witness_TdmTransmit :
    let s := (audio 3 1 2 0 {}).modChan 0 (fun c => c.set (Reg.AUD_MASK_CUR 3 1) 1)
    s.live 0 ∧ (audFilter (s.chan 0) 3 1 (syncOf s 3 1 512 true)).2 ≠ .none ∧
      bitAt ((audBegin (memFind (audFilter (s.chan 0) 3 1 (syncOf s 3 1 512 true)).1 []) 3 1).get (Reg.AUD_MASK_CUR 3 1)) 15 = false := by
  simp only [State.live]
  and_intros <;> decide +kernel

/-- A write of one byte waits in the sink; port 6 has no tokens for it. -/
def sinking (t : Nat) : State := cu (fun c => { c.set (Reg.MEM_REG_BORROW 6) 0 with
  sink := { writes := [(64, [1#8])], held := 1, received := 1 }, mem := { c.mem with tokens := c.mem.tokens.set 6 t } })
/-- A storm, with one uncorrectable read at time 0, at `t` units of 2⁻¹⁶ ns; and STORMWIN windows of 100 ms. -/
def stormy (l : List Nat) (t : Nat) : State :=
  (regs [(Reg.MEM_STAT_STORM, 1), (Reg.MEM_STORMCFG_STORMN, 1)]).modChan 0 (fun c =>
    { timed t c with mem := { c.mem with errTimes := l } })

theorem test_witness_MemoryEvents :
    ((mems (fun m => { m with initialising := true })).live 0 ∧ ((mems (fun m => { m with initialising := true })).chan 0).mem.initialising = true) ∧
    (up.live 0 ∧ (up.chan 0).mem.initialising = false) ∧
    (let due (s : State) : Bool := decide ((s.chan 0).get Reg.MEM_SCRUB_POS_ADDR * ((s.chan 0).mem.passHours * 90000000000) ≤
        ((s.chan 0).tim.age - (s.chan 0).mem.passStart) * hbmSize)
     due up = true ∧ due (regs [(Reg.MEM_SCRUB_POS_ADDR, 32)]) = false) ∧
    (let s := cu (aged (1000 * 25000))
     s.live 0 ∧ (s.chan 0).mem.recalAt + (s.chan 0).get Reg.MEM_RECAL * 25000 ≤ (s.chan 0).tim.age ∧
      5 ≤ (-5 - (s.chan 0).mem.copyTemp).natAbs ∧ ¬ 5 ≤ (4 - (s.chan 0).mem.copyTemp).natAbs ∧
      ¬ (s.chan 0).mem.copyTime + 60000 * 25000 ≤ (s.chan 0).tim.age) ∧
    (let s := cu (aged (60000 * 25000)); (s.chan 0).mem.copyTime + 60000 * 25000 ≤ (s.chan 0).tim.age) ∧
    (¬ (up.chan 0).mem.recalAt + (up.chan 0).get Reg.MEM_RECAL * 25000 ≤ (up.chan 0).tim.age) ∧
    (let w := (up.chan 0).get Reg.MEM_STORMCFG_STORMWIN * 65536000000
     let clears (s : State) : Bool := (s.chan 0).flag Reg.MEM_STAT_STORM && decide (stormCount w ((s.chan 0).now - w) (s.chan 0).mem.errTimes < 1) &&
       (s.chan 0).mem.errTimes.all (fun t => !decide ((s.chan 0).now < t + w) || decide (stormCount w t (s.chan 0).mem.errTimes < 1))
     ((stormy [0] (2 * w)).live 0 ∧ clears (stormy [0] (2 * w)) = true ∧ clears (stormy [0] (2 * w - 1)) = false ∧
      clears (stormy [] 0) = true ∧ clears up = false)) ∧
    ((sinking 26214400).live 0 ∧ ((sinking 26214400).chan 0).mem.initialising = false ∧
      ((sinking 26214400).chan 0).sink.writes = [(64, [1#8])] ∧ memGrants ((sinking 26214400).chan 0) 6 64 1 = true ∧
      memGrants ((sinking 0).chan 0) 6 64 1 = false) ∧
    ((up.chan 0).sink.writes = []) := by
  simp only [State.live]
  and_intros <;> decide +kernel

theorem test_witness_MemoryReadsBack :
    ((25769803744 % 32 = 0 ∧ List.length (List.replicate 32 7#8) = 32) ∧ (Chan.init 0).mem.initialising = false ∧
      storeWf hbmReset (Chan.init 0).hbm = true) ∧ ((25769803743 < 25769803744) ∧ 25769803744 + 32 ≤ 25769803776) := by
  and_intros <;> decide +kernel

/-! ### Bench, temperature, power, the log -/

/-- A scorecard and a configuration record of CU0 that match. -/
def carded (s : State) : State := s.modCards 0 (fun y => { y with latest := some { commit := 1 }, configs := [{ commit := 1 }] })
/-- CU0 served by CU1; CU1's records match or not. -/
def served : State :=
  let s := up.modChan 1 (fun c => c.set Reg.SCH_MODE 1)
  { s with power := { s.power with units := s.power.units.set 0 { trained := true }
                                   subst := { s.power.subst with state := 2, failed := 0, server := 1 } } }
def servedCard : State := served.modCards 1 (fun y => { y with latest := some { commit := 1 }, configs := [{ commit := 1 }] })
/-- A watchdog of 100 crystal periods on programme 7 of CU0, at crystal count `t`. -/
def watched (t : Nat) : State :=
  at_ t ((regs [(Reg.SCH_MODE, 5), (Reg.PKT_PSTAT_ONAIR 7, 1)]).modUmp (fun u => { u with watches := [⟨0, 7, 0, 100⟩] }))
/-- The rail of CU4, and the crystal count. -/
def railed (x : Rail) (t : Nat) : State := at_ t (umps (fun u => { u with rails := u.rails.set 5 x }))
def rated (r : LogRate) (t : Nat) : State := at_ t (umps (fun u => { u with log := { u.log with rates := [r] } }))

theorem test_witness_Bench :
    (up.opens .pf (.hub 0x43100) ∧ up.benchCode 7 = 0 ∧ up.benchCode 4 = 0 ∧ up.benchCode 0 ≠ 0 ∧ 4 < (5#32).toNat ∧ (5#32).toNat ≠ 7) ∧
    ((carded benched).opens .pf (.hub 0x43108) ∧ (carded benched).goCode 0 = 0 ∧
      (carded benched).pickCard 0 = some ({ commit := 1 }, { commit := 1 })) ∧
    (benched.opens .pf (.hub 0x43108) ∧ benched.goCode 0 = 0 ∧ benched.pickCard 0 = none) ∧
    (up.opens .pf (.hub 0x43108) ∧ up.goCode 4 ≠ 0 ∧ up.returnCode 0 ≠ 0) ∧
    (servedCard.opens .pf (.hub 0x43108) ∧ servedCard.returnCode 0 = 0 ∧
      servedCard.pickCard servedCard.subst.server = some ({ commit := 1 }, { commit := 1 })) ∧
    (served.opens .pf (.hub 0x43108) ∧ served.returnCode 0 = 0 ∧ served.pickCard served.subst.server = none) ∧
    (let fires (s : State) : Prop := s.ump.on = true ∧ 1 ≤ s.modeOf 0 ∧ s.modeOf 0 ≤ 5 ∧ (s.chan 0).flag (Reg.PKT_PSTAT_ONAIR 7) = true ∧
       ∃ w ∈ s.ump.watches, w.unit = 0 ∧ w.prog = 7 ∧ w.at_ + w.span ≤ s.centre.xcount
     fires (watched 100)) ∧
    (up.ump.on = true ∧ (¬ ∃ w ∈ (watched 99).ump.watches, w.unit = 0 ∧ w.prog = 7 ∧ w.at_ + w.span ≤ (watched 99).centre.xcount) ∧
      up.modeOf 4 < 1) ∧
    (step4.ump.on = true ∧ step4.subst.state = 1 ∧ step4.subst.step = 4 ∧ step4.subst.benchEn = true) ∧
    (up.subst.state ≠ 1 ∧ (step5 up).subst.step ≠ 4 ∧ up.subst.benchEn = false) := by
  simp only [State.opens]
  and_intros <;> decide +kernel

theorem test_witness_Housekeeping :
    (up.ump.on = true ∧ (up.rail 5).noresp = false ∧ ((railed { noresp := true } 0).rail 5).noresp = true) ∧
    ((at_ 2500000 up).ump.dies.any (·.shut) = false ∧ (at_ 2500000 up).ump.tripAt + 2500000 ≤ (at_ 2500000 up).centre.xcount) ∧
    (((up.modDie 5 (fun x => { x with shut := true })).ump.dies.any (·.shut)) = true ∧
      (at_ 2499999 up).centre.xcount < (at_ 2499999 up).ump.tripAt + 2500000) ∧
    (up.opens .pf (.hub 0x45180) ∧ (31#32).toNat < 32 ∧ 32 ≤ (32#32).toNat) ∧
    (let luma (s : State) : Nat := s.ump.lumaGone + (List.range 5).foldl (fun x n => x + if s.running n then (s.chan n).luma else 0) 0
     luma up = 0 ∧ luma (cu (fun c => { c with luma := 2 })) ≠ 0 ∧ 1 * 100000 / 2 < 65536) := by
  simp only [State.opens]
  and_intros <;> decide +kernel

theorem test_witness_DieReadings :
    (7 ≤ 7 ∧ 1 ≤ 7 ∧ 6 < 7) ∧
    ((1 : Nat) ≤ 1 ∧ (1140 : Int) ≤ 1150 + 15 * (((1 : Nat) : Int) - 1) - 10) ∧
    (1150 + 15 * (((1 : Nat) : Int) - 1) - 10 < (1141 : Int) ∧ (1141 : Int) < 1150 + 15 * ((1 : Nat) : Int)) ∧
    (({} : Die).shut = false) := by
  and_intros <;> decide +kernel

theorem test_witness_MarginSteps :
    (let x : Rail := { target := 790 }
     let s := railed x 0
     s.ump.on = true ∧ s.ump.rails[5]? = some x ∧ x.noresp = false ∧ s.railFree 5 = true ∧ 0 ≤ x.steps ∧ x.target + 10 ≤ 800 ∧
      700 ≤ x.target + 10) ∧
    (let x : Rail := { target := 790, last := some 0, steps := -1 }
     (railed x 1250).ump.rails[5]? = some x ∧ (railed x 1250).railFree 5 = true ∧ (railed x 1249).railFree 5 = false) ∧
    (let x : Rail := { target := 800 }
     (railed x 0).ump.rails[5]? = some x ∧ (railed x 0).railFree 5 = true ∧ 0 ≤ x.steps ∧ 800 < x.target + 10) ∧
    (let x : Rail := { noresp := true }
     (railed x 0).ump.rails[5]? = some x ∧ x.noresp = true) := by
  and_intros <;> decide +kernel

theorem test_witness_RailSteps :
    (let s := railed { target := 790, steps := 1, last := some 0 } 1250
     s.ump.on = true ∧ s.railFree 5 = true ∧ (s.rail 5).noresp = false ∧ 0 < (s.rail 5).steps ∧ 800 = (s.rail 5).target + 10) ∧
    (let s := railed { target := 710, steps := -1, last := some 0 } 1250
     s.railFree 5 = true ∧ (s.rail 5).noresp = false ∧ (s.rail 5).steps < 0 ∧ 700 = (s.rail 5).target - 10) ∧
    (let s := railed { target := 800, steps := 1, last := some 0 } 1250
     s.railFree 5 = true ∧ 0 < (s.rail 5).steps ∧ 800 < (s.rail 5).target + 10) ∧
    (let s := railed { target := 700, steps := -1, last := some 0 } 1250
     s.railFree 5 = true ∧ (s.rail 5).steps < 0 ∧ (s.rail 5).target - 10 < 700) ∧
    ((railed { noresp := true } 0).railFree 5 = true ∧ (up.rail 5).steps = 0) ∧
    ((railed { steps := 1, last := some 0 } 1249).railFree 5 = false) ∧
    (let s := railed { cmd := some .voltageRead, tries := 1 } 0
     (s.rail 5).noresp = false ∧ (s.rail 5).cmd = some .voltageRead ∧ (s.rail 5).tries < 2 ∧ s.substBusy = false) ∧
    (let s := railed { cmd := some .voltageRead, tries := 2 } 0
     (s.rail 5).noresp = false ∧ (s.rail 5).cmd = some .voltageRead ∧ 2 ≤ (s.rail 5).tries) ∧
    ((up.rail 5).cmd = none ∧ ((railed { noresp := true } 0).rail 5).noresp = true) := by
  and_intros <;> decide +kernel

/-- One rate record: a suppressed entry of second 0, seven and eight logged entries. -/
def rate1 : LogRate := { source := 15, typ := 0x0E05, second := 0, suppressed := 1 }
def rate7 : LogRate := { source := 15, typ := 0x0E05, second := 0, logged := 7 }
def rate8 : LogRate := { source := 15, typ := 0x0E05, second := 0, logged := 8 }

theorem test_witness_LogCommands :
    (up.opens .pf (.hub 0x41134) ∧ up.opens .pf (.hub 0x44100)) ∧
    (up.ump.log.rates.find? (fun r => r.source == 15 && r.typ == 0x0E05) = none) ∧
    (let s := rated rate1 24999999
     s.ump.on = true ∧ s.ump.log.rates.find? (fun r => r.source == 15 && r.typ == 0x0E05) = some rate1 ∧ s.centre.xcount / xSec ≤ rate1.second) ∧
    (let s := rated rate1 25000000
     s.ump.log.rates.find? (fun r => r.source == 15 && r.typ == 0x0E05) = some rate1 ∧ rate1.second < s.centre.xcount / xSec ∧ rate1.suppressed ≠ 0) ∧
    (let s := rated rate7 0
     s.ump.log.rates.find? (fun r => r.source == 15 && r.typ == 0x0E05 && r.second == s.centre.xcount / xSec) = some rate7 ∧ rate7.logged < 8) ∧
    (let s := rated rate8 0
     s.ump.log.rates.find? (fun r => r.source == 15 && r.typ == 0x0E05 && r.second == s.centre.xcount / xSec) = some rate8 ∧ 8 ≤ rate8.logged) := by
  simp only [State.opens]
  and_intros <;> decide +kernel

theorem test_witness_LogSlots :
    (let s := umps (fun u => { u with log := { u.log with next := 0xFFFFFFFF } })
     1023 = s.ump.log.next % 1024 ∧ 0 ≠ s.ump.log.next % 1024) ∧
    up.ump.log.entries.all (fun e => e.seq % 1024 != 1023) = true := by
  and_intros <;> decide +kernel

theorem test_witness_FaultsReturn :
    (umps (fun u => { u with dark := true })).ump.dark = true ∧
    (∃ n, n < 5 ∧ ((pow 4 { isolated := true }).pw n).isolated = true) ∧
    ((up.modDie 5 (fun x => { x with shut := true })).ump.dies.any (·.shut)) = true ∧
    (∃ n, n < 5 ∧ (regs [(Reg.MEM_STAT_STORM, 1)]).running n = true ∧ ((regs [(Reg.MEM_STAT_STORM, 1)]).chan n).flag Reg.MEM_STAT_STORM = true) ∧
    ((railed { noresp := true } 0).ump.rails.any (·.noresp)) = true ∧
    ((up.modDie 5 (fun x => { x with suspect := true })).ump.dies.any (·.suspect)) = true := by
  and_intros <;> decide +kernel

end Sys2Proof.Tests
end

/-! Register holes (R79): what a read and a write make of the state at an offset that no register occupies. -/

namespace Sys2Proof.Machine

/-- Block `b` answers at offset `off` of a site, and no register stands there (R79): a hole of its pages, or an offset of its
common area at which R84 places none. -/
def Site.vacant (x : Site) (off : Nat) (b : Block) : Prop :=
  x.hit off = .hole b ∨ ∃ k, x.hit off = .common b k ∧ commonFields k = none

/-! ### A register file, at a vacant offset -/

/-- `commonFields` names each offset at which `commonRead` finds something. -/
theorem commonRead_of_commonFields_none {k : Nat} (h : commonFields k = none) (x : Site) (b : Block) (s : State) :
    commonRead x b k s = (0, s) := by
  simp only [commonFields, ite_eq_iff, reduceCtorEq, and_false, false_or, and_true, not_or] at h
  simp only [commonRead, h, if_false, or_false]

theorem commonWrite_of_commonFields_none {k : Nat} (h : commonFields k = none) (x : Site) (p : Path) (b : Block)
    (off v : Nat) (s : State) : commonWrite x p b k off v s = s.discardAt x b codeNO_REG (x.pf off) p v := by
  simp only [commonWrite, h]

theorem State.regReadAt_of_vacant {x : Site} {off : Nat} {b : Block} (h : x.vacant off b) (p : Path) (s : State) :
    s.regReadAt x p off = (0, s) := by
  obtain hhole | ⟨k, hcommon, hk⟩ := h
  · simp only [State.regReadAt, hhole]
  · simp only [State.regReadAt, hcommon, commonRead_of_commonFields_none hk]

theorem State.regWriteAt_of_vacant {x : Site} {off : Nat} {b : Block} (h : x.vacant off b) (p : Path) (v : Nat)
    (s : State) : s.regWriteAt x p off v = s.discardAt x b codeNO_REG (x.pf off) p v := by
  obtain hhole | ⟨k, hcommon, hk⟩ := h
  · simp only [State.regWriteAt, hhole]
  · simp only [State.regWriteAt, hcommon, commonWrite_of_commonFields_none hk]

/-! ### Routing -/

theorem State.readAt_of_open {s : State} {x : Site} (ho : s.open_ x) (p : Path) (off : Nat) :
    s.readAt p (x.target off) = s.regReadAt x p off := by
  cases x with
  | hub => rfl
  | unit n =>
    have hrun : s.running n = true := ho
    simp [State.readAt, Site.target, hrun]

theorem State.writeAt_of_open {s : State} {x : Site} (ho : s.open_ x) (p : Path) (off : Nat) (v : Word) :
    s.writeAt p (x.target off) v 15#4 = s.regWriteAt x p off v.toNat := by
  cases x with
  | hub => simp [State.writeAt, Site.target]
  | unit n =>
    have hrun : s.running n = true := ho
    simp [State.writeAt, Site.target, hrun]

theorem State.discardAt_hub (b : Block) (code off : Nat) (p : Path) (arg1 : Nat) (s : State) :
    s.discardAt .hub b code off p arg1 = s.discardHub b code off (pathCode p) arg1 := rfl

theorem State.discardAt_unit {s : State} {n : Nat} {b : Block} (hrun : s.running n = true) (hb : b.isUnit = true)
    (code off : Nat) (p : Path) (arg1 : Nat) :
    s.discardAt (.unit n) b code off p arg1 = s.modChan n (discardUnit b code off (pathCode p) arg1) := by
  simp [State.discardAt, hb, State.modRun, hrun]

/-- An error in a unit's window at which no unit block lies goes to the hub. -/
theorem State.discardAt_unit_hub {b : Block} (hb : b.isUnit = false) (n code off : Nat) (p : Path) (arg1 : Nat)
    (s : State) : s.discardAt (.unit n) b code off p arg1 = s.discardHub b code off (pathCode p) arg1 := by
  simp [State.discardAt, hb]

/-! ### The two commands -/

@[simp] theorem State.quiet_arrives (s : State) (p : Path) : s.quiet.arrives p = s.arrives p := by
  cases p <;> rfl

@[simp] theorem State.quiet_open (s : State) (x : Site) : s.quiet.open_ x = s.open_ x := by
  cases x <;> rfl

section BarZero

variable {p : Path} {off : Nat} {s : State} (hon : s.ump.on = true) (harr : s.arrives p = true) (hsize : off < barSize p)
  (halign : off % 4 = 0)
include hon harr hsize halign

theorem latchedRead_completes {n : Nat} {vc1 : Bool} (h : s.quiet.readAt p (target p off) = (n, s.quiet)) :
    Completes (.latchedRead p ⟨0, off, vc1⟩) s (State.put (.readData (BitVec.ofNat 32 n))) :=
  run_completes (f := State.readBar p 0 off vc1) rfl hon (by simp [State.readBar, State.readBar0, harr, hsize, halign, h])

theorem regWrite_completes {v : Word} {be : BitVec 4} {g : State → State}
    (h : s.quiet.writeAt p (target p off) v be = g s.quiet) : Completes (.regWrite p 0 off v be) s g :=
  run_completes (f := State.writeBar p 0 off v be) rfl hon
    (by simp [State.writeBar, State.writeBar0, harr, hsize, halign, h])

theorem latchedRead_vacant_completes {x : Site} {o : Nat} {b : Block} {vc1 : Bool} (ht : target p off = x.target o)
    (ho : s.open_ x) (hv : x.vacant o b) : Completes (.latchedRead p ⟨0, off, vc1⟩) s (State.put (.readData 0)) := by
  apply latchedRead_completes hon harr hsize halign
  rw [ht, State.readAt_of_open (by simpa using ho), State.regReadAt_of_vacant hv]

theorem regWrite_vacant_completes {x : Site} {o : Nat} {b : Block} {v : Word} {g : State → State}
    (ht : target p off = x.target o) (ho : s.open_ x) (hv : x.vacant o b)
    (hg : s.quiet.discardAt x b codeNO_REG (x.pf o) p v.toNat = g s.quiet) :
    Completes (.regWrite p 0 off v 15#4) s g := by
  apply regWrite_completes hon harr hsize halign
  rw [ht, State.writeAt_of_open (by simpa using ho), State.regWriteAt_of_vacant hv, hg]

end BarZero

/-- Settles O22: at an offset without a register the read changes nothing and answers zero, and the write comes down to the
discard of its site, which is HST's where no block is assigned. -/
theorem registerHoles : Obligations.RegisterHoles := by
  intro p off v vc1 s hon harr hsize halign
  refine ⟨fun o ht => ⟨?_, ?_⟩, fun o b ht hv => ⟨?_, ?_⟩, fun n o b ht hrun hv => ⟨?_, fun hb => ?_, fun hb => ?_⟩⟩
  · exact latchedRead_completes hon harr hsize halign (by rw [ht]; rfl)
  · exact regWrite_completes hon harr hsize halign (by rw [ht]; rfl)
  · exact latchedRead_vacant_completes (x := .hub) hon harr hsize halign ht trivial hv
  · exact regWrite_vacant_completes (x := .hub) hon harr hsize halign ht trivial hv (State.discardAt_hub ..)
  · exact latchedRead_vacant_completes (x := .unit n) hon harr hsize halign ht hrun hv
  · exact regWrite_vacant_completes (x := .unit n) hon harr hsize halign ht hrun hv
      (State.discardAt_unit (by simpa using hrun) hb ..)
  · exact regWrite_vacant_completes (x := .unit n) hon harr hsize halign ht hrun hv (State.discardAt_unit_hub hb ..)

end Sys2Proof.Machine

/-! Doorbells (R113): the register that takes a ring's doorbell, and what a write of it makes of the state. -/

namespace Sys2Proof.Machine

/-! ### A write of a live one-word register of the hub -/

section HubWrite

variable {s : State} {p : Path} {off page rep : Nat} {v : Word} {b : Block} {d : RegDef}

theorem State.regAt_hub (hw : d.words = 1) (active : Bool) :
    s.regAt .hub b d off active = (storeGet hubReset (s.bankOf b).regs off).toNat := by
  simp [State.regAt, hw, State.copyAt, Site.mask, State.bankAt, Site.rst]

theorem State.putReg_hub (hw : d.words = 1) (w : Nat) :
    s.putReg .hub b d off w = s.putWord b off (BitVec.ofNat 32 w) := by
  have hmod : BitVec.ofNat 32 (w % 2 ^ 32) = BitVec.ofNat 32 w := BitVec.eq_of_toNat_eq (by simp)
  simp only [State.putReg, hw, Nat.reduceEqDiff, if_false, State.putAt, Site.mask, if_true, mergeBits_zero, State.modBankAt,
    Site.rst, hmod, State.putWord]

variable (ha : s.arrives p = true) (hr : reaches p (.hub off) = true) (hh : hubHit off = .reg b page rep 0 d)
  (hw : d.words = 1) (hs : d.staged = false) (hc : fieldsCode d.fields false v.toNat = 0)
  (hx : crossOk d.cross page rep v.toNat = true)
include ha hr hh hw hs hc hx

/-- One that passes every check. -/
theorem State.writeTo_hub (ho : s.ownerCode .hub d page rep v.toNat = 0) :
    s.writeTo p (.hub off) v = State.act .hub d page rep off v.toNat
      (if d.fields.any (fun f => f.acc == .rw || f.acc == .w1c) then
        s.putWord b off (BitVec.ofNat 32 (storeFields d.fields (fun _ => true)
          (storeGet hubReset (s.bankOf b).regs off).toNat v.toNat)) else s) := by
  rw [show s.writeTo p (.hub off) v = _ from State.writeTo_reg (x := .hub) ha hr trivial hh hw,
    State.storeReg_accept (by simp [hs]) (by rwa [hs]) hx ho, State.regAt_hub hw, State.putReg_hub hw]

/-- One that the register's owner discards. -/
theorem State.writeTo_hub_refuse (ho : s.ownerCode .hub d page rep v.toNat ≠ 0) :
    s.writeTo p (.hub off) v = (s.substRefused d v.toNat).discardHub b (s.ownerCode .hub d page rep v.toNat) off
      (pathCode p) v.toNat := by
  rw [show s.writeTo p (.hub off) v = _ from State.writeTo_reg (x := .hub) ha hr trivial hh hw,
    State.storeReg_refuse (by simp [hs]) (by rwa [hs]) hx ho, State.discardAt_hub]
  rfl

end HubWrite

/-! ### The doorbell registers of HST -/

/-- PI: the whole word, without a range (HST_DB, HST_HDB). -/
def producerIndex : FieldDef := { name := "PI", hi := 31, lo := 0, acc := .rw, reset := 0 }

theorem fieldsCode_producerIndex (staged : Bool) (v : Word) : fieldsCode [producerIndex] staged v.toNat = 0 := by
  have hrest : setBitsOf v.toNat 0 32 0 = 0 := by
    have := v.isLt
    simp only [setBitsOf, bitsOf]
    omega
  simp [fieldsCode, producerIndex, FieldDef.width, Chk.ok, hrest, codeNONE]

/-- Nothing of the old word stays. -/
theorem storeFields_producerIndex (old v : Word) :
    BitVec.ofNat 32 (storeFields [producerIndex] (fun _ => true) old.toNat v.toNat) = v := by
  have hword : setBitsOf old.toNat 0 32 (bitsOf v.toNat 0 32) = v.toNat := by
    have := old.isLt
    have := v.isLt
    simp only [setBitsOf, bitsOf]
    omega
  simp [storeFields, producerIndex, FieldDef.width, hword]

/-- HST_DB of the units' pages, and HST_HDB. -/
def doorbellReg : Option (Fin 5) → RegDef
  | some _ => { name := "HST_DB", page := 2, pages := 5, off := 0x400, reps := 32, stride := 4, words := 1, staged := false,
                cross := .none, act := .doorbell, fields := [producerIndex] }
  | none => { name := "HST_HDB", page := 7, pages := 1, off := 0x400, reps := 1, stride := 0, words := 1, staged := false,
              cross := .none, act := .doorbell, fields := [producerIndex] }

/-- The page of HST at which they stand, as `ringPage` gives its offset. -/
def doorbellPage : Option (Fin 5) → Nat
  | some n => n.val + 2
  | none => 7

@[simp] theorem doorbellReg_words (u : Option (Fin 5)) : (doorbellReg u).words = 1 := by cases u <;> rfl
@[simp] theorem doorbellReg_staged (u : Option (Fin 5)) : (doorbellReg u).staged = false := by cases u <;> rfl
@[simp] theorem doorbellReg_cross (u : Option (Fin 5)) : (doorbellReg u).cross = .none := by cases u <;> rfl
@[simp] theorem doorbellReg_act (u : Option (Fin 5)) : (doorbellReg u).act = .doorbell := by cases u <;> rfl
@[simp] theorem doorbellReg_fields (u : Option (Fin 5)) : (doorbellReg u).fields = [producerIndex] := by cases u <;> rfl

theorem hubHit_doorbell {u : Option (Fin 5)} {r : Nat} (h : ringOk u r = true) :
    hubHit (ringPage u + 0x400 + 4 * r) = .reg .hst (doorbellPage u) r 0 (doorbellReg u) := by
  cases u with
  | some n =>
    have hmap : ∀ (n : Fin 5) (r : Fin 32), hubHit (ringPage (some n) + 0x400 + 4 * r) =
        .reg .hst (doorbellPage (some n)) r 0 (doorbellReg (some n)) := by decide +kernel
    exact hmap n ⟨r, by simpa [ringOk] using h⟩
  | none =>
    obtain rfl : r = 0 := by simpa [ringOk] using h
    decide +kernel

theorem ringOfPage_doorbellPage {u : Option (Fin 5)} {r : Nat} (h : ringOk u r = true) :
    ringOfPage (doorbellPage u) r = ringIx u r := by
  cases u with
  | some n =>
    have := n.isLt
    simp [ringOfPage, doorbellPage, ringIx, show n.val + 2 ≠ 7 by omega]
  | none => rfl

/-! ### A doorbell -/

section Doorbell

variable {s : State} {p : Path} {u : Option (Fin 5)} {r : Nat} {v : Word} (h : ringOk u r = true)
include h

theorem State.ownerCode_doorbell : s.ownerCode .hub (doorbellReg u) (doorbellPage u) r v.toNat =
    if s.doorbellBad (ringIx u r) v.toNat then codeRANGE else codeNONE := by
  simp [State.ownerCode, ringOfPage_doorbellPage h]

variable (ha : s.arrives p = true) (hr : reaches p (.hub (ringPage u + 0x400 + 4 * r)) = true)
include ha hr

theorem State.writeTo_doorbell_good (hv : s.doorbellBad (ringIx u r) v.toNat = false) :
    s.writeTo p (.hub (ringPage u + 0x400 + 4 * r)) v = s.putWord .hst (ringPage u + 0x400 + 4 * r) v := by
  rw [State.writeTo_hub ha hr (hubHit_doorbell h) (by simp) (by simp) (by simp [fieldsCode_producerIndex])
    (by simp [crossOk]) (by simp [State.ownerCode_doorbell h, hv, codeNONE])]
  simp [State.act, storeFields_producerIndex, show producerIndex.acc = .rw from rfl]

theorem State.writeTo_doorbell_bad (hv : s.doorbellBad (ringIx u r) v.toNat = true) :
    s.writeTo p (.hub (ringPage u + 0x400 + 4 * r)) v =
      s.discardHub .hst codeRANGE (ringPage u + 0x400 + 4 * r) (pathCode p) v.toNat := by
  have hcode : s.ownerCode .hub (doorbellReg u) (doorbellPage u) r v.toNat = codeRANGE := by
    simp [State.ownerCode_doorbell h, hv]
  rw [State.writeTo_hub_refuse ha hr (hubHit_doorbell h) (by simp) (by simp) (by simp [fieldsCode_producerIndex])
    (by simp [crossOk]) (by simp [hcode, codeRANGE]), hcode]
  simp [State.substRefused]

end Doorbell

theorem State.doorbellBad_eq_false_iff {s : State} {i v : Nat} : s.doorbellBad i v = false ↔
    s.ringOn i = true ∧ (v + 2 ^ 32 - s.ringCi i) % 2 ^ 32 ≤ s.ringSize i := by
  simp [State.doorbellBad]

theorem State.doorbellBad_iff {s : State} {i v : Nat} : s.doorbellBad i v = true ↔
    s.ringOn i = false ∨ s.ringSize i < (v + 2 ^ 32 - s.ringCi i) % 2 ^ 32 := by
  simp [State.doorbellBad]

@[simp] theorem State.quiet_doorbellBad (s : State) (i v : Nat) : s.quiet.doorbellBad i v = s.doorbellBad i v := rfl

theorem doorbell_completes {p : Path} {u : Option (Fin 5)} {r : Nat} {v : Word} {s : State} {g : State → State}
    (h : ringOk u r = true) (hon : s.ump.on = true)
    (hg : s.quiet.writeTo p (.hub (ringPage u + 0x400 + 4 * r)) v = g s.quiet) : Completes (.doorbell p u r v) s g :=
  run_completes (f := fun s => if ringOk u r then s.writeTo p (.hub (ringPage u + 0x400 + 4 * r)) v else s) rfl hon
    (by simp [h, hg])

/-- A ring that comes on starts. -/
theorem State.ringStored_of_ringOn {s : State} {i : Nat} (h : s.ringOn i = true) :
    s.ringStored i false = s.ringStart i := by
  simp [State.ringStored, h]

/-- Settles O28: the doorbell is a write of a register of HST without a range of its own, whose owner discards what
`doorbellBad` names and keeps the rest as it is written. -/
theorem doorbells : Obligations.Doorbells := by
  intro p u r v s h
  refine ⟨fun ⟨hon, harr, hreach⟩ => ⟨fun hring hroom => ?_, fun hbad => ?_⟩, fun i hring => ?_⟩
  · exact doorbell_completes h hon (State.writeTo_doorbell_good h (by simpa using harr) hreach
      (by simpa using State.doorbellBad_eq_false_iff.mpr ⟨hring, hroom⟩))
  · exact doorbell_completes h hon (State.writeTo_doorbell_bad h (by simpa using harr) hreach
      (by simpa using State.doorbellBad_iff.mpr hbad))
  · exact State.ringStored_of_ringOn hring

end Sys2Proof.Machine

/-! The error log (R465): what the slots hold after an entry is written. -/

namespace Sys2Proof.Machine

/-! ### A list that holds one element for each key -/

section KeyedList

variable {α : Type} (key : α → Nat) (l : List α) (x : α)

/-- An element that takes the place of those with its key is the one found at that key. -/
theorem find?_replaceKey_same :
    (l.filter (fun y => key y != key x) ++ [x]).find? (fun y => key y == key x) = some x := by
  have hgone : (l.filter (fun y => key y != key x)).find? (fun y => key y == key x) = none := by
    simp [List.find?_eq_none]
  rw [List.find?_append, hgone]
  simp

/-- At every other key it changes nothing. -/
theorem find?_replaceKey_other {i : Nat} (h : i ≠ key x) :
    (l.filter (fun y => key y != key x) ++ [x]).find? (fun y => key y == i) = l.find? (fun y => key y == i) := by
  have hkept (y : α) : ((key y != key x) = true ∧ (key y == i) = true) ↔ (key y == i) = true := by
    refine ⟨And.right, fun hy => ⟨?_, hy⟩⟩
    simpa [beq_iff_eq.mp hy] using h
  have hx : [x].find? (fun y => key y == i) = none := by simp [h.symm]
  simp only [List.find?_append, List.find?_filter, hkept, Bool.decide_eq_true, hx, Option.or_none]

end KeyedList

/-! ### Lengths -/

@[simp] theorem length_bytesLE (n x : Nat) : (bytesLE n x).length = n := by
  induction n generalizing x with
  | zero => rfl
  | succ n ih => simp [bytesLE, ih]

@[simp] theorem length_logBytes (e : LogEntry) : (logBytes e).length = 32 := by
  simp [logBytes]

/-! ### A slot of the log -/

section LogSlot

variable {s t : State} {i : Nat}

theorem State.logSlot_of_find?_eq_some {e : LogEntry}
    (h : s.ump.log.entries.find? (fun e => e.seq % 1024 == i) = some e) : s.logSlot i = logBytes e := by
  simp only [State.logSlot, h]

theorem State.logSlot_of_find?_eq_none (h : s.ump.log.entries.find? (fun e => e.seq % 1024 == i) = none) :
    s.logSlot i = List.replicate 32 0#8 := by
  simp only [State.logSlot, h]

/-- The slot depends on nothing but the entry that is found for it. -/
theorem State.logSlot_congr (h : t.ump.log.entries.find? (fun e => e.seq % 1024 == i) =
    s.ump.log.entries.find? (fun e => e.seq % 1024 == i)) : t.logSlot i = s.logSlot i := by
  simp only [State.logSlot, h]

@[simp] theorem State.length_logSlot (s : State) (i : Nat) : (s.logSlot i).length = 32 := by
  cases h : s.ump.log.entries.find? (fun e => e.seq % 1024 == i) with
  | none => simp [State.logSlot_of_find?_eq_none h]
  | some e => simp [State.logSlot_of_find?_eq_some h]

theorem State.logSlot_of_unwritten (h : s.ump.log.entries.all (fun e => e.seq % 1024 != i) = true) :
    s.logSlot i = List.replicate 32 0#8 :=
  State.logSlot_of_find?_eq_none (by simpa [List.find?_eq_none] using h)

end LogSlot

/-! ### Writing an entry -/

/-- The entry that `logRaw` makes. -/
def State.newLogEntry (typ src cls due a0 a1 : Nat) (s : State) : LogEntry :=
  { seq := s.ump.log.next, typ := typ, source := src, cls := cls, xcount := s.centre.xcount, due := due
    arg0 := a0 % 2 ^ 32, arg1 := a1 % 2 ^ 32, boot := s.ump.log.boot }

section LogRaw

variable (typ src cls due a0 a1 : Nat) (s : State)

theorem State.logRaw_entries : (s.logRaw typ src cls due a0 a1).ump.log.entries =
    s.ump.log.entries.filter (fun e => e.seq % 1024 != (s.newLogEntry typ src cls due a0 a1).seq % 1024) ++
      [s.newLogEntry typ src cls due a0 a1] := rfl

@[simp] theorem State.logRaw_next :
    (s.logRaw typ src cls due a0 a1).ump.log.next = (s.ump.log.next + 1) % 2 ^ 32 := rfl

theorem State.logSlot_logRaw_same : (s.logRaw typ src cls due a0 a1).logSlot (s.ump.log.next % 1024) =
    logBytes (s.newLogEntry typ src cls due a0 a1) :=
  State.logSlot_of_find?_eq_some (by
    rw [State.logRaw_entries]
    exact find?_replaceKey_same (fun e : LogEntry => e.seq % 1024) _ (s.newLogEntry typ src cls due a0 a1))

theorem State.logSlot_logRaw_other {i : Nat} (h : i ≠ s.ump.log.next % 1024) :
    (s.logRaw typ src cls due a0 a1).logSlot i = s.logSlot i :=
  State.logSlot_congr (by
    rw [State.logRaw_entries]
    exact find?_replaceKey_other (fun e : LogEntry => e.seq % 1024) _ _ h)

end LogRaw

/-- Settles O59: an entry displaces those whose SEQ falls on its slot and no other, so that its own slot finds it and each other
slot finds what it found before; a slot for which none is found reads as zeros. -/
theorem logSlots : Obligations.LogSlots := by
  intro typ src cls due a0 a1 s
  refine ⟨?_, State.logRaw_next typ src cls due a0 a1 s, fun i _ hi => ?_, State.length_logSlot _, fun i hi => ?_⟩
  · exact State.logSlot_logRaw_same typ src cls due a0 a1 s
  · exact State.logSlot_logRaw_other typ src cls due a0 a1 s hi
  · exact State.logSlot_of_unwritten hi

end Sys2Proof.Machine

/-! The machine as a whole: the form that every command's meaning has, and what it makes of the invariant. -/

namespace Sys2Proof.Machine

/-! ### The form of every meaning -/

theorem exec_laneEvent {c : Instr} {n : Fin 5} (h : c.laneEvent = some n) : ∃ f, ∀ s, exec c s = unitOp n f s := by
  unfold Instr.laneEvent at h
  split at h <;> cases h
  all_goals exact ⟨_, fun _ => rfl⟩

theorem exec_timingEvent {c : Instr} {n : Fin 5} (h : c.timingEvent = some n) :
    ∃ f, ∀ s, exec c s = unitOp n f s := by
  unfold Instr.timingEvent at h
  split at h <;> cases h
  all_goals exact ⟨_, fun _ => rfl⟩

theorem exec_pictureEvent {c : Instr} {n : Fin 5} (h : c.pictureEvent = some n) :
    ∃ f, ∀ s, exec c s = unitOp n f s := by
  unfold Instr.pictureEvent at h
  split at h <;> cases h
  all_goals exact ⟨_, fun _ => rfl⟩

theorem exec_unitEvent {c : Instr} {n : Fin 5} (h : c.unitEvent = some n) : ∃ f, ∀ s, exec c s = unitOp n f s := by
  simp only [Instr.unitEvent, Option.or_eq_some_iff] at h
  obtain (h | ⟨-, h⟩) | ⟨-, h⟩ := h
  · exact exec_laneEvent h
  · exact exec_timingEvent h
  · exact exec_pictureEvent h

/-- All but the two commands that find VDD_AUX out of range need the umpire (R41, R55). -/
theorem exec_eq_run {c : Instr} (hrise : ∀ x, c ≠ .vddAuxRise x) (hbank : ∀ b u, c ≠ .bankSupplyChange b u) :
    ∃ f, ∀ s, exec c s = run f s := by
  cases c
  case vddAuxRise x => exact absurd rfl (hrise x)
  case bankSupplyChange b u => exact absurd rfl (hbank b u)
  all_goals exact ⟨_, fun _ => rfl⟩

theorem exec_eq_runAlways (c : Instr) : ∃ f, ∀ s, exec c s = runAlways f s := by
  by_cases hrise : ∃ x, c = .vddAuxRise x
  · obtain ⟨x, rfl⟩ := hrise
    exact ⟨_, fun _ => rfl⟩
  · by_cases hbank : ∃ b u, c = .bankSupplyChange b u
    · obtain ⟨b, u, rfl⟩ := hbank
      exact ⟨_, fun _ => rfl⟩
    · obtain ⟨f, hf⟩ := exec_eq_run (fun x h => hrise ⟨x, h⟩) (fun b u h => hbank ⟨b, u, h⟩)
      exact ⟨_, hf⟩

/-! ### What every step keeps -/

/-- The operation keeps what every step keeps. -/
def Keeps (f : State → State) : Prop := ∀ s : State, s.Inv → (f s).Inv

/-- The command does. -/
def ExecKeeps (c : Instr) : Prop := ∀ s t : State, s.Inv → exec c s = .next t → t.Inv

theorem State.inv_of_pending {s : State} (h : s.Inv) (l : List Instr) : State.Inv { s with pending := l } :=
  h.of_eq rfl rfl

theorem State.quiet_inv {s : State} (h : s.Inv) : s.quiet.Inv := h.of_eq rfl rfl

theorem effect_keeps {f : State → State} (hf : Keeps f) : Keeps (effect f) := fun _ h =>
  State.inv_ite (fun _ => State.settle_inv (hf _ (State.quiet_inv h)) _) (fun _ => hf _ (State.quiet_inv h))

theorem ExecKeeps.of_runAlways {c : Instr} {f : State → State} (hf : Keeps f)
    (hc : ∀ s, exec c s = runAlways f s := by intros; rfl) : ExecKeeps c := by
  intro s t h ht
  rw [hc] at ht
  cases ht
  exact State.inv_of_pending (effect_keeps hf s h) _

theorem ExecKeeps.of_run {c : Instr} {f : State → State} (hf : Keeps f)
    (hc : ∀ s, exec c s = run f s := by intros; rfl) : ExecKeeps c :=
  .of_runAlways (fun _ h => State.inv_ite (fun _ => hf _ h) (fun _ => h)) hc

/-- An event within a unit reaches neither power states nor queues. -/
theorem ExecKeeps.of_unitOp {c : Instr} {n : Nat} {f : Chan → Chan} (hc : ∀ s, exec c s = unitOp n f s) : ExecKeeps c :=
  .of_run (fun _ h => State.modRun_inv h n f) hc

theorem exec_keeps (c : Instr) : ExecKeeps c := by
  cases hc : c.unitEvent with
  | some n =>
    obtain ⟨f, hf⟩ := exec_unitEvent hc
    exact .of_unitOp hf
  | none =>
    cases c
    case vddAuxRise => exact .of_runAlways fun _ h => opVddAuxRise_inv h _
    case auxRstAssert => exact .of_run fun _ h => State.auxReset_inv h _ _
    case powerFail => exact .of_run fun _ h => opPowerFail_inv h _ _
    case pwrGoodRise => exact .of_run fun _ h => opPwrGoodRise_inv h _
    case hbmTrainingStart => exact .of_run fun _ h => opTrainingStart_inv h _
    case hbmTrainingDone => exact .of_run fun _ h => State.trainDone_inv h _ _
    case startAfterTraining | heldWriteAfterSubst => exact .of_run fun _ h => State.afterWait_inv h _
    case linkReset => exact .of_run fun _ h => opLinkReset_inv h
    case linkDown => exact .of_run fun _ h => State.inv_ite (fun _ => State.linkGone_inv h) (fun _ => h)
    case ltssmChange => exact .of_run fun _ h => opLtssm_inv h _ _ _ _
    case configRequest => exact .of_run fun _ h => opConfig_inv h _
    case functionReset => exact .of_run fun _ h => State.inv_ite (fun _ => State.functionReset_inv h _) (fun _ => h)
    case d3hotEntry => exact .of_run fun _ h => opD3hot_inv h _
    case d0Return =>
      exact .of_run fun _ h => State.inv_ite (fun _ => State.sendPending_inv (State.modFn_inv h _ _) _) (fun _ => h)
    case supplyIsolation n => exact .of_run fun _ h => opSupplyIsolation_inv h n (by omega)
    case avsTimeout => exact .of_run fun _ h => State.benchCheck_inv (State.railTimeout_inv h _)
    case imgLoad | evtInject | quench | resume | commit | commitAt | decoderResume | hostTimeSample | phaseAdjust |
        benchDesignate | substGo | substReturn | force | logClear =>
      exact .of_run fun _ h => State.writeTo_inv h _ _ _
    case imgLoadDone => exact .of_run fun _ h => opImgLoadDone_inv (imgLast_inv h _)
    case unitReqCold | unitReqParked | unitReqHeld | unitReqRun => exact .of_run fun _ h => unitCtl_inv h _ _ _ _
    case unitStartComplete => exact .of_run fun _ h => State.startDone_inv h _ _
    case unitStopComplete => exact .of_run fun _ h => opUnitStopComplete_inv h _
    case forcedStep => exact .of_run fun _ h => State.forceStep_inv h _ _
    case parkFailed => exact .of_run fun _ h => State.parkFailed_inv h _
    case regWrite => exact .of_run fun _ h => State.writeBar_inv h _ _ _ _ _
    case latchedRead => exact .of_run fun _ h => State.readBar_inv h _ _ _ _
    case readClear | tableDataRead => exact .of_run fun _ h => State.readBar0_inv h _ _
    case tableIdxWrite | tableDataWrite | revert | errClear | intClr =>
      exact .of_run fun _ h => State.writeBar0_inv h _ _ _ _
    case blockTimeout => exact .of_run fun _ h => opBlockTimeout_inv h _ _ _
    case eventDeliver => exact .of_run fun _ h => State.deliver_inv h _
    case doorbell | flipArm => exact .of_run fun _ h => State.inv_ite (fun _ => State.writeTo_inv h _ _ _) (fun _ => h)
    case ringEnable | ringDisable => exact .of_run fun _ h => storeEnable_inv h _ _ _ _
    case descriptorComplete => exact .of_run fun _ h => State.completeNext_inv h _
    case pcieCompletion => exact .of_run fun _ h => State.readReply_inv h _ _
    case dmaReadTimeout => exact .of_run fun _ h => State.readTimeout_inv h _
    case msixModerationTimeout => exact .of_run fun _ h => opModerationTimeout_inv h _
    case bar2Write => exact .of_run fun _ h => State.bar2Write_inv h _ _ _ _
    case bar2Read => exact .of_run fun _ h => State.bar2Read_inv h _ _ _ _ _
    case quenchDone => exact .of_run fun _ h => opQuenchDone_inv h _ _
    case read32 => exact .of_run fun _ h => State.mgtCommand_inv h _ _ _ _ fun _ _ ht => State.mgtRead32_inv ht _
    case write32 => exact .of_run fun _ h => State.mgtCommand_inv h _ _ _ _ fun _ _ ht => State.mgtWrite32_inv ht _
    case getStatus | laneState | linkState =>
      exact .of_run fun _ h => State.mgtCommand_inv h _ _ _ _ fun _ _ ht => State.respond_inv ht _ _
    case readLog => exact .of_run fun _ h => State.mgtCommand_inv h _ _ _ _ fun _ _ ht => State.mgtReadLog_inv ht _
    case readScorecard => exact .of_run fun _ h => State.mgtCommand_inv h _ _ _ _ fun _ _ ht => State.mgtReadCard_inv ht _
    case setPower => exact .of_run fun _ h => State.mgtCommand_inv h _ _ _ _ fun _ _ ht => State.mgtSetPower_inv ht _
    case resetUnit => exact .of_run fun _ h => State.mgtCommand_inv h _ _ _ _ fun _ _ ht => State.mgtResetUnit_inv ht _
    case substitute => exact .of_run fun _ h => State.mgtCommand_inv h _ _ _ _ fun _ _ ht => State.mgtSubstitute_inv ht _
    case forceShutdown =>
      exact .of_run fun _ h => State.mgtCommand_inv h _ _ _ _ fun _ _ ht =>
        State.respond_inv (State.forceDies_inv ht _) _ _
    case mgtQuench =>
      exact .of_run fun _ h => State.mgtCommand_inv h _ _ _ _ fun _ _ ht =>
        State.mgtMask_inv ht _ fun _ _ ht => State.quenchStart_inv ht _ _
    case mgtResume =>
      exact .of_run fun _ h => State.mgtCommand_inv h _ _ _ _ fun _ _ ht =>
        State.mgtMask_inv ht _ fun _ _ ht => State.quenchResume_inv ht _
    case setBusMode =>
      exact .of_run fun _ h => State.mgtCommand_inv h _ _ _ _ fun _ _ ht =>
        State.respond_inv (State.modMgt_inv ht _) _ _
    case unknownOpcode =>
      exact .of_run fun _ h => State.inv_ite (fun _ => State.mgtRequest_inv h _ _ fun _ ht => State.respond_inv ht _ _)
        (fun _ => h)
    case responseRead => exact .of_run fun _ h => State.mgtRead_inv h
    case requestTimeout => exact .of_run fun _ h => State.mgtTimeout_inv h
    case enec | disec | rstdaa | setmwl | setmrl | rstact =>
      exact .of_run fun _ h => State.ccc_inv h fun _ ht => State.modMgt_inv ht _
    case entdaa | setdasa => exact .of_run fun _ h => State.assign_inv h _
    case getpid | getbcr | getdcr | getmxds => exact .of_run fun _ h => State.cccGet_inv h _
    case getstatus => exact .of_run fun _ h => State.draw_inv (State.cccRead_inv h _)
    case alertResponse => exact .of_run fun _ h => State.alertRead_inv h
    case smbusTimeout => exact .of_run fun _ h => opSmbusTimeout_inv h
    case admissionVerdict => exact .of_run fun _ h => State.modRun_inv h _ _
    case configRecordTimeout => exact .of_run fun _ h => opConfigTimeout_inv h _
    case cycle | freeze => exact .of_run fun _ h => encPctl_inv h _ _ _ _
    case scorecardReceive => exact .of_run fun _ h => opCardReceive_inv h _ _
    case scorecardTimeout => exact .of_run fun _ h => State.modCards_inv h _ _
    case eyeScan | prbsClear => exact .of_run fun _ h => lanePctl_inv h _ _ _ _
    case maskArm | restartRequest => exact .of_run fun _ h => audCtl_inv h _ _ _ _ _
    case watchdog n prog => exact .of_run fun _ h => opWatchdog_inv h n prog (by omega)
    case benchSelDrive => exact .of_run fun _ h => State.driveSel_inv h
    case housekeepingRound => exact .of_run fun _ h => State.round_inv h _
    case startAfterCooling => exact .of_run fun _ h => State.inv_ite (fun _ => h) (fun _ => State.afterWait_inv h _)
    case thermTripRelease => exact .of_run fun _ h => State.tripRelease_inv h
    case marginComparator => exact .of_run fun _ h => State.fastStep_inv h _
    case avsStepDue => exact .of_run fun _ h => State.stepDue_inv h _
    case energySecond => exact .of_run fun _ h => State.energy_inv h _
    case suppressed => exact .of_run fun _ h => opSuppressed_inv h _ _
    case statusRead => exact .of_run fun _ h => opStatusRead_inv h _
    case vddAuxLoss => exact .of_run fun _ h => opVddAuxLoss_inv h
    case bankSupplyChange => exact .of_runAlways fun _ h => opBankSupplyChange_inv h _ _
    case perstDeassert => exact .of_run fun _ h => State.modHub_inv h _
    all_goals cases hc

/-- Settles O6: a period of the crystal and every command keep the invariant, each by the lemma of its operation. -/
theorem stepKeepsInvariant : Obligations.StepKeepsInvariant := by
  intro s t h ht
  unfold step at ht
  split at ht
  · cases ht
    exact State.idle_inv h
  · exact exec_keeps _ _ t (State.inv_of_pending h _) ht


/-- Settles O1. -/
theorem stepTakesFront : Obligations.StepTakesFront := fun _ _ => rfl

/-- Settles O2: an empty queue leaves the step to `State.idle`, and a command that needs the umpire is `run`, which does nothing
without it. -/
theorem idleAndOff : Obligations.IdleAndOff := by
  refine ⟨fun s hq => ⟨fun hon => ?_, fun hoff => ?_⟩, fun c s hoff hrise hbank => ?_⟩
  · simp only [step, hq, State.idle, hon, if_true]
  · simp [step, hq, State.idle, hoff]
  · obtain ⟨f, hf⟩ := exec_eq_run hrise hbank
    rw [hf]
    exact run_off hoff

/-- Settles O3: every meaning has the form of `runAlways`. -/
theorem everyCommandCompletes : Obligations.EveryCommandCompletes := by
  intro c s
  obtain ⟨f, hf⟩ := exec_eq_runAlways c
  exact ⟨_, hf s, rfl⟩

/-- Settles O4. -/
theorem resetValues : Obligations.ResetValues := by
  refine ⟨rfl, rfl, rfl, rfl, rfl, rfl, rfl, rfl, rfl, rfl, rfl, rfl, fun q hq => ?_, fun n hn => ?_⟩
  · interval_cases q <;> rfl
  · interval_cases n <;> exact ⟨rfl, rfl, rfl, rfl, rfl, rfl⟩

/-- Settles O5: no unit is up, the substitution names CU0, BENCH_SEL is at 111 and every queue is empty. -/
theorem resetInvariant : Obligations.ResetInvariant where
  five := rfl
  four := by decide
  src := Nat.zero_le 4
  dst := Nat.zero_le 4
  sel := .inr rfl
  full q hq := by
    have hempty : q = {} := List.eq_of_mem_replicate hq
    simp [hempty]

/-! ### What follows of itself -/

theorem forN_eq_self {α : Type} {k : Nat} {f : Nat → α → α} {a : α} (h : ∀ i < k, f i a = a) : forN k f a = a := by
  have hfold (l : List Nat) (hl : ∀ i ∈ l, i < k) : l.foldl (fun y i => f i y) a = a := by
    induction l with
    | nil => rfl
    | cons i l ih =>
      rw [List.foldl_cons, h i (hl i List.mem_cons_self)]
      exact ih fun j hj => hl j (List.mem_cons_of_mem _ hj)
  exact hfold _ fun i hi => List.mem_range.mp hi

section AtRest

variable {before s : State}

theorem State.flush_of_outbox_nil {n : Nat} (h : (s.chan n).outbox = []) : s.flush n = s := by
  simp [State.flush, h]

theorem State.flushAll_of_outboxes_nil (h : ∀ n < 5, (s.chan n).outbox = []) : s.flushAll = s :=
  forN_eq_self fun n hn => State.flush_of_outbox_nil (h n hn)

theorem State.pumpAll_of_nothing (hring : s.enabledRings = []) (himg : s.ump.loading = none) : s.pumpAll = s := by
  simp [State.pumpAll, hring, State.imgPump, himg]

theorem State.interrupts_of_seen (h : s.hub.intUp = s.masked) : s.interrupts = s := by
  have hfresh : s.masked.filter (fun k => !s.masked.contains k) = [] := by simp [List.filter_eq_nil_iff]
  simp only [State.interrupts, h, hfresh, List.foldl_nil, if_true]

theorem State.finish_of_atRest (hint : s.hub.powered = true → s.hub.intUp = s.masked)
    (hfault : s.faultLow = true → before.faultLow = true) : State.finish before s = s := by
  have hseen : (if s.hub.powered then s.interrupts else s) = s := by
    split
    · next hp => exact State.interrupts_of_seen (hint hp)
    · rfl
  have hfall : (s.faultLow && !before.faultLow) = false := by
    cases hs : s.faultLow
    · rfl
    · simp [hfault hs]
  simp [State.finish, hseen, hfall]

theorem State.settle_of_atRest (h : State.atRest before s) : State.settle before s = s := by
  obtain ⟨hout, hdl, hint, hfault⟩ := h
  have hflush : s.flushAll = s := State.flushAll_of_outboxes_nil hout
  have hpump : (if s.dlUp then s.pumpAll.flushAll else s) = s := by
    split
    · next hup => rw [State.pumpAll_of_nothing (hdl hup).1 (hdl hup).2, hflush]
    · rfl
  simp only [State.settle, hflush, hpump, State.finish_of_atRest hint hfault]

end AtRest

/-- Settles O7: with empty outboxes nothing is flushed, without a ring or a load no engine works, and the interrupts and FAULT#
are those already signalled. -/
theorem settledStays : Obligations.SettledStays := fun _ _ h => State.settle_of_atRest h

theorem unitOp_not_running {c : Instr} {n : Nat} {s : State} {f : Chan → Chan} (hc : exec c s = unitOp n f s)
    (hon : s.ump.on = true) (hrun : s.running n = false) : Completes c s id :=
  run_completes hc hon (by simp [State.modRun, hrun])

/-- Settles O8: an event of a unit is `unitOp`; and of what is within one unit nothing follows at rest. -/
theorem unitFrame : Obligations.UnitFrame := by
  refine ⟨fun c n s hc hon => ?_, fun c n g s hc hon hrest => ?_⟩
  · obtain ⟨f, hf⟩ := exec_unitEvent hc
    exact ⟨fun hrun => ⟨f, unitOp_completes (hf s) ⟨hon, hrun⟩ rfl⟩, unitOp_not_running (hf s) hon⟩
  · have heffect : effect (State.modChan n g) s = State.modChan n g s.quiet := by
      have hon' : (State.modChan n g s.quiet).ump.on = true := hon
      simp only [effect, hon', if_true]
      exact State.settle_of_atRest hrest
    refine ⟨_, hc, rfl, ?_, ?_, ?_, fun m hm => ?_, fun hn => ?_⟩ <;> rw [heffect]
    · rfl
    · rfl
    · rfl
    · exact State.modChan_other n m g s.quiet hm.symm
    · exact State.modChan_chan n g s.quiet hn

end Sys2Proof.Machine

/-! Fields of registers and bytes of memory: what a field reads after another is set (R8, R53, R91), and what HBM reads after a
write (R403, R414). -/

namespace Sys2Proof

/-! ### Bits of a number -/

/-- `x` as what lies above, within and below the bits `lo + w - 1 : lo`. -/
theorem setBitsOf_eq (x lo w v : Nat) :
    setBitsOf x lo w v = 2 ^ lo * (2 ^ w * (x / 2 ^ lo / 2 ^ w) + v % 2 ^ w) + x % 2 ^ lo := by
  have hlow := Nat.div_add_mod x (2 ^ lo)
  have hmid := Nat.div_add_mod (x / 2 ^ lo) (2 ^ w)
  have hx : x = 2 ^ lo * (2 ^ w * (x / 2 ^ lo / 2 ^ w)) + 2 ^ lo * bitsOf x lo w + x % 2 ^ lo := by
    rw [bitsOf, ← Nat.mul_add, hmid, hlow]
  rw [setBitsOf, Nat.mul_add, Nat.mul_comm (bitsOf x lo w), Nat.mul_comm (v % 2 ^ w)]
  omega

theorem testBit_setBitsOf (x lo w v i : Nat) :
    (setBitsOf x lo w v).testBit i = if lo ≤ i ∧ i < lo + w then v.testBit (i - lo) else x.testBit i := by
  have hv : v % 2 ^ w < 2 ^ w := Nat.mod_lt _ (Nat.two_pow_pos w)
  rw [setBitsOf_eq, Nat.testBit_two_pow_mul_add _ (Nat.mod_lt _ (Nat.two_pow_pos lo))]
  by_cases hlo : i < lo
  · simp [hlo, show ¬ lo ≤ i by omega]
  · rw [if_neg hlo, Nat.testBit_two_pow_mul_add _ hv]
    by_cases hw : i - lo < w
    · simp [hw, show lo ≤ i ∧ i < lo + w by omega]
    · rw [if_neg hw, if_neg (by omega), Nat.testBit_div_two_pow, Nat.testBit_div_two_pow]
      congr 1
      omega

theorem testBit_bitsOf (x lo w i : Nat) : (bitsOf x lo w).testBit i = (decide (i < w) && x.testBit (lo + i)) := by
  rw [bitsOf, Nat.testBit_mod_two_pow, Nat.testBit_div_two_pow, Nat.add_comm]

theorem bitsOf_setBitsOf_same (x lo w v : Nat) : bitsOf (setBitsOf x lo w v) lo w = v % 2 ^ w := by
  apply Nat.eq_of_testBit_eq
  intro i
  rw [testBit_bitsOf, testBit_setBitsOf, Nat.testBit_mod_two_pow]
  by_cases hi : i < w <;> simp [hi]

/-- Bits beside those that are set stay. -/
theorem bitsOf_setBitsOf_beside {x lo w v lo' w' : Nat} (h : lo' + w' ≤ lo ∨ lo + w ≤ lo') :
    bitsOf (setBitsOf x lo w v) lo' w' = bitsOf x lo' w' := by
  apply Nat.eq_of_testBit_eq
  intro i
  rw [testBit_bitsOf, testBit_setBitsOf, testBit_bitsOf]
  by_cases hi : i < w'
  · rw [if_neg (by omega)]
  · simp [hi]

theorem setBitsOf_lt {x lo w v n : Nat} (hx : x < 2 ^ n) (hw : lo + w ≤ n) : setBitsOf x lo w v < 2 ^ n := by
  apply Nat.lt_pow_two_of_testBit
  intro i hi
  rw [testBit_setBitsOf, if_neg (by omega)]
  exact Nat.testBit_lt_two_pow (Nat.lt_of_lt_of_le hx (Nat.pow_le_pow_right (by omega) hi))

namespace Machine

/-! ### Fields of a register file -/

section RegFile

variable {rst : Nat → Word} {l : RegFile} {f g : Fld}

/-- The word of a field holds it when it is set. -/
theorem toNat_storeGet_rfSet (hl : storeWf rst l = true) (hf : f.lo + f.w ≤ 32) (v : Nat) :
    (storeGet rst (rfSet rst l f v) f.key).toNat = setBitsOf (storeGet rst l f.key).toNat f.lo f.w v := by
  rw [rfSet, if_pos hf, storeGet_set hl, if_pos rfl, BitVec.toNat_ofNat]
  exact Nat.mod_eq_of_lt (setBitsOf_lt (storeGet rst l f.key).isLt hf)

theorem rfGet_rfSet_same (hl : storeWf rst l = true) (hf : f.lo + f.w ≤ 32) (v : Nat) :
    rfGet rst (rfSet rst l f v) f = v % 2 ^ f.w := by
  rw [rfGet, if_pos hf, toNat_storeGet_rfSet hl hf, bitsOf_setBitsOf_same]

theorem rfGet_rfSet_beside (hl : storeWf rst l = true) (hf : f.lo + f.w ≤ 32) (hg : g.lo + g.w ≤ 32)
    (hkey : g.key = f.key) (h : g.lo + g.w ≤ f.lo ∨ f.lo + f.w ≤ g.lo) (v : Nat) :
    rfGet rst (rfSet rst l f v) g = rfGet rst l g := by
  rw [rfGet, rfGet, if_pos hg, if_pos hg, hkey, toNat_storeGet_rfSet hl hf, bitsOf_setBitsOf_beside h]

/-- A set keeps the canonical form, whatever the field. -/
theorem storeWf_rfSet (hl : storeWf rst l = true) (f : Fld) (v : Nat) : storeWf rst (rfSet rst l f v) = true := by
  unfold rfSet
  split
  · exact storeWf_set hl _ _
  · exact storeWf_set (storeWf_set hl _ _) _ _

end RegFile

/-- Settles O11: setting a field changes the bits of its own word at its own place alone. -/
theorem fieldsReadBack : Obligations.FieldsReadBack := by
  intro c f g v hf hg hl
  exact ⟨rfGet_rfSet_same hl hf v, storeWf_rfSet hl f v, fun hkey => Chan.get_set_ne hf hg hkey c v,
    fun hkey hbeside => rfGet_rfSet_beside hl hf hg hkey hbeside v⟩

/-! ### Bytes of memory -/

section Range

variable {β : Type} {d : Nat → β}

theorem length_storeRange (l : List (Nat × β)) (k n : Nat) : (storeRange d l k n).length = n := by
  induction n generalizing k with
  | zero => rfl
  | succ n ih => simp [storeRange, ih]

theorem getElem_storeRange (l : List (Nat × β)) (k n i : Nat) (hi : i < (storeRange d l k n).length) :
    (storeRange d l k n)[i] = storeGet d l (k + i) := by
  induction n generalizing k i with
  | zero => exact absurd hi (Nat.not_lt_zero i)
  | succ n ih =>
    cases i with
    | zero => rfl
    | succ i => simpa [storeRange, Nat.add_assoc, Nat.add_comm 1 i] using ih (k + 1) i (by simpa [storeRange] using hi)

variable [DecidableEq β] {l : List (Nat × β)}

theorem storeRange_storePut (hl : storeWf d l = true) (k : Nat) (vs : List β) :
    storeRange d (storePut d l k vs) k vs.length = vs := by
  apply List.ext_getElem (length_storeRange ..)
  intro i _ hi
  rw [getElem_storeRange, storeGet_put vs k (k + i) hl, if_pos (Nat.le_add_right k i), Nat.add_sub_cancel_left,
    List.getElem?_eq_getElem hi, Option.getD_some]

theorem storeGet_storePut_outside (hl : storeWf d l = true) {k j : Nat} {vs : List β}
    (h : j < k ∨ k + vs.length ≤ j) : storeGet d (storePut d l k vs) j = storeGet d l j := by
  rw [storeGet_put vs k j hl]
  split
  · rw [List.getElem?_eq_none (by omega), Option.getD_none]
  · rfl

end Range

/-- What a store of bytes does to an array, and what it leaves. -/
theorem Chan.store_spec (c : Chan) (a : Nat) (bs : List Byte) (hl : storeWf hbmReset c.hbm = true) :
    (c.store a bs).load a bs.length = bs ∧ storeWf hbmReset (c.store a bs).hbm = true ∧
      ∀ k, k < a ∨ a + bs.length ≤ k → storeGet hbmReset (c.store a bs).hbm k = storeGet hbmReset c.hbm k :=
  ⟨storeRange_storePut hl a bs, storeWf_put bs a hl, fun _ h => storeGet_storePut_outside hl h⟩

/-! ### A whole beat -/

@[simp] theorem memMoved_hbm (c : Chan) (p a n : Nat) : (memMoved c p a n).hbm = c.hbm := rfl
@[simp] theorem memMoved_bad (c : Chan) (p a n : Nat) : (memMoved c p a n).mem.bad = c.mem.bad := rfl

theorem beatOf_of_aligned {a : Nat} (ha : a % 32 = 0) : beatOf a = a := by simp [beatOf, ha]

theorem beatsOf_beat {a : Nat} (ha : a % 32 = 0) : beatsOf a 32 = [a] := by
  have hone : (a + 31) / 32 - a / 32 = 0 := by omega
  simp [beatsOf, hone, beatOf_of_aligned ha]

theorem memReadFails_beat {c : Chan} {a : Nat} (ha : a % 32 = 0)
    (h : c.mem.bad.find? (fun e => e.1 == a) = none) : memReadFails c a 32 = false := by
  simp [memReadFails, memBad, beatsOf_beat ha, h]

section Beat

variable {c : Chan} {a : Nat} {bs : List Byte} (ha : a % 32 = 0) (hlen : bs.length = 32)
include ha hlen

/-- A piece that is a whole beat is stored, whether the beat failed or not, and the beat fails no longer (R414). -/
theorem memWritePiece_beat (port : Nat) : (memWritePiece port c a bs).hbm = (c.store a bs).hbm ∧
    (memWritePiece port c a bs).mem.bad.find? (fun e => e.1 == a) = none := by
  unfold memWritePiece
  simp only [beatOf_of_aligned ha]
  split
  · next hgood =>
    rw [if_pos hlen]
    exact ⟨rfl, hgood⟩
  · rw [if_pos hlen]
    exact ⟨rfl, by simp [Chan.store, List.find?_eq_none]⟩

/-- The write of a whole beat is one piece. -/
theorem memWrite_beat (port : Nat) (hinit : c.mem.initialising = false) :
    memWrite c a port bs = memWritePiece port (memMoved c port a 32) a bs := by
  obtain ⟨b, rest, rfl⟩ := List.exists_cons_of_length_eq_add_one hlen
  have htake : (b :: rest).take 32 = b :: rest := List.take_of_length_le (by omega)
  have hdrop : (b :: rest).drop 32 = [] := List.drop_eq_nil_of_le (by omega)
  simp only [memWrite, hinit, Bool.false_eq_true, if_false, hlen, memWriteLoop, ha, Nat.sub_zero, htake, hdrop]

end Beat

/-- Settles O52: a whole beat is one piece, which is stored as any bytes are and takes the beat off the failing ones. -/
theorem memoryReadsBack : Obligations.MemoryReadsBack := by
  refine ⟨fun c a port bs ha hlen hinit hl => ?_, Chan.store_spec⟩
  obtain ⟨hhbm, hgood⟩ := memWritePiece_beat (c := memMoved c port a 32) ha hlen port
  obtain ⟨hread, hwf, houtside⟩ := Chan.store_spec c a bs hl
  rw [hlen] at hread houtside
  have hstored : (memWrite c a port bs).hbm = (c.store a bs).hbm := by
    rw [memWrite_beat ha hlen port hinit, hhbm]
    rfl
  refine ⟨?_, hstored ▸ hwf, fun k hk => hstored ▸ houtside k hk, ?_⟩
  · rw [Chan.load, hstored]
    exact hread
  · rw [memWrite_beat ha hlen port hinit]
    exact memReadFails_beat ha hgood

end Machine

end Sys2Proof

/-! The causes of SUP_FAULT_STAT that are still present (R477). -/

namespace Sys2Proof.Machine

/-- Read after a write of what is not the default, whatever the list's form. -/
theorem storeGet_set_of_ne_default {β : Type} {d : Nat → β} [DecidableEq β] {k : Nat} {v : β} (hv : v ≠ d k)
    (l : List (Nat × β)) (j : Nat) : storeGet d (storeSet d l k v) j = if j = k then v else storeGet d l j := by
  rw [storeSet, if_neg hv, storeGet_insert]

/-- A bit of SUP_FAULT_STAT. -/
def Fld.isFault (f : Fld) : Prop := f.key = 0x41140 ∧ f.lo < 32 ∧ f.w = 1

theorem hubReset_faultStat : hubReset 0x41140 = 0 := by decide +kernel

section Fault

variable {l : RegFile} {f g : Fld}

theorem toNat_storeGet_set_faultBit (hf : f.isFault) : (storeGet hubReset (rfSet hubReset l f 1) 0x41140).toNat =
    setBitsOf (storeGet hubReset l 0x41140).toNat f.lo 1 1 := by
  obtain ⟨hkey, hlo, hw⟩ := hf
  have hlt : setBitsOf (storeGet hubReset l 0x41140).toNat f.lo 1 1 < 2 ^ 32 :=
    setBitsOf_lt (storeGet hubReset l 0x41140).isLt (by omega)
  have hnat : (BitVec.ofNat 32 (setBitsOf (storeGet hubReset l 0x41140).toNat f.lo 1 1)).toNat = _ :=
    (BitVec.toNat_ofNat ..).trans (Nat.mod_eq_of_lt hlt)
  have hset : BitVec.ofNat 32 (setBitsOf (storeGet hubReset l 0x41140).toNat f.lo 1 1) ≠ hubReset 0x41140 := by
    intro h
    have hbit : (setBitsOf (storeGet hubReset l 0x41140).toNat f.lo 1 1).testBit f.lo = true := by
      simp [testBit_setBitsOf]
    rw [← hnat, h, hubReset_faultStat] at hbit
    simp at hbit
  rw [rfSet, if_pos (by omega), hkey, hw, storeGet_set_of_ne_default hset, if_pos rfl, hnat]

/-- Setting a bit of SUP_FAULT_STAT sets it, and clears none. -/
theorem rfGet_set_faultBit (hf : f.isFault) (hg : g.isFault) (h : f = g ∨ rfGet hubReset l g = 1) :
    rfGet hubReset (rfSet hubReset l f 1) g = 1 := by
  have hstored := toNat_storeGet_set_faultBit (l := l) hf
  obtain ⟨hkeyf, hlof, hwf⟩ := hf
  obtain ⟨hkeyg, hlog, hwg⟩ := hg
  rw [rfGet, if_pos (by omega), hkeyg, hwg, hstored]
  by_cases hlo : f.lo = g.lo
  · simp [hlo, bitsOf_setBitsOf_same]
  · have hg1 := h.resolve_left fun hfg => hlo (congrArg Fld.lo hfg)
    rw [rfGet, if_pos (by omega), hkeyg, hwg] at hg1
    rw [bitsOf_setBitsOf_beside (by omega), hg1]

end Fault

namespace State

/-- The bit of a cause that is present is set. -/
def faultIf (b : Bool) (f : Fld) (s : State) : State := if b then s.fault f else s

variable {s : State} {b : Bool} {f g : Fld}

theorem uget_faultIf_same (hf : f.isFault) (hb : b = true) : (s.faultIf b f).uget f = 1 := by
  rw [faultIf, if_pos hb]
  exact rfGet_set_faultBit hf hf (.inl rfl)

theorem uget_faultIf_keeps (hf : f.isFault) (hg : g.isFault) (h : s.uget g = 1) : (s.faultIf b f).uget g = 1 := by
  unfold faultIf
  split
  · exact rfGet_set_faultBit hf hg (.inr h)
  · exact h

theorem faultsAgain_eq (s : State) : s.faultsAgain =
    (((((s.faultIf s.ump.dark Reg.SUP_FAULT_STAT_POWER).faultIf
      ((List.range 5).any (fun n => (s.pw n).isolated)) Reg.SUP_FAULT_STAT_ISOLATED).faultIf
      (s.ump.dies.any (·.shut)) Reg.SUP_FAULT_STAT_THERM).faultIf
      ((List.range 5).any (fun n => s.running n && (s.chan n).flag Reg.MEM_STAT_STORM)) Reg.SUP_FAULT_STAT_MEMORY).faultIf
      (s.ump.rails.any (·.noresp)) Reg.SUP_FAULT_STAT_AVS).faultIf
      (s.ump.dies.any (·.suspect)) Reg.SUP_FAULT_STAT_SENSOR := rfl

end State

/-- Settles O60: the step for each cause sets its bit, and the steps after it clear none. -/
theorem faultsReturn : Obligations.FaultsReturn := by
  intro s
  have hpower : Reg.SUP_FAULT_STAT_POWER.isFault := ⟨rfl, by decide, rfl⟩
  have hisolated : Reg.SUP_FAULT_STAT_ISOLATED.isFault := ⟨rfl, by decide, rfl⟩
  have htherm : Reg.SUP_FAULT_STAT_THERM.isFault := ⟨rfl, by decide, rfl⟩
  have hmemory : Reg.SUP_FAULT_STAT_MEMORY.isFault := ⟨rfl, by decide, rfl⟩
  have havs : Reg.SUP_FAULT_STAT_AVS.isFault := ⟨rfl, by decide, rfl⟩
  have hsensor : Reg.SUP_FAULT_STAT_SENSOR.isFault := ⟨rfl, by decide, rfl⟩
  simp only [State.faultsAgain_eq]
  refine ⟨fun h => ?_, fun ⟨n, hn, h⟩ => ?_, fun h => ?_, fun ⟨n, hn, hrun, h⟩ => ?_, fun h => ?_, fun h => ?_⟩
  · exact State.uget_faultIf_keeps hsensor hpower <| State.uget_faultIf_keeps havs hpower <|
      State.uget_faultIf_keeps hmemory hpower <| State.uget_faultIf_keeps htherm hpower <|
      State.uget_faultIf_keeps hisolated hpower <| State.uget_faultIf_same hpower h
  · have hany : (List.range 5).any (fun n => (s.pw n).isolated) = true := List.any_eq_true.2 ⟨n, List.mem_range.2 hn, h⟩
    exact State.uget_faultIf_keeps hsensor hisolated <| State.uget_faultIf_keeps havs hisolated <|
      State.uget_faultIf_keeps hmemory hisolated <| State.uget_faultIf_keeps htherm hisolated <|
      State.uget_faultIf_same hisolated hany
  · exact State.uget_faultIf_keeps hsensor htherm <| State.uget_faultIf_keeps havs htherm <|
      State.uget_faultIf_keeps hmemory htherm <| State.uget_faultIf_same htherm h
  · have hany : (List.range 5).any (fun n => s.running n && (s.chan n).flag Reg.MEM_STAT_STORM) = true :=
      List.any_eq_true.2 ⟨n, List.mem_range.2 hn, by simp [hrun, h]⟩
    exact State.uget_faultIf_keeps hsensor hmemory <| State.uget_faultIf_keeps havs hmemory <|
      State.uget_faultIf_same hmemory hany
  · exact State.uget_faultIf_keeps hsensor havs <| State.uget_faultIf_same havs h
  · exact State.uget_faultIf_same hsensor h

end Sys2Proof.Machine

/-! What the resets leave (R52, R55). -/

namespace Sys2Proof.Machine

/-! ### What a repeated operation leaves alone -/

theorem foldl_frame {α β σ : Type} {π : σ → β} {f : σ → α → σ} (h : ∀ s a, π (f s a) = π s) (l : List α) (s : σ) :
    π (l.foldl f s) = π s := by
  induction l generalizing s with
  | nil => rfl
  | cons a l ih => rw [List.foldl_cons, ih, h]

theorem forN_frame {σ β : Type} {π : σ → β} {f : Nat → σ → σ} (h : ∀ i s, π (f i s) = π s) (k : Nat) (s : σ) :
    π (forN k f s) = π s := foldl_frame (fun s i => h i s) _ s

theorem forN_succ {σ : Type} (k : Nat) (f : Nat → σ → σ) (s : σ) : forN (k + 1) f s = f k (forN k f s) := by
  simp [forN, List.range_succ]

/-- What step `n` brings about for `n`, and keeps for those before it, holds of all in the end. -/
theorem forN_reaches {σ : Type} {P : Nat → σ → Prop} {f : Nat → σ → σ}
    (h : ∀ n s m, (m < n → P m s) → m < n + 1 → P m (f n s)) (k : Nat) (s : σ) : ∀ m < k, P m (forN k f s) := by
  induction k with
  | zero => exact fun m hm => absurd hm (Nat.not_lt_zero m)
  | succ k ih =>
    intro m hm
    rw [forN_succ]
    exact h k _ m (ih m) hm

/-! ### The records of the umpire -/

/-- What the umpire keeps beside registers, rails, dies and the watch of running units. -/
structure Records where
  log : Log
  cards : List Cards
  image : Option (List Byte)
  straps : Straps
  pwrGood : Bool
  mgt : Mgt
  xcount : Nat

def State.records (s : State) : Records :=
  ⟨s.ump.log, s.ump.cards, s.ump.image, s.ump.straps, s.ump.pwrGood, s.ump.mgt, s.centre.xcount⟩

namespace State

variable (s : State)

@[simp] theorem records_put (o : Output) : (s.put o).records = s.records := rfl
@[simp] theorem records_modRail (r : Nat) (f : Rail → Rail) : (s.modRail r f).records = s.records := rfl
@[simp] theorem records_modQuench (n : Nat) (f : Quench → Quench) : (s.modQuench n f).records = s.records := rfl
@[simp] theorem records_modPower (n : Nat) (f : UnitPower → UnitPower) : (s.modPower n f).records = s.records := rfl
@[simp] theorem records_lower (n : Nat) (park : Bool) : (s.lower n park).records = s.records := rfl
@[simp] theorem records_modHub (f : Hub → Hub) : (s.modHub f).records = s.records := rfl
@[simp] theorem records_modSubst (f : Subst → Subst) : (s.modSubst f).records = s.records := rfl
@[simp] theorem records_clearQueue (q : Nat) : (s.clearQueue q).records = s.records := rfl
@[simp] theorem records_uset (f : Fld) (v : Nat) : (s.uset f v).records = s.records := rfl
@[simp] theorem records_imgLost : s.imgLost.records = s.records := rfl

@[simp] theorem power_modRail (r : Nat) (f : Rail → Rail) : (s.modRail r f).power = s.power := rfl
@[simp] theorem power_modQuench (n : Nat) (f : Quench → Quench) : (s.modQuench n f).power = s.power := rfl
@[simp] theorem power_uset (f : Fld) (v : Nat) : (s.uset f v).power = s.power := rfl
@[simp] theorem power_imgLost : s.imgLost.power = s.power := rfl

/-! ### A rail's move -/

theorem avsPut_frame {β : Type} {π : State → β} (hput : ∀ (s : State) o, π (s.put o) = π s) (r : Nat) (c : AvsCmd) :
    π (s.avsPut r c) = π s := by
  unfold avsPut
  split
  · exact hput ..
  · rfl

section Rail

variable {β : Type} {π : State → β} (hrail : ∀ (s : State) r f, π (s.modRail r f) = π s)
  (hput : ∀ (s : State) o, π (s.put o) = π s)
include hrail hput

theorem railStep_frame (r : Nat) : π (s.railStep r) = π s := by
  unfold railStep avsBegin
  lift_lets
  intro x up mv
  split
  · exact hrail ..
  · split
    · exact hrail ..
    · rw [avsPut_frame _ hput, hrail, hrail]

/-- A rail's move is of the rail and the pins. -/
theorem railMove_frame (r : Nat) (k : Int) : π (s.railMove r k) = π s := by
  unfold railMove
  dsimp only
  split
  · rw [railStep_frame _ hrail hput, hrail]
  · exact hrail ..

end Rail

@[simp] theorem records_railHome (n : Nat) : (s.railHome n).records = s.records :=
  railMove_frame s records_modRail records_put _ _

@[simp] theorem power_railHome (n : Nat) : (s.railHome n).power = s.power :=
  railMove_frame s power_modRail (fun s o => put_power o s) _ _

/-! ### Gating a unit -/

@[simp] theorem records_offAir (n : Nat) : (s.offAir n).records = s.records := by
  unfold offAir
  split <;> rfl

@[simp] theorem power_offAir (n : Nat) : (s.offAir n).power = s.power := by
  unfold offAir
  split <;> rfl

@[simp] theorem records_unitReset (n keep : Nat) : (s.unitReset n keep).records = s.records := by
  have hcut := foldl_frame (π := records) (fun t o => records_put t o) (pathsCut (s.chan n)) s
  unfold unitReset
  dsimp only
  generalize List.foldl _ s _ = t at hcut ⊢
  exact hcut

theorem power_unitReset (n keep : Nat) :
    (s.unitReset n keep).power = (s.modPower n (fun u => { u with image := none })).power := by
  have hcut := foldl_frame (π := power) (fun t o => put_power o t) (pathsCut (s.chan n)) s
  unfold unitReset
  dsimp only
  generalize List.foldl _ s _ = t at hcut ⊢
  simp only [modUmp_power, modPower, clearQueue_power, modChan_power, hcut]

/-- A unit that is gated: COLD, with nothing kept and no image. -/
def gatedPower (cause : Nat) (u : UnitPower) : UnitPower :=
  { u with state := .cold, move := .none, forced := false, image := none, cause := cause, keep := 0, map := []
           restored := false }

@[simp] theorem records_gate (n cause : Nat) : (s.gate n cause).records = s.records := by
  unfold gate
  dsimp only
  split <;> simp

theorem power_gate (n cause : Nat) : (s.gate n cause).power =
    { s.power with units := s.power.units.modify n (gatedPower cause) } := by
  unfold gate
  dsimp only
  rw [power_railHome]
  split <;> simp [lower, modPower, power_unitReset, List.modify_modify_eq, Function.comp_def] <;> rfl

/-! ### A device reset -/

/-- What a device reset makes of unit `n`. -/
def coldUnit (n : Nat) (s : State) : State :=
  ((s.offAir n).gate n 0).modPower n (fun u => { u with held := none, training := false, retried := false })

theorem unitsCold_eq : s.unitsCold = forN 5 coldUnit s := rfl

@[simp] theorem records_coldUnit (n : Nat) : (coldUnit n s).records = s.records := by simp [coldUnit]

@[simp] theorem records_unitsCold : s.unitsCold.records = s.records := by
  rw [unitsCold_eq]
  exact forN_frame (fun n t => records_coldUnit t n) 5 s

theorem units_coldUnit (n : Nat) : (coldUnit n s).power.units = s.power.units.modify n (fun u =>
    { gatedPower 0 u with held := none, training := false, retried := false }) := by
  simp only [coldUnit, modPower, power_gate, power_offAir, List.modify_modify_eq]
  rfl

/-- The unit is COLD, with no move and no request held. -/
def Off (s : State) (n : Nat) : Prop := (s.pw n).state = .cold ∧ (s.pw n).move = .none ∧ (s.pw n).held = none

theorem pw_of_units {s t : State} {n : Nat} {f : UnitPower → UnitPower} (h : t.power.units = s.power.units.modify n f)
    (m : Nat) : t.pw m = if n = m ∧ m < s.power.units.length then f (s.pw m) else s.pw m := by
  simp only [pw, h, List.getD_eq_getElem?_getD, List.getElem?_modify]
  by_cases hnm : n = m
  · subst hnm
    by_cases hlen : n < s.power.units.length <;> simp [hlen]
  · simp [hnm]

theorem off_coldUnit {n m : Nat} (h : m < n → s.Off m) (hm : m < n + 1) : (coldUnit n s).Off m := by
  have hpw := pw_of_units (s.units_coldUnit n) m
  by_cases hnm : n = m
  · subst hnm
    by_cases hlen : n < s.power.units.length
    · rw [if_pos ⟨rfl, hlen⟩] at hpw
      rw [Off, hpw]
      exact ⟨rfl, rfl, rfl⟩
    · rw [if_neg (by simp [hlen])] at hpw
      have hdefault : s.pw n = {} := by
        rw [pw, List.getD_eq_getElem?_getD, List.getElem?_eq_none (Nat.not_lt.mp hlen), Option.getD_none]
      rw [Off, hpw, hdefault]
      exact ⟨rfl, rfl, rfl⟩
  · rw [if_neg (by simp [hnm])] at hpw
    rw [Off, hpw]
    exact h (by omega)

theorem off_unitsCold {n : Nat} (hn : n < 5) : s.unitsCold.Off n := by
  exact forN_reaches (P := fun n s => s.Off n) (fun n s m => s.off_coldUnit (n := n) (m := m)) 5 s n hn

/-- The units' training and isolation, which no reset but that of the umpire changes. -/
def marks (s : State) (n : Nat) : Bool × Bool := ((s.pw n).trained, (s.pw n).isolated)

theorem marks_unitsCold : s.unitsCold.marks = s.marks := by
  rw [unitsCold_eq]
  refine forN_frame (fun n t => ?_) 5 s
  funext m
  rw [marks, pw_of_units (t.units_coldUnit n) m]
  split <;> rfl

/-- The state whose units a device reset takes to COLD: STRAP_LINK is sampled, the rails' commands are dropped. -/
def sampled (link : Nat) (s : State) : State :=
  (s.modUmp (fun u => { u with
    straps := { u.straps with link := link % 4 }
    rails := u.rails.map (fun r => { r with noresp := false, cmd := none, tries := 0 }) })).imgLost

/-- The rest of a device reset: hub, hub queue, energy registers and substitution afresh. -/
def hubAfresh (s : State) : State :=
  let on := s.ump.pwrGood && s.ump.vddHub && !s.ump.straps.test && !(s.die 5).shut
  ((((s.modHub (fun h => ({ powered := on, perst := h.perst } : Hub))).clearQueue 5).uset Reg.SUP_DEV_ENERGY_UJ 0).uset
    Reg.SUP_DEV_EPP_EPP 0xFFFF).modSubst (fun x =>
      { x with state := 0, bench := 4, benchEn := false, sel := 7, step := 0, card := none, config := none })

theorem deviceReset_eq (link : Nat) : s.deviceReset link = (s.sampled link).unitsCold.hubAfresh := by
  unfold deviceReset hubAfresh sampled
  rfl

theorem records_hubAfresh : s.hubAfresh.records = s.records := by
  simp only [hubAfresh, records_modSubst, records_uset, records_clearQueue, records_modHub]
theorem pw_hubAfresh (n : Nat) : s.hubAfresh.pw n = s.pw n := by
  simp only [pw, hubAfresh, modSubst_powers, power_uset, clearQueue_power, modHub_power]
theorem queue_hubAfresh : s.hubAfresh.queues.getD 5 {} = ({} : EventQueue) := by
  have hset : s.hubAfresh.queues = s.queues.set 5 {} := rfl
  rw [hset, List.getD_eq_getElem?_getD, List.getElem?_set]
  split
  · split <;> rfl
  · next h => exact absurd rfl h

theorem records_deviceReset (link : Nat) : (s.deviceReset link).records =
    { s.records with straps := { s.ump.straps with link := link % 4 } } := by
  rw [deviceReset_eq, records_hubAfresh, records_unitsCold]
  rfl

theorem pw_deviceReset (link n : Nat) : (s.deviceReset link).pw n = (s.sampled link).unitsCold.pw n := by
  rw [deviceReset_eq, pw_hubAfresh]

theorem off_deviceReset (link : Nat) {n : Nat} (hn : n < 5) : (s.deviceReset link).Off n := by
  rw [Off, pw_deviceReset]
  exact off_unitsCold _ hn

theorem marks_deviceReset (link : Nat) : (s.deviceReset link).marks = s.marks := by
  funext n
  have hcold : (s.deviceReset link).marks n = (s.sampled link).unitsCold.marks n := by rw [marks, pw_deviceReset, marks]
  rw [hcold, marks_unitsCold]
  rfl

/-! ### A rise of VDD_AUX -/

/-- The umpire as a rise of VDD_AUX starts it, its records lost, before the device reset. -/
def risen (straps : Straps) (s : State) : State :=
  { s with
    centre := { s.centre with
      ump := { straps := straps, banks := s.ump.banks, bank := { regs := [(0x40104, 1#32)] }
               mgt := { smbus := straps.smb, static := 0x58 + straps.addr } }
      xcount := 0 }
    power := { s.power with subst := {} } }

/-- Unit `n` as the AUX reset of a rise leaves it to the device reset. -/
def unmarked (n : Nat) (s : State) : State := s.modPower n (fun p => { p with isolated := false, trained := false })

theorem auxReset_none (straps : Straps) :
    s.auxReset straps none = (forN 5 unmarked (s.risen straps)).deviceReset straps.link := rfl

theorem records_unmarked : (forN 5 unmarked s).records = s.records := forN_frame (fun n t => records_modPower t n _) 5 s

theorem marks_unmarked {n : Nat} (hn : n < 5) : (forN 5 unmarked s).marks n = (false, false) := by
  refine forN_reaches (P := fun n s => s.marks n = (false, false)) (fun n s m h hm => ?_) 5 s n hn
  have hpw := pw_of_units (s := s) (t := unmarked n s) (f := fun u => { u with isolated := false, trained := false }) rfl m
  simp only [marks, hpw]
  split
  · rfl
  · next hne =>
    by_cases hnm : n = m
    · have hlen : s.power.units.length ≤ m := by
        have := fun hlen => hne ⟨hnm, hlen⟩
        omega
      simp [pw, List.getElem?_eq_none hlen]
    · exact h (by omega)

end State

theorem State.records_auxRise (straps : Straps) (s : State) : (s.auxReset straps none).records =
    { log := {}, cards := List.replicate 5 {}, image := none, straps := { straps with link := straps.link % 4 }
      pwrGood := false, mgt := { smbus := straps.smb, static := 0x58 + straps.addr }, xcount := 0 } := by
  have hstraps : (forN 5 unmarked (s.risen straps)).ump.straps = straps :=
    congrArg Records.straps (s.risen straps).records_unmarked
  rw [auxReset_none, records_deviceReset, records_unmarked, hstraps]
  rfl

theorem State.marks_auxRise (straps : Straps) (s : State) {n : Nat} (hn : n < 5) :
    (s.auxReset straps none).marks n = (false, false) := by
  rw [auxReset_none, marks_deviceReset, marks_unmarked _ hn]

/-- Settles O13: the AUX reset makes the umpire's records afresh and the marks of the units false, which the device reset then
keeps; that takes each unit to COLD, and the hub, its queue and the bench to their reset values. -/
theorem resetsLeave : Obligations.ResetsLeave := by
  refine ⟨fun straps s => ?_, fun link s => ?_⟩
  · have hrec := s.records_auxRise straps
    have hmarks (n : Nat) (hn : n < 5) := s.marks_auxRise straps hn
    generalize s.auxReset straps none = t at hrec hmarks
    injection hrec with hlog hcards himage hstraps hgood hmgt hxcount
    exact ⟨hlog, hcards, himage, hxcount, hstraps, hgood, hmgt, fun n hn => Prod.ext_iff.mp (hmarks n hn)⟩
  · have hoff (n : Nat) (hn : n < 5) := s.off_deviceReset link hn
    have hrec := s.records_deviceReset link
    rw [State.deviceReset_eq] at hoff hrec ⊢
    generalize (s.sampled link).unitsCold = t at hoff hrec
    exact ⟨hoff, t.queue_hubAfresh, congrArg (fun r : Records => r.straps.link) hrec, rfl, rfl, rfl, rfl, rfl, rfl⟩

end Sys2Proof.Machine

/-! What the events of the timing unit, the PTP port and the serial lanes leave alone (13_timing_unit.md, 14_serial_lanes.md). -/

namespace Sys2Proof.Machine

/-- What of a unit is beyond its lanes and its timing. -/
structure Pictures where
  num : Nat
  hbm : List (Nat × Byte)
  mem : MemCtl
  sink : Sink
  aud : List AudSide
  sched : Sched
  sources : List Source
  layers : List Layer
  comps : List Compose
  rens : List Rendition
  regions : List Region
  progs : List Prog
  paths : List PathSt
  rx : RxStream
  dec : Decoder

def Chan.pictures (c : Chan) : Pictures :=
  ⟨c.num, c.hbm, c.mem, c.sink, c.aud, c.sched, c.sources, c.layers, c.comps, c.rens, c.regions, c.progs, c.paths, c.rx, c.dec⟩

theorem Chan.samePictures_of_eq {c d : Chan} (h : d.pictures = c.pictures) : Chan.samePictures c d := by
  simpa [Chan.pictures, Chan.samePictures] using h

/-- What of a unit is beyond its timing. -/
def Chan.pictured (c : Chan) : Pictures × Lanes := (c.pictures, c.lanes)

section Frames

variable (c : Chan)

@[simp] theorem pictured_set (f : Fld) (v : Nat) : (c.set f v).pictured = c.pictured := rfl
@[simp] theorem pictured_seti (f : Fld) (v : Int) : (c.seti f v).pictured = c.pictured := rfl
@[simp] theorem pictured_bump (f : Fld) (n : Nat) : (c.bump f n).pictured = c.pictured := rfl
@[simp] theorem pictured_emit (x : Signal) : (c.emit x).pictured = c.pictured := rfl
@[simp] theorem pictured_post (t : Nat) (b : Block) (x y : Nat) : (c.post t b x y).pictured = c.pictured := rfl
@[simp] theorem pictured_modTim (f : Timing → Timing) : (c.modTim f).pictured = c.pictured := rfl
@[simp] theorem pictured_modPtp (f : Ptp → Ptp) : (c.modPtp f).pictured = c.pictured := rfl

@[simp] theorem pictured_err (b : Block) (code off path : Nat) : (c.err b code off path).pictured = c.pictured := by
  unfold Chan.err
  dsimp only
  split
  · rw [pictured_set, pictured_set, pictured_set, pictured_bump]
  · exact pictured_bump ..

@[simp] theorem pictured_input (b : Block) : (c.input b).pictured = c.pictured := pictured_err ..

/-! ### References (R340 to R353) -/

@[simp] theorem pictured_timState (st : Nat) : (timState c st).pictured = c.pictured := by
  simp [timState, apply_ite Chan.pictured]

@[simp] theorem pictured_timStep (d : Int) : (timStep c d).pictured = c.pictured := rfl

@[simp] theorem pictured_timAlign : (timAlign c).pictured = c.pictured := by
  simp [timAlign, apply_ite Chan.pictured]

@[simp] theorem pictured_timSelect (r : Nat) : (timSelect c r).pictured = c.pictured := by
  simp [timSelect, apply_ite Chan.pictured]

@[simp] theorem pictured_timHoldover : (timHoldover c).pictured = c.pictured := by simp [timHoldover]

@[simp] theorem pictured_timLeave : (timLeave c).pictured = c.pictured := by
  unfold timLeave
  dsimp only
  split
  · simp
  · split <;> simp

@[simp] theorem pictured_timSeek : (timSeek c).pictured = c.pictured := by
  unfold timSeek
  split
  · split <;> simp
  · rfl

@[simp] theorem pictured_timContests (l : List Contest) : (timContests c l).pictured = c.pictured := by
  rw [timContests, pictured_set, forN_frame (π := Chan.pictured) (fun r d => pictured_set d _ _), pictured_modTim]

@[simp] theorem pictured_timEndContest (r : Nat) : (timEndContest c r).pictured = c.pictured := pictured_timContests ..

@[simp] theorem pictured_timDisqualify (r : Nat) : (timDisqualify c r).pictured = c.pictured := by simp [timDisqualify]

@[simp] theorem pictured_timFoff (r : Nat) (f : Int) : (timFoff c r f).pictured = c.pictured := by
  simp [timFoff, apply_ite Chan.pictured]

@[simp] theorem pictured_timReject (r : Nat) : (timReject c r).pictured = c.pictured := by simp [timReject]

@[simp] theorem pictured_timQualified (r : Nat) (f : Int) : (timQualified c r f).pictured = c.pictured := by
  simp [timQualified, apply_ite Chan.pictured]

@[simp] theorem pictured_timAbsent (r : Nat) : (timAbsent c r).pictured = c.pictured := by
  simp [timAbsent, apply_ite Chan.pictured]

@[simp] theorem pictured_timDrift (r : Nat) (f : Int) : (timDrift c r f).pictured = c.pictured := by
  unfold timDrift
  dsimp only
  repeat' split
  all_goals simp

@[simp] theorem pictured_timHardSelected (f : Int) : (timHardSelected c f).pictured = c.pictured := by
  simp [timHardSelected, apply_ite Chan.pictured]

@[simp] theorem pictured_timHardOther (r : Nat) (f : Int) : (timHardOther c r f).pictured = c.pictured := by
  simp [timHardOther, apply_ite Chan.pictured]

@[simp] theorem pictured_timContest (a b : Nat) (fa fb : Int) : (timContest c a b fa fb).pictured = c.pictured := by
  simp [timContest, apply_ite Chan.pictured]

@[simp] theorem pictured_timContestEnd (a b : Nat) (fa fb fw : Int) :
    (timContestEnd c a b fa fb fw).pictured = c.pictured := by
  unfold timContestEnd
  dsimp only
  split
  · rfl
  · simp [apply_ite Chan.pictured]

@[simp] theorem pictured_timPairAgree (a b : Nat) (fa fb : Int) : (timPairAgree c a b fa fb).pictured = c.pictured := by
  simp [timPairAgree, apply_ite Chan.pictured]

@[simp] theorem pictured_timRevert (r : Nat) : (timRevert c r).pictured = c.pictured := by
  simp [timRevert, apply_ite Chan.pictured]

@[simp] theorem pictured_timPps (width : Nat) (tenMeg : Option Int) : (timPps c width tenMeg).pictured = c.pictured := by
  unfold timPps
  lift_lets
  intro c1 now far c2
  split
  · rw [pictured_timReject, pictured_modTim]
  · have hkept : c2.pictured = c.pictured := rfl
    clear_value c2
    split <;> simp only [apply_ite Chan.pictured, pictured_set, pictured_timAbsent, hkept, ite_self]

@[simp] theorem pictured_timLoscFail (hz : Nat) : (timLoscFail c hz).pictured = c.pictured := by
  simp [timLoscFail, apply_ite Chan.pictured]

@[simp] theorem pictured_timLoscReturn (hz : Nat) : (timLoscReturn c hz).pictured = c.pictured := by
  simp [timLoscReturn, apply_ite Chan.pictured]

@[simp] theorem pictured_holdoverExpiry : (opHoldoverExpiry c).pictured = c.pictured := by
  simp [opHoldoverExpiry, apply_ite Chan.pictured]

@[simp] theorem pictured_lockAchieved (e : Nat) : (opLockAchieved e c).pictured = c.pictured := by
  simp [opLockAchieved, apply_ite Chan.pictured]

@[simp] theorem pictured_lockLost (e : Nat) : (opLockLost e c).pictured = c.pictured := by
  simp [opLockLost, apply_ite Chan.pictured]

/-! ### The PTP port (R355 to R358) -/

@[simp] theorem pictured_ptpDrop : (ptpDrop c).pictured = c.pictured := rfl

/-- A message taken leaves what its effect leaves. -/
theorem pictured_ptpTake {f : PtpMsg → Chan → Chan} (h : ∀ m d, (f m d).pictured = d.pictured) (frame : List Byte) (typ : Nat) :
    (ptpTake c frame typ f).pictured = c.pictured := by
  unfold ptpTake
  split
  · rfl
  · split
    · simp [apply_ite Chan.pictured, h]
    · simp

@[simp] theorem pictured_ptpPresence : (ptpPresence c).pictured = c.pictured := by
  simp [ptpPresence, apply_ite Chan.pictured]

@[simp] theorem pictured_ptpOffset : (ptpOffset c).pictured = c.pictured := by
  unfold ptpOffset
  split <;> simp

@[simp] theorem pictured_ptpSync (frame : List Byte) : (opPtpSync frame c).pictured = c.pictured :=
  pictured_ptpTake c (fun m d => by simp [apply_ite Chan.pictured]) _ _

@[simp] theorem pictured_ptpFollowUp (frame : List Byte) : (opPtpFollowUp frame c).pictured = c.pictured :=
  pictured_ptpTake c (fun m d => by split <;> simp [apply_ite Chan.pictured]) _ _

@[simp] theorem pictured_ptpDelayResp (frame : List Byte) : (opPtpDelayResp frame c).pictured = c.pictured :=
  pictured_ptpTake c (fun m d => by split <;> simp [apply_ite Chan.pictured]) _ _

@[simp] theorem pictured_ptpDecide : (ptpDecide c).pictured = c.pictured := by
  unfold ptpDecide
  split <;> simp [apply_ite Chan.pictured]

@[simp] theorem pictured_ptpAnnounce (frame : List Byte) : (opPtpAnnounce frame c).pictured = c.pictured :=
  pictured_ptpTake c (fun m d => by simp [apply_ite Chan.pictured]) _ _

@[simp] theorem pictured_ptpDelayReq (frame : List Byte) : (opPtpDelayReqReceive frame c).pictured = c.pictured :=
  pictured_ptpTake c (fun m d => by simp [apply_ite Chan.pictured]) _ _

@[simp] theorem pictured_ptpSyncTransmit : (opPtpSyncTransmit c).pictured = c.pictured := by
  simp [opPtpSyncTransmit, apply_ite Chan.pictured]

@[simp] theorem pictured_ptpDelayReqTransmit : (opPtpDelayReqTransmit c).pictured = c.pictured := by
  simp [opPtpDelayReqTransmit, apply_ite Chan.pictured]

@[simp] theorem pictured_announceTransmit : (opAnnounceTransmit c).pictured = c.pictured := by
  simp [opAnnounceTransmit, apply_ite Chan.pictured]

@[simp] theorem pictured_announceTimeout : (opAnnounceTimeout c).pictured = c.pictured := by
  unfold opAnnounceTimeout
  simp [apply_ite Chan.pictured]

@[simp] theorem pictured_arpRequest (frame : List Byte) : (opArpRequest frame c).pictured = c.pictured := by
  unfold opArpRequest
  split
  · rfl
  · split <;> simp [apply_ite Chan.pictured]

@[simp] theorem pictured_icmpEcho (frame : List Byte) : (opIcmpEcho frame c).pictured = c.pictured := by
  unfold opIcmpEcho
  split
  · rfl
  · split <;> simp

@[simp] theorem pictured_discardedFrame (frame : List Byte) : (opDiscardedFrame frame c).pictured = c.pictured := by
  unfold opDiscardedFrame
  split
  · rfl
  · split <;> simp [apply_ite Chan.pictured]

/-! ### The serial lanes -/

@[simp] theorem pictures_set (f : Fld) (v : Nat) : (c.set f v).pictures = c.pictures := rfl
@[simp] theorem pictures_bump (f : Fld) (n : Nat) : (c.bump f n).pictures = c.pictures := rfl
@[simp] theorem pictures_inc (f : Fld) (n : Nat) : (c.inc f n).pictures = c.pictures := rfl
theorem pictures_bank (b : RegBank) : ({ c with bank := b } : Chan).pictures = c.pictures := rfl
@[simp] theorem pictures_setEntry (k e i v : Nat) : (c.setEntry k e i v).pictures = c.pictures := pictures_bank ..
@[simp] theorem pictures_emit (x : Signal) : (c.emit x).pictures = c.pictures := rfl
@[simp] theorem pictures_post (t : Nat) (b : Block) (x y : Nat) : (c.post t b x y).pictures = c.pictures := rfl
@[simp] theorem pictures_modTim (f : Timing → Timing) : (c.modTim f).pictures = c.pictures := rfl
@[simp] theorem pictures_modPtp (f : Ptp → Ptp) : (c.modPtp f).pictures = c.pictures := rfl
@[simp] theorem pictures_modLane (k : Nat) (f : Lane → Lane) : (c.modLane k f).pictures = c.pictures := rfl

@[simp] theorem pictures_setGroup (g : Nat) (up : Bool) : (setGroup c g up).pictures = c.pictures := by
  simp [setGroup, apply_ite Chan.pictures]

@[simp] theorem pictures_setStep (k v : Nat) : (setStep c k v).pictures = c.pictures := by
  simp [setStep, apply_ite Chan.pictures]

@[simp] theorem pictures_setInv (k v : Nat) : (setInv c k v).pictures = c.pictures := by
  simp [setInv, apply_ite Chan.pictures]

@[simp] theorem pictures_lrefBack : (lrefBack c).pictures = c.pictures := by
  simp [lrefBack, apply_ite Chan.pictures]

@[simp] theorem pictures_ptpListen : (ptpListen c).pictures = c.pictures := by simp [ptpListen]

@[simp] theorem pictures_ptpLink (up : Bool) : (ptpLink up c).pictures = c.pictures := by
  simp [ptpLink, apply_ite Chan.pictures]

@[simp] theorem pictures_tLinkDown : (tLinkDown c).pictures = c.pictures := by
  simp [tLinkDown, apply_ite Chan.pictures]

@[simp] theorem pictures_tLinkUp : (tLinkUp c).pictures = c.pictures := by
  rw [tLinkUp, pictures_ptpLink, pictures_post, pictures_set, pictures_set]

@[simp] theorem pictures_laneBack (k v : Nat) : (laneBack c k v).pictures = c.pictures := by
  simp [laneBack, apply_ite Chan.pictures]

@[simp] theorem pictures_laneTimeout (k back : Nat) : (laneTimeout c k back).pictures = c.pictures := by
  unfold laneTimeout
  dsimp only
  split
  · exact pictures_laneBack ..
  · rw [pictures_set, pictures_bump, pictures_laneBack]

@[simp] theorem pictures_lanesLost (k back : Nat) : (laneLost c k back).pictures = c.pictures := by
  have hothers (d : Chan) (j : Nat) :
      (if j ≠ k ∧ (laneStep d j = 6 ∨ laneStep d j = 7) then setStep d j 5 else d).pictures = d.pictures := by
    simp [apply_ite Chan.pictures]
  simp [laneLost, foldl_frame (π := Chan.pictures) hothers]

@[simp] theorem pictures_setPaths : (setPaths c).pictures = c.pictures := by simp [setPaths]

@[simp] theorem pictures_sIdle (k : Nat) : (sIdle c k).pictures = c.pictures := by
  unfold sIdle
  split
  · rfl
  · simp only [pictures_setPaths, pictures_emit]
    rfl

@[simp] theorem pictures_laneSignal (k : Nat) : (opLaneSignal k c).pictures = c.pictures := by
  simp [opLaneSignal, apply_ite Chan.pictures]

@[simp] theorem pictures_cdrLock (k : Nat) : (opCdrLock k c).pictures = c.pictures := by
  simp [opCdrLock, apply_ite Chan.pictures]

@[simp] theorem pictures_commaAlign (k : Nat) : (opCommaAlign k c).pictures = c.pictures := by
  simp [opCommaAlign, apply_ite Chan.pictures]

@[simp] theorem pictures_polarityPass (k : Nat) : (opPolarityPass k c).pictures = c.pictures := by
  simp [opPolarityPass, apply_ite Chan.pictures]

@[simp] theorem pictures_polarityInvert (k : Nat) : (opPolarityInvert k c).pictures = c.pictures := by
  simp [opPolarityInvert, apply_ite Chan.pictures]

@[simp] theorem pictures_laneOrder (g : Nat) (rev : Bool) : (opLaneOrder g rev c).pictures = c.pictures := by
  simp [opLaneOrder, apply_ite Chan.pictures, foldl_frame (π := Chan.pictures)]

@[simp] theorem pictures_laneUp (g : Nat) (skews : List Nat) : (opLaneUp g skews c).pictures = c.pictures := by
  simp [opLaneUp, apply_ite Chan.pictures, foldl_frame (π := Chan.pictures)]

@[simp] theorem pictures_bringupTimeout (k : Nat) : (opBringupTimeout k c).pictures = c.pictures := by
  unfold opBringupTimeout
  split
  · split <;> simp [apply_ite Chan.pictures, foldl_frame (π := Chan.pictures)]
  · rfl

@[simp] theorem pictures_opLaneLost (k cause viol : Nat) : (opLaneLost k cause viol c).pictures = c.pictures := by
  simp [opLaneLost, apply_ite Chan.pictures]

@[simp] theorem pictures_alignmentMarker (k laneNo count check skew : Nat) :
    (opAlignmentMarker k laneNo count check skew c).pictures = c.pictures := by
  simp [opAlignmentMarker, apply_ite Chan.pictures]

@[simp] theorem pictures_alignLost (g : Nat) : (opAlignLost g c).pictures = c.pictures := by
  have hone (d : Chan) (k : Nat) : (if (d.lane k).lost then
      let d := (d.post 0x0802 .lnk k g).modLane k (fun l => { l with lost := false })
      { d with lanes := { d.lanes with alignLost := satAdd 16 d.lanes.alignLost 1 } }
      else d).pictures = d.pictures := by
    split <;> rfl
  unfold opAlignLost
  split
  · dsimp only
    rw [pictures_bump, pictures_setGroup, foldl_frame (π := Chan.pictures) hone]
  · rfl

@[simp] theorem pictures_autonegComplete (partner : Nat) : (opAutonegComplete partner c).pictures = c.pictures := by
  simp [opAutonegComplete, apply_ite Chan.pictures]

@[simp] theorem pictures_sLaneTxStart (k : Nat) : (opSLaneTxStart k c).pictures = c.pictures := by
  unfold opSLaneTxStart
  dsimp only
  split
  · rw [pictures_setPaths, pictures_post, pictures_emit, pictures_set]
    exact pictures_lrefBack c
  · rfl

@[simp] theorem pictures_lrefLoss : (opLrefLoss c).pictures = c.pictures := by
  simp [opLrefLoss, apply_ite Chan.pictures, forN_frame (π := Chan.pictures)]

@[simp] theorem pictures_eyeScanDone (k : Nat) (errs : List Nat) : (opEyeScanDone k errs c).pictures = c.pictures := by
  unfold opEyeScanDone
  split
  · rw [pictures_set, forN_frame (π := Chan.pictures) (fun i d => pictures_setEntry d _ _ _ _)]
  · rfl

@[simp] theorem pictures_prbsLock (k : Nat) (bits : List Bool) : (opPrbsLock k bits c).pictures = c.pictures := by
  simp [opPrbsLock, apply_ite Chan.pictures]

@[simp] theorem pictures_adaptation (k : Nat) (moves : List Int) : (opAdaptation k moves c).pictures = c.pictures := by
  simp [opAdaptation, apply_ite Chan.pictures]

@[simp] theorem pictures_fomUpdate (k fom : Nat) : (opFomUpdate k fom c).pictures = c.pictures := by
  simp [opFomUpdate, apply_ite Chan.pictures]

end Frames

theorem exec_laneEvent_pictures {c : Instr} {n : Fin 5} (h : c.laneEvent = some n) :
    ∃ f, (∀ s, exec c s = unitOp n f s) ∧ ∀ d, (f d).pictures = d.pictures := by
  unfold Instr.laneEvent at h
  split at h <;> cases h
  all_goals exact ⟨_, fun _ => rfl, fun d => by simp⟩

theorem exec_timingEvent_pictured {c : Instr} {n : Fin 5} (h : c.timingEvent = some n) :
    ∃ f, (∀ s, exec c s = unitOp n f s) ∧ ∀ d, (f d).pictured = d.pictured := by
  unfold Instr.timingEvent at h
  split at h <;> cases h
  all_goals exact ⟨_, fun _ => rfl, fun d => by simp⟩

/-- Settles O9: every such event is an operation on its unit, each of which has its frame above. -/
theorem laneAndTimingFrames : Obligations.LaneAndTimingFrames := by
  refine ⟨fun c n s hc hl => ?_, fun c n s hc hl => ?_⟩
  · obtain ⟨f, hf, hframe⟩ := exec_laneEvent_pictures hc
    exact unitOp_with (hf s) hl (Chan.samePictures_of_eq (hframe _))
  · obtain ⟨f, hf, hframe⟩ := exec_timingEvent_pictured hc
    obtain ⟨hpictures, hlanes⟩ := Prod.ext_iff.mp (hframe (s.chan n))
    exact unitOp_with (hf s) hl ⟨Chan.samePictures_of_eq hpictures, hlanes⟩

end Sys2Proof.Machine

/-! Register writes in the window of a unit (R104): what they leave of the rest of the device. -/

namespace Sys2Proof.Machine

/-! ### What is found in a unit's window -/

theorem findReg_mem {ds : List RegDef} {p o r w : Nat} {d : RegDef} (h : findReg ds p o = some (d, r, w)) : d ∈ ds := by
  induction ds with
  | nil => cases h
  | cons e ds ih =>
    unfold findReg at h
    split at h
    · cases h
      exact List.mem_cons_self
    · exact List.mem_cons_of_mem _ (ih h)

theorem findTable_mem {ts : List TableDef} {p o : Nat} {t : TableDef} {i : Option Nat}
    (h : findTable ts p o = some (t, i)) : t ∈ ts := by
  induction ts with
  | nil => cases h
  | cons e ts ih =>
    unfold findTable at h
    split at h
    · split at h
      · cases h
        exact List.mem_cons_self
      · split at h
        · cases h
          exact List.mem_cons_self
        · exact List.mem_cons_of_mem _ (ih h)
    · exact List.mem_cons_of_mem _ (ih h)

/-- A hit that a unit's window can give: in a block of the unit, or HST's answer where none is; no register of it takes part in
substitutions, and no table of it is a ring's. -/
def Hit.inUnit : Hit → Prop
  | .hole b | .common b _ => b.isUnit = true ∨ b = .hst
  | .reg b _ _ _ d => b.isUnit = true ∧ d.act ≠ .substCtl
  | .idx b _ t => b.isUnit = true ∧ t.cross ≠ .ring
  | .data b _ _ t => b.isUnit = true ∧ t.cross ≠ .ring

theorem unitBlock_regs {b : Block} (h : b ∈ unitBlocks) {d : RegDef} (hd : d ∈ regsOf b) : d.act ≠ .substCtl := by
  have hall : ∀ b ∈ unitBlocks, (regsOf b).all (fun d => d.act != .substCtl) = true := by decide +kernel
  simpa using List.all_eq_true.mp (hall b h) d hd

theorem unitBlock_tables {b : Block} (h : b ∈ unitBlocks) {t : TableDef} (ht : t ∈ tablesOf b) : t.cross ≠ .ring := by
  have hall : ∀ b ∈ unitBlocks, (tablesOf b).all (fun t => t.cross != .ring) = true := by decide +kernel
  simpa using List.all_eq_true.mp (hall b h) t ht

theorem unitBlock_isUnit {b : Block} (h : b ∈ unitBlocks) : b.isUnit = true := by
  have hall : ∀ b ∈ unitBlocks, b.isUnit = true := by decide
  exact hall b h

theorem hitIn_inUnit {b : Block} (h : b ∈ unitBlocks) (pages : Nat → Bool) (off : Nat) :
    (hitIn b pages (regsOf b) (tablesOf b) off).inUnit := by
  have hb := unitBlock_isUnit h
  unfold hitIn
  dsimp only
  split
  · exact .inl hb
  · split
    · exact .inl hb
    · split
      · next hreg => exact ⟨hb, unitBlock_regs h (findReg_mem hreg)⟩
      · split
        · next htable => exact ⟨hb, unitBlock_tables h (findTable_mem htable)⟩
        · next htable => exact ⟨hb, unitBlock_tables h (findTable_mem htable)⟩
        · exact .inl hb

theorem unitHit_inUnit (off : Nat) : (unitHit off).inUnit := by
  unfold unitHit
  split
  · next b h => exact hitIn_inUnit (List.mem_of_find?_eq_some h) _ _
  · exact .inr rfl

theorem blockFor_unit (n off : Nat) : (blockFor (.unit n) off).isUnit = true ∨ blockFor (.unit n) off = .hst := by
  unfold blockFor
  dsimp only
  cases h : blockAt unitBlocks off with
  | some b => exact .inl (unitBlock_isUnit (List.mem_of_find?_eq_some h))
  | none => exact .inr rfl

/-! ### The rest of the device -/

/-- What of the device is beyond unit `n`, its event queue, and the hub's registers, queue and outputs. -/
structure Outside where
  power : PowerSt
  ump : Umpire
  rings : List Ring
  units : Nat → Option Chan
  queues : Nat → Option EventQueue

def State.outside (s : State) (n : Nat) : Outside where
  power := s.power
  ump := s.ump
  rings := s.hub.rings
  units m := if m = n then none else some (s.chan m)
  queues q := if q = n ∨ q = 5 then none else s.queues[q]?

namespace State

section Frames

variable (s : State) (n : Nat)

@[simp] theorem outside_modHub {f : Hub → Hub} (h : (f s.hub).rings = s.hub.rings) :
    (s.modHub f).outside n = s.outside n := by
  have hrings : (s.modHub f).hub.rings = s.hub.rings := h
  simp only [outside, hrings]
  rfl

theorem outside_modChan (f : Chan → Chan) : (s.modChan n f).outside n = s.outside n := by
  have hunits (m : Nat) : (if m = n then none else some ((s.modChan n f).chan m)) =
      if m = n then none else some (s.chan m) := by
    split
    · rfl
    · next h => rw [modChan_other n m f s (Ne.symm h)]
  simp only [outside, hunits]
  rfl

@[simp] theorem outside_modRun (f : Chan → Chan) : (s.modRun n f).outside n = s.outside n := by
  unfold modRun
  split
  · exact outside_modChan ..
  · rfl

@[simp] theorem outside_hset (f : Fld) (v : Nat) : (s.hset f v).outside n = s.outside n := outside_modHub _ _ rfl
@[simp] theorem outside_hbump (f : Fld) (k : Nat) : (s.hbump f k).outside n = s.outside n := outside_modHub _ _ rfl
@[simp] theorem outside_bset_hst (f : Fld) (v : Nat) : (s.bset .hst f v).outside n = s.outside n := outside_modHub _ _ rfl

@[simp] theorem outside_hubErr_hst (code off path : Nat) : (s.hubErr .hst code off path).outside n = s.outside n := by
  unfold hubErr
  dsimp only
  split
  · simp only [outside_bset_hst]
  · exact outside_bset_hst ..

theorem outside_enqueue {q : Nat} (hq : q = n ∨ q = 5) (r : EventRec) {drop : State → State}
    (hdrop : ∀ t : State, (drop t).outside n = t.outside n) : (s.enqueue q r drop).outside n = s.outside n := by
  have hset (e : EventQueue) : ({ s with queues := s.queues.set q e } : State).outside n = s.outside n := by
    have hqueues (i : Nat) : (if i = n ∨ i = 5 then none else (s.queues.set q e)[i]?) =
        if i = n ∨ i = 5 then none else s.queues[i]? := by
      split
      · rfl
      · next h => rw [List.getElem?_set_ne (by rintro rfl; exact h hq)]
    simp only [outside, hqueues]
    rfl
  unfold enqueue
  dsimp only
  split
  · exact hset _
  · rw [hdrop, hset]

/-- An event of no fault class reaches no more than the hub's queue. -/
theorem outside_hubEvent {typ : Nat} (h : ∀ a0 a1, faultClass typ a0 a1 0 0 = 0) (b : Block) (a0 a1 : Nat) (all : Bool) :
    (s.hubEvent typ b a0 a1 all).outside n = s.outside n := by
  have hnone (src due x y : Nat) : s.faultEvent typ src due x y 0 0 = s := by simp [faultEvent, h]
  unfold hubEvent
  rw [hnone]
  dsimp only
  split
  · rfl
  · split
    · unfold hubRecord
      dsimp only
      rw [outside_enqueue _ _ (.inr rfl) _ (fun t => outside_hbump t n _ _), outside_hset]
    · exact outside_hbump ..

theorem outside_unitEvent {typ : Nat} (h : ∀ a0 a1 role extra, faultClass typ a0 a1 role extra = 0) (block a0 a1 : Nat)
    (all : Bool) : (s.unitEvent n typ block a0 a1 all).outside n = s.outside n := by
  have hnone (src due x y role extra : Nat) : s.faultEvent typ src due x y role extra = s := by simp [faultEvent, h]
  unfold unitEvent
  dsimp only
  rw [hnone]
  split
  · rw [outside_enqueue _ _ (.inl rfl) _ (fun t => outside_modChan t n _), outside_modChan]
  · exact outside_modChan ..

theorem faultClass_codeEvent {code typ : Nat} (h : codeEvent code = some typ) (a0 a1 : Nat) :
    faultClass typ a0 a1 0 0 = 0 := by
  have htyp : typ < 0x10 := by
    simp only [codeEvent] at h
    split_ifs at h <;> cases h <;> omega
  simp only [faultClass]
  repeat rw [if_neg (by omega)]

theorem outside_discardHub_hst (code off path arg : Nat) : (s.discardHub .hst code off path arg).outside n = s.outside n := by
  unfold discardHub
  dsimp only
  split
  · next t ht => rw [post, outside_hubEvent _ _ (fun a0 a1 => faultClass_codeEvent ht a0 a1), outside_hubErr_hst]
  · exact outside_hubErr_hst ..

theorem outside_discardAt {b : Block} (hb : b.isUnit = true ∨ b = .hst) (code off : Nat) (p : Path) (arg : Nat) :
    (s.discardAt (.unit n) b code off p arg).outside n = s.outside n := by
  obtain hb | rfl := hb
  · simp only [discardAt, hb, outside_modRun]
  · exact outside_discardHub_hst ..

@[simp] theorem outside_modBankAt (b : Block) (f : RegBank → RegBank) :
    (s.modBankAt (.unit n) b f).outside n = s.outside n := outside_modRun ..

@[simp] theorem outside_putAt (b : Block) (k v : Nat) : (s.putAt (.unit n) b k v).outside n = s.outside n :=
  outside_modBankAt ..

@[simp] theorem outside_putReg (b : Block) (d : RegDef) (k v : Nat) :
    (s.putReg (.unit n) b d k v).outside n = s.outside n := by
  unfold putReg
  dsimp only
  split <;> simp only [outside_putAt]

theorem outside_unavailable (off : Nat) (p : Path) (write : Bool) :
    (s.unavailable n off p write).outside n = s.outside n := by
  have herr : (if write then s.hubErr .hst codeUNAVAILABLE off (pathCode p) else s.hbump (errCount .hst) 1).outside n =
      s.outside n := by
    split <;> simp
  have hpost (t : State) (k : Nat) : (t.post 0x0006 .hst off k).outside n = t.outside n :=
    outside_hubEvent _ _ (fun a0 a1 => by simp [faultClass]) ..
  have hcount (t : State) (x : Option Nat × Nat) :
      (t.modHub (fun h => { h with unavail := h.unavail.set n x })).outside n = t.outside n := outside_modHub _ _ rfl
  unfold unavailable
  dsimp only
  generalize (if write then s.hubErr .hst codeUNAVAILABLE off (pathCode p) else s.hbump (errCount .hst) 1) = t at herr ⊢
  split <;> split <;> simp only [hpost, hcount, herr]

/-! ### A write within the window -/

@[simp] theorem outside_loadTable (p : Path) (b : Block) (t : TableDef) (k e : Nat) (ainc : Bool) :
    (s.loadTable (.unit n) p b t k e ainc).outside n = s.outside n := by
  simp [loadTable, snapCard]

@[simp] theorem outside_tableReady (p : Path) (b : Block) (t : TableDef) (k : Nat) :
    (s.tableReady (.unit n) p b t k).outside n = s.outside n := by
  unfold tableReady
  split <;> simp

@[simp] theorem outside_tableNext (p : Path) (b : Block) (t : TableDef) (k : Nat) :
    (s.tableNext (.unit n) p b t k).outside n = s.outside n := by
  unfold tableNext
  dsimp only
  split <;> simp

theorem outside_storeEntry {b : Block} (hb : b.isUnit = true) (p : Path) (page : Nat) {t : TableDef}
    (ht : t.cross ≠ .ring) (off v : Nat) : (s.storeEntry (.unit n) p b page t off v).outside n = s.outside n := by
  have hring : (t.cross == .ring) = false := by simpa using ht
  unfold storeEntry
  simp only [hring, Bool.false_eq_true, if_false]
  split
  all_goals
    split
    · exact outside_discardAt _ _ (.inl hb) ..
    · rw [outside_tableNext, forN_frame (π := fun s => s.outside n) (fun j s => outside_putAt s n _ _ _)]

theorem outside_act (d : RegDef) (page rep off v : Nat) : (s.act (.unit n) d page rep off v).outside n = s.outside n := by
  unfold act
  dsimp only
  split
  case h_1 => exact outside_unitEvent _ _ (fun _ _ _ _ => by simp [faultClass]) ..
  case h_2 => split <;> simp only [outside_modRun]
  all_goals simp only [outside_modRun]

theorem outside_storeReg {b : Block} (hb : b.isUnit = true) (p : Path) {d : RegDef} (hd : d.act ≠ .substCtl)
    (page rep k off full v : Nat) : (s.storeReg (.unit n) p b d page rep k off full v).outside n = s.outside n := by
  have hdiscard (t : State) (code : Nat) (arg : Nat) :=
    outside_discardAt t n (.inl hb) code ((Site.unit n).pf off) p arg
  unfold storeReg substRefused
  dsimp only
  rw [if_neg hd]
  split
  · split
    · exact hdiscard ..
    · split
      · rw [hdiscard]
        split <;> simp
      · split
        · exact hdiscard ..
        · exact outside_putReg ..
  · repeat' split
    all_goals simp only [hdiscard, outside_act, outside_putReg]

theorem outside_commonWrite {b : Block} (hb : b.isUnit = true ∨ b = .hst) (p : Path) (o off v : Nat) :
    (commonWrite (.unit n) p b o off v s).outside n = s.outside n := by
  have hdiscard (t : State) (code : Nat) (arg : Nat) := outside_discardAt t n hb code ((Site.unit n).pf off) p arg
  unfold commonWrite
  split
  · exact hdiscard ..
  · dsimp only
    repeat' split
    all_goals simp only [hdiscard, outside_putAt, outside_modRun]

theorem outside_regWriteAt (p : Path) (off v : Nat) : (s.regWriteAt (.unit n) p off v).outside n = s.outside n := by
  have hhit : ((Site.unit n).hit off).inUnit := unitHit_inUnit off
  unfold regWriteAt
  split <;> rename_i h <;> rw [h] at hhit
  · exact outside_discardAt _ _ hhit ..
  · exact outside_commonWrite _ _ hhit ..
  · dsimp only
    split
    · exact outside_discardAt _ _ (.inl hhit.1) ..
    · exact outside_loadTable ..
  · dsimp only
    split
    · exact outside_discardAt _ _ (.inl hhit.1) ..
    · split
      · rw [outside_storeEntry _ _ hhit.1 _ _ hhit.2, outside_modBankAt, outside_tableReady]
      · rw [outside_modBankAt, outside_tableReady]
  · dsimp only
    split
    · split
      · rw [outside_discardAt _ _ (.inl hhit.1), outside_modBankAt]
      · split
        · exact outside_modBankAt ..
        · rw [outside_storeReg _ _ hhit.1 _ hhit.2, outside_modBankAt]
    · exact outside_storeReg _ _ hhit.1 _ hhit.2 ..

theorem outside_writeAt (p : Path) (off : Nat) (v : Word) (be : BitVec 4) :
    (s.writeAt p (.unit n off) v be).outside n = s.outside n := by
  unfold writeAt
  dsimp only
  split
  · exact outside_unavailable ..
  · split
    · exact outside_discardAt _ _ (blockFor_unit n off) ..
    · exact outside_regWriteAt ..

end Frames

end State

/-- Settles O10: the window of a virtual function's unit holds its registers alone, and neither they nor the discards and events
of a write there reach further than the unit, its queue and the hub's. -/
theorem vfWritesStayInside : Obligations.VfWritesStayInside := by
  intro n off v be s hon hoff
  have hframe : (State.writeBar (.vf n) 0 off v be s).outside n = s.outside n := by
    have htarget : target (.vf n) (off - off % 4) = .unit n.val (off - off % 4) := if_pos (by omega)
    simp only [State.writeBar, State.writeBar0, htarget, if_true]
    split
    · exact State.outside_writeAt ..
    · rfl
  refine ⟨State.writeBar (.vf n) 0 off v be, run_completes rfl hon rfl, congrArg Outside.power hframe,
    congrArg Outside.ump hframe, congrArg Outside.rings hframe, fun m hm => ?_, fun q hn h5 => ?_⟩
  · simpa [State.outside, hm] using congrFun (congrArg Outside.units hframe) m
  · simpa [State.outside, hn, h5] using congrFun (congrArg Outside.queues hframe) q

end Sys2Proof.Machine

/-! What a transmit side plays out (R386, R387, R391). -/

namespace Sys2Proof.Machine

theorem bitAt_eq_testBit (x i : Nat) : bitAt x i = x.testBit i := by
  rw [Nat.testBit_eq_decide_div_mod_eq]
  rfl

/-- A list of bits made of equal pieces, one to each word. -/
theorem getD_flatMap_of_length {α : Type} {m : Nat} {f : α → List Bool} (hf : ∀ a, (f a).length = m) {i : Nat} (hi : i < m) (l : List α)
    (k : Nat) : (l.flatMap f).getD (m * k + i) false = ((l[k]?).map (fun a => (f a).getD i false)).getD false := by
  induction l generalizing k with
  | nil => simp
  | cons a l ih =>
    cases k with
    | zero => simp [List.getD_eq_getElem?_getD, List.getElem?_append_left (l₁ := f a) (by rw [hf]; exact hi)]
    | succ k =>
      have hpast : (f a).length ≤ m * (k + 1) + i := by
        rw [hf, Nat.mul_succ]
        omega
      have hrest : m * (k + 1) + i - (f a).length = m * k + i := by
        rw [hf, Nat.mul_succ]
        omega
      simpa [List.getD_eq_getElem?_getD, List.getElem?_append_right hpast, hrest] using ih k

section Wave

variable (c : Chan) (j : Nat) (words : List Word)

theorem length_tdmWave : (tdmWave c j words).data.length = 32 * words.length := by
  simp [tdmWave, List.length_flatMap, Nat.mul_comm]

theorem getD_tdmWave {k i : Nat} (hk : k < words.length) (hi : i < 32) :
    (tdmWave c j words).data.getD (32 * k + i) false = bitAt words[k].toNat (31 - i) := by
  simp only [tdmWave]
  rw [getD_flatMap_of_length (by simp) hi]
  simp [hk, List.getD_eq_getElem?_getD, hi]

end Wave

/-- A word that slot `k` may carry under mask `m`: its last 8 bits are zero, and it is zero where the mask leaves the slot out. -/
def slotClear (m k : Nat) (w : Word) : Prop := (∀ i < 8, bitAt w.toNat i = false) ∧ (bitAt m k = false → w = 0#32)

theorem bitAt_zero (i : Nat) : bitAt (0#32).toNat i = false := by simp [bitAt_eq_testBit]

theorem bitAt_audSend (c : Chan) (j i : Nat) (hi : i < 8) : bitAt (audSend c j).2.1.toNat i = false := by
  have hmask : (0xFFFFFF00 : Nat).testBit i = false := by
    interval_cases i <;> rfl
  unfold audSend
  dsimp only
  split
  · exact bitAt_zero i
  · rw [bitAt_eq_testBit, BitVec.toNat_and, Nat.testBit_and]
    simp [hmask]

/-- One slot of a frame that is played out. -/
def playSlot (j m : Nat) (p : Chan × List Word × Nat) (s : Nat) : Chan × List Word × Nat :=
  if bitAt m s then
    let (c, w, ok) := audSend p.1 j
    (c, p.2.1 ++ [w], if ok then p.2.2 + 1 else p.2.2)
  else (p.1, p.2.1 ++ [0#32], p.2.2)

/-- It adds one word, which the slot may carry. -/
theorem playSlot_words (j m : Nat) (p : Chan × List Word × Nat) (s : Nat) :
    ∃ w, (playSlot j m p s).2.1 = p.2.1 ++ [w] ∧ slotClear m s w := by
  unfold playSlot
  split
  · next h => exact ⟨_, rfl, bitAt_audSend p.1 j, fun h0 => by simp [h] at h0⟩
  · exact ⟨_, rfl, fun i _ => bitAt_zero i, fun _ => rfl⟩

theorem playSlots_words (j m : Nat) (c : Chan) (n : Nat) :
    let words := ((List.range n).foldl (playSlot j m) (c, [], 0)).2.1
    words.length = n ∧ ∀ k (h : k < words.length), slotClear m k words[k] := by
  induction n with
  | zero => exact ⟨rfl, fun k h => absurd h (Nat.not_lt_zero k)⟩
  | succ n ih =>
    rw [List.range_succ, List.foldl_concat]
    obtain ⟨hlen, hclear⟩ := ih
    obtain ⟨w, hw, hwclear⟩ := playSlot_words j m ((List.range n).foldl (playSlot j m) (c, [], 0)) n
    simp only [hw]
    refine ⟨by simp [hlen], fun k h => ?_⟩
    rw [List.getElem_append]
    split
    · exact hclear k _
    · next hk =>
      have hkn : k = n := by
        rw [List.length_append, hlen, List.length_singleton] at h
        omega
      simpa [hkn] using hwclear

/-- The frame that a transmit side plays out is the last of its outputs. -/
theorem audPlay_outbox (c : Chan) (j : Nat) : ∃ num before, ∃ w : TdmWave, (audPlay c j).outbox = before ++ [.out (.tdm num j w)] ∧
    w.data.length = 512 ∧ ∀ k < 16, ∀ i < 32, (24 ≤ i ∨ bitAt ((audBegin c j 1).get (Reg.AUD_MASK_CUR j 1)) k = false) →
      w.data.getD (32 * k + i) false = false := by
  obtain ⟨hlen, hclear⟩ := playSlots_words j ((audBegin c j 1).get (Reg.AUD_MASK_CUR j 1))
    (audStamp (audBegin c j 1) j 1 (audEdge (audBegin c j 1) j 1)) 16
  refine ⟨_, _, _, rfl, (length_tdmWave ..).trans (congrArg (32 * ·) hlen), fun k hk i hi h => ?_⟩
  have hk' := hlen.symm ▸ hk
  refine (getD_tdmWave _ _ _ hk' hi).trans ?_
  obtain ⟨hlow, hout⟩ := hclear k hk'
  obtain h | h := h
  · exact hlow _ (by omega)
  · rw [hout h]
    exact bitAt_zero _

/-- Settles O50: the frame is the wave of the sixteen words that the slots may carry. -/
theorem tdmTransmit : Obligations.TdmTransmit := by
  intro n j sync beats s hl hj hcut
  refine unitOp_with (f := opTdmFrameTransmit j sync beats) rfl hl ?_
  have hplay : opTdmFrameTransmit j sync beats (s.chan n) = audPlay (memFind (audFilter (s.chan n) j 1 sync).1 beats) j := by
    unfold opTdmFrameTransmit
    rw [if_pos hj]
    exact if_neg hcut
  obtain ⟨num, before, w, houtbox, hlen, hzero⟩ := audPlay_outbox (memFind (audFilter (s.chan n) j 1 sync).1 beats) j
  rw [hplay]
  exact ⟨num, before, w, houtbox, hlen, fun k hk i hi h => hzero k hk i hi (.inl h),
    fun k hk h i hi => hzero k hk i hi (.inr h)⟩

end Sys2Proof.Machine

/-! Supplies, training, the link and the functions (03_power_reset_startup.md, 05_host_port.md). -/

namespace Sys2Proof.Machine

/-! ### What is read of a state when its outputs are forgotten -/

@[simp] theorem State.quiet_pw (s : State) (n : Nat) : s.quiet.pw n = s.pw n := rfl
@[simp] theorem State.quiet_hget (s : State) (f : Fld) : s.quiet.hget f = s.hget f := rfl
@[simp] theorem State.quiet_uget (s : State) (f : Fld) : s.quiet.uget f = s.uget f := rfl
@[simp] theorem State.quiet_die (s : State) (d : Nat) : s.quiet.die d = s.die d := rfl
@[simp] theorem State.quiet_subst (s : State) : s.quiet.subst = s.subst := rfl
@[simp] theorem State.quiet_substBusy (s : State) : s.quiet.substBusy = s.substBusy := rfl
@[simp] theorem State.quiet_linkUp (s : State) : s.quiet.linkUp = s.linkUp := rfl
@[simp] theorem State.quiet_fnExists (s : State) (f : Nat) : s.quiet.fnExists f = s.fnExists f := rfl
@[simp] theorem State.quiet_vfExists (s : State) (n : Nat) : s.quiet.vfExists n = s.vfExists n := rfl

/-- A command of which nothing applies. -/
theorem run_idle {c : Instr} {s : State} {f : State → State} (hc : exec c s = run f s) (hon : s.ump.on = true)
    (h : f s.quiet = s.quiet) : Completes c s id := run_completes hc hon h

/-! ### Supplies -/

/-- Settles O12: each supply's command acts by the level that it finds. -/
theorem supplies : Obligations.Supplies := by
  intro straps kept link s
  refine ⟨fun hoff => ?_, fun hon => ⟨?_, ?_, ?_⟩, fun bank up => ?_, fun hon h => ?_, fun hon h => ?_, fun hon h => ?_,
    fun hon h => ?_, fun hon h => ?_, fun hon h => ?_⟩
  · exact runAlways_completes (f := opVddAuxRise straps) rfl (by simp [opVddAuxRise, hoff])
  · exact runAlways_completes (f := opVddAuxRise straps) rfl (by simp [opVddAuxRise, hon])
  · exact run_completes (f := State.auxReset straps (some kept)) rfl hon rfl
  · exact run_completes (f := opVddAuxLoss) rfl hon rfl
  · exact runAlways_completes (f := opBankSupplyChange bank up) rfl rfl
  · exact run_completes (f := opPowerFail true link) rfl hon (by simp [opPowerFail, h])
  · exact run_completes (f := opPowerFail false link) rfl hon (by simp [opPowerFail, h])
  · exact run_idle (f := opPowerFail true link) rfl hon (by simp [opPowerFail, h])
  · exact run_idle (f := opPowerFail false link) rfl hon (by simp [opPowerFail, h])
  · exact run_completes (f := opPwrGoodRise link) rfl hon (by simp [opPwrGoodRise, h])
  · exact run_idle (f := opPwrGoodRise link) rfl hon (by simp [opPwrGoodRise, h])

/-! ### Training -/

@[simp] theorem State.power_logSuppressed (s : State) (source typ : Nat) : (s.logSuppressed source typ).power = s.power := by
  unfold State.logSuppressed
  split
  · split <;> rfl
  · rfl

@[simp] theorem State.power_logAdd (s : State) (typ source cls due a0 a1 : Nat) :
    (s.logAdd typ source cls due a0 a1).power = s.power := by
  unfold State.logAdd
  dsimp only
  split
  · split <;> rfl
  · exact s.power_logSuppressed source typ

section TrainDone

variable {s : State} {n k : Nat}

/-- A full training that has failed twice: its record, and its entry in the log. -/
def State.trainFailed (n k : Nat) (s : State) : State :=
  (s.modPower n (fun u => { u with trained := false, training := false, retried := false })).logOnly 0x0E04 5 n k

theorem State.subst_trainFailed : (s.trainFailed n k).subst = s.subst :=
  (congrArg PowerSt.subst (State.power_logAdd ..)).trans rfl

theorem State.trainDone_failed (ht : (s.pw n).training = true) (hk : k ≠ 0) (hr : (s.pw n).retried = true) :
    s.trainDone n k =
      let t := s.trainFailed n k
      let t := if (s.pw n).held.isSome then
          let t := (t.modPower n (fun u => { u with held := none })).hubErr .sup codeTIMEOUT (0x40110 + 4 * n) 7
          (t.post 0x0007 .sup t.freeNat 250000).draw
        else t
      if s.substBusy && s.subst.step == 5 && n == s.subst.dst then t.substFail 4 else t := by
  have hbusy : (s.trainFailed n k).substBusy = s.substBusy := by
    simp only [State.substBusy, State.subst_trainFailed]
  rw [← hbusy, ← State.subst_trainFailed (s := s) (n := n) (k := k)]
  simp only [State.trainDone, ht, hk, hr, Bool.not_true, Bool.false_eq_true, if_false]
  rfl

end TrainDone

/-- Settles O14: by whether the hub has power and is ready, and by how far the stack's training has come. -/
theorem training : Obligations.Training := by
  intro n s hon
  refine ⟨fun bad hpow hready => ?_, fun bad h => ?_, fun k ht => ?_, fun ht => ?_, fun k ht hk hr => ?_,
    fun k ht hk hr => ⟨fun hheld hbusy => ?_, fun hheld hbusy => ?_, fun hheld hbusy hstep hdst => ?_⟩⟩
  · exact run_completes (f := opTrainingStart bad) rfl hon (by simp [opTrainingStart, hpow, hready])
  · refine run_idle (f := opTrainingStart bad) rfl hon ?_
    obtain h | h := h <;> simp [opTrainingStart, h]
  · exact run_idle (f := State.trainDone n k) rfl hon (by simp [State.trainDone, ht])
  · exact run_completes (f := State.trainDone n 0) rfl hon (by simp [State.trainDone, ht])
  · exact run_completes (f := State.trainDone n k) rfl hon (by simp [State.trainDone, ht, hk, hr])
  · refine run_completes (f := State.trainDone n k) rfl hon ?_
    rw [State.trainDone_failed (s := s.quiet) ht hk hr]
    simp [hheld, hbusy, State.trainFailed]
  · refine run_completes (f := State.trainDone n k) rfl hon ?_
    rw [State.trainDone_failed (s := s.quiet) ht hk hr]
    simp [hheld, hbusy, State.trainFailed]
  · refine run_completes (f := State.trainDone n k) rfl hon ?_
    rw [State.trainDone_failed (s := s.quiet) ht hk hr]
    simp [hheld, hbusy, hstep, hdst, State.trainFailed]

/-! ### The link -/

theorem State.linkGone_of_detect {s : State} (h : s.hget Reg.HST_LINK_STAT_LTSSM = 0) : s.linkGone = s.linkReset := by
  simp [State.linkGone, h]

theorem State.linkGone_of_ne_detect {s : State} (h : s.hget Reg.HST_LINK_STAT_LTSSM ≠ 0) :
    s.linkGone = s.linkReset.post 0x0D01 .hst 0 0 := by
  simp [State.linkGone, h]

theorem opLinkReset_perst {s : State} (h : s.hub.ready = true) (h5 : s.hget Reg.HST_LINK_STAT_LTSSM ≠ 5)
    (h7 : s.hget Reg.HST_LINK_STAT_LTSSM ≠ 7) :
    opLinkReset s = (s.modHub (fun h => { h with perst := false })).linkGone := by
  simp [opLinkReset, h, h5, h7]

theorem opLinkReset_hot {s : State} (h : s.hub.ready = true)
    (hst : s.hget Reg.HST_LINK_STAT_LTSSM = 5 ∨ s.hget Reg.HST_LINK_STAT_LTSSM = 7) : opLinkReset s = s.linkGone := by
  simp [opLinkReset, h, hst]

/-- Settles O15: by the level of PERST#, the state of the LTSSM, and what the change is checked against. -/
theorem linkEvents : Obligations.LinkEvents := by
  intro s hon
  have hperst : (s.quiet.modHub (fun h => { h with perst := false })).hget Reg.HST_LINK_STAT_LTSSM =
      s.hget Reg.HST_LINK_STAT_LTSSM := rfl
  refine ⟨?_, fun h => ?_, fun h hst => ?_, fun h hst => ?_, fun h hst => ?_, fun h => ?_, fun h hst => ?_, fun h hst => ?_,
    fun state rate width flit hready hperst hstate hrate hflit hwidth hnew => ?_, fun state rate width flit h => ?_⟩
  · exact run_completes (f := State.modHub (fun h => { h with perst := true })) rfl hon rfl
  · exact run_completes (f := opLinkReset) rfl hon (by simp [opLinkReset, h])
  · refine run_completes (f := opLinkReset) rfl hon ?_
    rw [opLinkReset_perst (s := s.quiet) h (by simp [hst]) (by simp [hst]),
      State.linkGone_of_detect (hperst.trans hst)]
  · have hne (k : Nat) (hk : k ∉ [1, 2, 3, 4, 6]) : s.hget Reg.HST_LINK_STAT_LTSSM ≠ k := fun he => hk (he ▸ hst)
    refine run_completes (f := opLinkReset) rfl hon ?_
    rw [opLinkReset_perst (s := s.quiet) h (hne 5 (by decide)) (hne 7 (by decide)),
      State.linkGone_of_ne_detect (hperst.trans_ne (hne 0 (by decide)))]
  · refine run_completes (f := opLinkReset) rfl hon ?_
    rw [opLinkReset_hot (s := s.quiet) h hst, State.linkGone_of_ne_detect (s := s.quiet) (show s.hget Reg.HST_LINK_STAT_LTSSM ≠ 0 by omega)]
  · exact run_idle (f := fun s => if s.hub.link then s.linkGone else s) rfl hon (by simp [h])
  · refine run_completes (f := fun s => if s.hub.link then s.linkGone else s) rfl hon ?_
    rw [← State.linkGone_of_ne_detect (s := s.quiet) hst]
    exact if_pos h
  · refine run_completes (f := fun s => if s.hub.link then s.linkGone else s) rfl hon ?_
    rw [← State.linkGone_of_detect (s := s.quiet) hst]
    exact if_pos h
  · refine run_completes (f := opLtssm state rate width flit) rfl hon ?_
    have hrateOk : rateOk s.ump.straps.link rate ((s.flitMode state flit).getD flit) = true := by
      simp only [rateOk, Bool.and_eq_true, decide_eq_true_eq, Bool.or_eq_true]
      exact ⟨hrate, hflit⟩
    have hwidthOk : widthOk state width = true := by
      simp only [widthOk, Bool.or_eq_true, Bool.and_eq_true, decide_eq_true_eq, List.contains_iff_mem, beq_iff_eq]
      exact hwidth.imp id And.symm
    have hflitMode : s.quiet.flitMode state flit = s.flitMode state flit := rfl
    simp [opLtssm, hflitMode, hready, hperst, hstate, hrateOk, hwidthOk, hnew]
  · refine run_idle (f := opLtssm state rate width flit) rfl hon ?_
    have hrateOk (hrate : 6 < rate + s.ump.straps.link) (b : Bool) : rateOk s.ump.straps.link rate b = false := by
      simp [rateOk, hrate]
    obtain h | h | h | h := h
    · simp [opLtssm, h]
    · simp [opLtssm, h]
    · simp [opLtssm, hrateOk h]
    · simp [opLtssm, h]

end Sys2Proof.Machine

/-! Configuration requests, images and power requests (03_power_reset_startup.md, R66 to R74, R101 to R104). -/

namespace Sys2Proof.Machine

/-! ### Functions -/

/-- With the link down no configuration request arrives. -/
theorem opConfig_of_linkDown {s : State} (h : s.linkUp = false) (r : ConfigReq) : opConfig r s = s := by
  simp [opConfig, h]

theorem opD3hot_of_unreached {s : State} {f : Nat} (h : s.linkUp = false ∨ s.fnExists f = false) : opD3hot f s = s := by
  obtain h | h := h <;> simp [opD3hot, h]

/-- Settles O16: what a request names is there, or it is not, and with the link down nothing is. -/
theorem functions : Obligations.Functions := by
  intro f s hon
  have hd0 {g : State → State} (h : (if s.quiet.linkUp && s.quiet.fnExists f then
      (s.quiet.modFn f (fun k => { k with d3 := false })).sendPending f else s.quiet) = g s.quiet) :
      Completes (.d0Return f) s g :=
    run_completes (f := fun s => if s.linkUp && s.fnExists f then
      (s.modFn f (fun k => { k with d3 := false })).sendPending f else s) rfl hon h
  refine ⟨fun hup hf => ⟨fun on => ?_, fun on mask => ?_, fun o => ?_, fun x => ?_, ?_, fun mask => ?_,
    fun mps mrrs ro ns hmps hmrrs => ?_, fun hpf => ?_, ?_⟩, fun hup => ?_, fun hf => ⟨?_, ?_, fun on => ?_⟩,
    fun hdown => ⟨fun r => ?_, ?_, ?_, fun n => ?_⟩, fun o v => ?_, fun on k hup hk hnew => ?_, fun on hup => ?_,
    fun n hup hvf => ?_, fun n hvf => ?_⟩
  · exact run_completes (f := opConfig (.busMaster f on)) rfl hon (by simp [opConfig, hup, hf])
  · exact run_completes (f := opConfig (.msix f on mask)) rfl hon (by simp [opConfig, hup, hf])
  · exact run_completes (f := opConfig (.read f o)) rfl hon (by simp [opConfig, hup, hf])
  · exact run_completes (f := opConfig (.feature f x)) rfl hon (by simp [opConfig, hup, hf])
  · exact run_completes (f := opConfig (.readAer f)) rfl hon (by simp [opConfig, hup, hf])
  · exact run_completes (f := opConfig (.clearAer f mask)) rfl hon (by simp [opConfig, hup, hf])
  · refine run_completes (f := opConfig (.deviceControl f mps mrrs ro ns)) rfl hon ?_
    have hcontrol : deviceControl mps mrrs ro ns =
        fun k => { k with mps := mps, mrrs := mrrs, relaxed := ro, noSnoop := ns } := by
      funext k
      simp [deviceControl, hmps, hmrrs]
    simp [opConfig, hup, hf, hcontrol]
  · exact run_completes (f := opD3hot f) rfl hon (by simp [opD3hot, hup, hf, hpf])
  · exact hd0 (by simp [hup, hf])
  · have hpf : s.fnExists 0 = true := rfl
    exact run_completes (f := opD3hot 0) rfl hon (by simp [opD3hot, hup, hpf])
  · exact run_idle (f := opD3hot f) rfl hon (opD3hot_of_unreached (s := s.quiet) (.inr hf))
  · exact hd0 (by simp [hf])
  · exact run_idle (f := opConfig (.busMaster f on)) rfl hon (by simp [opConfig, hf])
  · exact run_idle (f := opConfig r) rfl hon (opConfig_of_linkDown (s := s.quiet) hdown r)
  · exact run_idle (f := opD3hot f) rfl hon (opD3hot_of_unreached (s := s.quiet) (.inl hdown))
  · exact hd0 (by simp [hdown])
  · exact run_idle (f := fun s => if s.linkUp && s.vfExists n then s.functionReset n else s) rfl hon (by simp [hdown])
  · exact run_idle (f := opConfig (.write f o v)) rfl hon (by simp [opConfig])
  · refine run_completes (f := opConfig (.sriov on k)) rfl hon ?_
    have hchange : ¬ (5 < k ∨ (on = s.hub.vfEnable ∧ k = s.hub.numVfs)) := by
      rintro (h | ⟨hon', hk'⟩)
      · omega
      · exact hnew.elim (· hon') (· hk')
    simp [opConfig, hup, hchange]
  · exact run_completes (f := opConfig (.vc1 on)) rfl hon (by simp [opConfig, hup])
  · exact run_completes (f := fun s => if s.linkUp && s.vfExists n then s.functionReset n else s) rfl hon
      (by simp [hup, hvf])
  · exact run_idle (f := fun s => if s.linkUp && s.vfExists n then s.functionReset n else s) rfl hon (by simp [hvf])

/-! ### Registers of the hub that store nothing -/

/-- A live one-word register of the hub, all of whose fields are commands. -/
structure IsCommandReg (off : Nat) (b : Block) (page rep : Nat) (d : RegDef) : Prop where
  hit : hubHit off = .reg b page rep 0 d
  words : d.words = 1
  live : d.staged = false
  stores : d.fields.any (fun f => f.acc == .rw || f.acc == .w1c) = false

section CommandReg

variable {s : State} {p : Path} {off page rep : Nat} {v : Word} {b : Block} {d : RegDef}
  (hreg : IsCommandReg off b page rep d) (hopen : s.opens p (.hub off)) (hc : fieldsCode d.fields false v.toNat = 0)
  (hx : crossOk d.cross page rep v.toNat = true)
include hreg hopen hc hx

theorem State.writeTo_command (ho : s.ownerCode .hub d page rep v.toNat = 0) :
    s.writeTo p (.hub off) v = State.act .hub d page rep off v.toNat s := by
  obtain ⟨-, harr, hreach⟩ := hopen
  rw [State.writeTo_hub harr hreach hreg.hit hreg.words hreg.live hc hx ho, hreg.stores]
  rfl

theorem State.writeTo_command_refuse (ho : s.ownerCode .hub d page rep v.toNat ≠ 0) :
    s.writeTo p (.hub off) v = (s.substRefused d v.toNat).discardHub b (s.ownerCode .hub d page rep v.toNat) off
      (pathCode p) v.toNat := by
  obtain ⟨-, harr, hreach⟩ := hopen
  exact State.writeTo_hub_refuse harr hreach hreg.hit hreg.words hreg.live hc hx ho

end CommandReg

theorem State.quiet_opens {s : State} {p : Path} {t : Target} (h : s.opens p t) : s.quiet.opens p t := by
  obtain ⟨hon, harr, hreach⟩ := h
  exact ⟨hon, by simpa using harr, hreach⟩

/-! ### Images -/

/-- SUP_IMG_CTL. -/
def imgCtlReg : RegDef :=
  { name := "SUP_IMG_CTL", page := 0, pages := 1, off := 348, reps := 1, stride := 0, words := 1, staged := false
    cross := .none, act := .imgCtl, fields := [{ name := "GO", hi := 0, lo := 0, acc := .wo, reset := 0 }] }

theorem imgCtl_isCommand : IsCommandReg 0x4015C .sup 0 0 imgCtlReg := ⟨by decide +kernel, rfl, rfl, rfl⟩

section ImgCtl

variable {s : State} {p : Path} (hopen : s.opens p (.hub 0x4015C))
include hopen

theorem State.writeTo_imgCtl_busy (hbusy : s.uget Reg.SUP_IMG_STAT_RESULT = 1) :
    s.writeTo p (.hub 0x4015C) 1 = s.discardHub .sup codeBUSY 0x4015C (pathCode p) 1 := by
  have hcode : s.ownerCode .hub imgCtlReg 0 0 (1 : Word).toNat = codeBUSY := if_pos ⟨rfl, hbusy⟩
  rw [State.writeTo_command_refuse imgCtl_isCommand hopen (by decide) rfl (by rw [hcode]; decide), hcode]
  rfl

theorem State.writeTo_imgCtl_go (hidle : s.uget Reg.SUP_IMG_STAT_RESULT ≠ 1) :
    s.writeTo p (.hub 0x4015C) 1 = s.imgGo := by
  have hcode : s.ownerCode .hub imgCtlReg 0 0 (1 : Word).toNat = 0 := if_neg fun h => hidle h.2
  rw [State.writeTo_command imgCtl_isCommand hopen (by decide) rfl hcode]
  rfl

theorem State.writeTo_imgCtl_zero : s.writeTo p (.hub 0x4015C) 0 = s := by
  have hcode : s.ownerCode .hub imgCtlReg 0 0 (0 : Word).toNat = 0 := by
    simp [State.ownerCode, imgCtlReg, bitAt, bitsOf, codeNONE]
  rw [State.writeTo_command imgCtl_isCommand hopen (by decide) rfl hcode]
  rfl

end ImgCtl

section ImgLast

variable (last : Option ReadReply) (s : State)

/-- The last completion reaches the staging area alone, not the resident image. -/
theorem imgLast_image : (imgLast last s).ump.image = s.ump.image := by
  unfold imgLast State.imgReply
  repeat' split
  all_goals rfl

theorem imgLast_loading_quiet : (imgLast last s.quiet).ump.loading = (imgLast last s).ump.loading := by
  unfold imgLast State.imgReply
  simp only [State.quiet_ump]
  repeat' split
  all_goals rfl

end ImgLast

theorem State.imgFinish_eq {s : State} {l : ImgLoad} {res ver : Nat} {image : Option (List Byte)}
    (himage : image = if res = 2 then some l.got else s.ump.image) (hver : ver = if res = 8 then 0 else imgVersion l.got) :
    s.imgFinish l res = ((s.modUmp (fun u => { u with loading := none, image := image })).uset
      Reg.SUP_IMG_STAT_RESULT res).post 0x0C04 .sup res ver := by
  rw [himage, hver]
  rfl

/-- The end of a load, where the load is over. -/
theorem imgLoadDone_completes {s : State} {last : Option ReadReply} {l : ImgLoad} {res ver : Nat}
    {image : Option (List Byte)} (hon : s.ump.on = true) (hl : (imgLast last s).ump.loading = some l)
    (hover : l.over = true) (hres : l.result = res) (himage : image = if res = 2 then some l.got else s.ump.image)
    (hver : ver = if res = 8 then 0 else imgVersion l.got) : Completes (.imgLoadDone last) s (fun s =>
      (((imgLast last s).modUmp (fun u => { u with loading := none, image := image })).uset
        Reg.SUP_IMG_STAT_RESULT res).post 0x0C04 .sup res ver) := by
  refine run_completes (f := fun s => opImgLoadDone (imgLast last s)) rfl hon ?_
  simp only [opImgLoadDone, imgLast_loading_quiet, hl, hover, if_true, hres]
  exact State.imgFinish_eq (by rw [himage, imgLast_image, State.quiet_ump]) hver

/-- Settles O17: GO is the write of a command register, and the end of a load is `imgFinish` with the first check that fails. -/
theorem imageLoad : Obligations.ImageLoad := by
  intro p s hon
  refine ⟨fun hopen => ⟨fun hbusy => ?_, fun hidle hlen => ?_, fun hidle hlen => ?_, ?_⟩, fun last => ⟨fun hnone => ?_,
    fun l hl => ⟨fun hfail hshort => ?_, fun hfail => ?_, fun hfail hfull => ?_⟩⟩⟩
  · exact run_completes (f := State.writeTo p (.hub 0x4015C) 1) rfl hon
      (State.writeTo_imgCtl_busy (State.quiet_opens hopen) hbusy)
  · refine run_completes (f := State.writeTo p (.hub 0x4015C) 1) rfl hon ?_
    rw [State.writeTo_imgCtl_go (State.quiet_opens hopen) hidle]
    exact if_pos hlen
  · refine run_completes (f := State.writeTo p (.hub 0x4015C) 1) rfl hon ?_
    rw [State.writeTo_imgCtl_go (State.quiet_opens hopen) hidle]
    exact if_neg hlen
  · exact run_idle (f := State.writeTo p (.hub 0x4015C) 0) rfl hon (State.writeTo_imgCtl_zero (State.quiet_opens hopen))
  · exact run_completes (f := fun s => opImgLoadDone (imgLast last s)) rfl hon
      (by simp only [opImgLoadDone, imgLast_loading_quiet, hnone])
  · have hover : l.over = false := by simp [ImgLoad.over, hfail, hshort]
    exact run_completes (f := fun s => opImgLoadDone (imgLast last s)) rfl hon
      (by simp [opImgLoadDone, imgLast_loading_quiet, hl, hover])
  · exact imgLoadDone_completes hon hl (by simp [ImgLoad.over, hfail]) (by simp [ImgLoad.result, hfail]) rfl rfl
  · have hover : l.over = true := by simp [ImgLoad.over, hfull]
    have hresult : l.result = imgCheck l.got l.len := by simp [ImgLoad.result, hfail]
    refine ⟨fun hmagic => ?_, fun hmagic => ⟨fun hlength => ?_, fun hlength => ⟨fun hdigest => ?_, fun hdigest => ?_⟩⟩⟩
    · exact imgLoadDone_completes hon hl hover (hresult.trans (by simp [imgCheck, imgMagicValue, hmagic])) rfl rfl
    · exact imgLoadDone_completes hon hl hover
        (hresult.trans (by simp [imgCheck, imgMagicValue, hmagic, hlength])) rfl rfl
    · exact imgLoadDone_completes hon hl hover
        (hresult.trans (by simp [imgCheck, imgMagicValue, hmagic, hlength, hdigest])) rfl rfl
    · split
      · next hsig =>
        exact imgLoadDone_completes hon hl hover
          (hresult.trans (by simp [imgCheck, imgMagicValue, hmagic, hlength, hdigest, hsig])) rfl rfl
      · next hsig =>
        exact imgLoadDone_completes hon hl hover
          (hresult.trans (by simp [imgCheck, imgMagicValue, hmagic, hlength, hdigest, hsig])) rfl rfl

end Sys2Proof.Machine

/-! Power states: requests, moves, isolation and failures (03_power_reset_startup.md, R62, R69 to R74, R472, R473). -/

namespace Sys2Proof.Machine

/-! ### SUP_UNIT_CTLn -/

def unitCtlReg : RegDef :=
  { name := "SUP_UNIT_CTL", page := 0, pages := 1, off := 272, reps := 5, stride := 4, words := 1, staged := false
    cross := .none, act := .unitCtl
    fields := [{ name := "REQ", hi := 1, lo := 0, acc := .rw, reset := 0 },
      { name := "KEEP", hi := 15, lo := 8, acc := .rw, reset := 255 }] }

theorem hubHit_unitCtl (n : Fin 5) : hubHit (0x40110 + 4 * n.val) = .reg .sup 0 n 0 unitCtlReg := by
  revert n
  decide +kernel

section UnitCtl

variable {s : State} {p : Path} {n : Fin 5} {req : Nat} {keep : Byte} (hreq : req < 4)
include hreq

theorem toNat_unitCtl : (BitVec.ofNat 32 (req + 2 ^ 8 * keep.toNat)).toNat = req + 2 ^ 8 * keep.toNat := by
  have := keep.isLt
  rw [BitVec.toNat_ofNat]
  omega

theorem bitsOf_unitCtl : bitsOf (req + 2 ^ 8 * keep.toNat) 0 2 = req ∧ bitsOf (req + 2 ^ 8 * keep.toNat) 8 8 = keep.toNat := by
  have := keep.isLt
  simp only [bitsOf]
  omega

theorem fieldsCode_unitCtl : fieldsCode unitCtlReg.fields false (req + 2 ^ 8 * keep.toNat) = 0 := by
  have hrest : setBitsOf (setBitsOf (req + 256 * keep.toNat) 0 2 0) 8 8 0 = 0 := by
    have := keep.isLt
    simp only [setBitsOf, bitsOf]
    omega
  simp [fieldsCode, unitCtlReg, FieldDef.width, Chk.ok, hrest, codeNONE]

theorem storeFields_unitCtl (old : Nat) : storeFields unitCtlReg.fields (fun _ => true) old (req + 2 ^ 8 * keep.toNat) =
    setBitsOf (setBitsOf old 0 2 req) 8 8 keep.toNat := by
  obtain ⟨h0, h8⟩ := bitsOf_unitCtl (keep := keep) hreq
  simp only [storeFields, unitCtlReg, FieldDef.width, List.foldl_cons, List.foldl_nil, Bool.not_true, Bool.false_eq_true,
    if_false, h0, h8]

theorem State.ownerCode_unitCtl :
    s.ownerCode .hub unitCtlReg 0 n (req + 2 ^ 8 * keep.toNat) = s.requestCode n req keep.toNat := by
  obtain ⟨h0, h8⟩ := bitsOf_unitCtl (keep := keep) hreq
  simp only [State.ownerCode, unitCtlReg, h0, h8]

variable (hopen : s.opens p (.hub (0x40110 + 4 * n.val)))
include hopen

theorem State.unitCtl_accept (hcode : s.requestCode n req keep.toNat = 0) : unitCtl p n req keep s =
    (s.putWord .sup (0x40110 + 4 * n.val) (BitVec.ofNat 32 (setBitsOf (setBitsOf
      (storeGet hubReset s.ump.bank.regs (0x40110 + 4 * n.val)).toNat 0 2 req) 8 8 keep.toNat))).request n req keep.toNat := by
  obtain ⟨-, harr, hreach⟩ := hopen
  obtain ⟨h0, h8⟩ := bitsOf_unitCtl (keep := keep) hreq
  have hv := toNat_unitCtl (keep := keep) hreq
  rw [unitCtl, State.writeTo_hub harr hreach (hubHit_unitCtl n) rfl rfl (by rw [hv]; exact fieldsCode_unitCtl hreq) rfl
    (by rw [hv, State.ownerCode_unitCtl hreq, hcode]), hv, storeFields_unitCtl hreq]
  simp only [State.act, unitCtlReg, h0, h8]
  rfl

theorem State.unitCtl_refuse (hcode : s.requestCode n req keep.toNat ≠ 0) : unitCtl p n req keep s =
    s.discardHub .sup (s.requestCode n req keep.toNat) (0x40110 + 4 * n.val) (pathCode p) (req + 2 ^ 8 * keep.toNat) := by
  obtain ⟨-, harr, hreach⟩ := hopen
  have hv := toNat_unitCtl (keep := keep) hreq
  rw [unitCtl, State.writeTo_hub_refuse harr hreach (hubHit_unitCtl n) rfl rfl (by rw [hv]; exact fieldsCode_unitCtl hreq)
    rfl (by rw [hv, State.ownerCode_unitCtl hreq]; exact hcode), hv, State.ownerCode_unitCtl hreq]
  rfl

end UnitCtl

theorem State.requestCode_cold (s : State) (n keep : Nat) : s.requestCode n 0 keep = 0 := by
  simp [State.requestCode, codeNONE]

/-- Settles O18: each request is a write of SUP_UNIT_CTLn, whose owner's code is `requestCode`. -/
theorem powerRequests : Obligations.PowerRequests := by
  intro n p keep s hopen
  have hq := State.quiet_opens hopen
  refine ⟨?_, fun h => ?_, fun h => ?_, fun h => ?_, fun h => ?_, fun h => ?_, fun h => ?_⟩
  · exact run_completes (f := unitCtl p n 0 keep) rfl hopen.1
      (State.unitCtl_accept (by decide) hq (State.requestCode_cold _ _ _))
  · exact run_completes (f := unitCtl p n 1 keep) rfl hopen.1 (State.unitCtl_accept (by decide) hq h)
  · exact run_completes (f := unitCtl p n 2 keep) rfl hopen.1 (State.unitCtl_accept (by decide) hq h)
  · exact run_completes (f := unitCtl p n 3 keep) rfl hopen.1 (State.unitCtl_accept (by decide) hq h)
  · exact run_completes (f := unitCtl p n 1 keep) rfl hopen.1 (State.unitCtl_refuse (by decide) hq h)
  · exact run_completes (f := unitCtl p n 2 keep) rfl hopen.1 (State.unitCtl_refuse (by decide) hq h)
  · exact run_completes (f := unitCtl p n 3 keep) rfl hopen.1 (State.unitCtl_refuse (by decide) hq h)

/-! ### Ends of starts -/

/-- The start of unit `n` is one that a substitution waits for (R433). -/
def State.benchStart (s : State) (n : Nat) : Prop := s.substBusy = true ∧ s.subst.step = 5 ∧ s.subst.dst = n

theorem State.benchStart_iff {s : State} {n : Nat} :
    (s.substBusy && s.subst.step == 5 && n == s.subst.dst) = true ↔ s.benchStart n := by
  simp [State.benchStart, and_assoc, eq_comm (a := n)]

section StartDone

variable {s : State} {n : Nat} {r : StartResult} {run : Bool} (hmove : (s.pw n).move = .start run)
include hmove

theorem State.startDone_badMemory (hst : (s.pw n).state ≠ .held) : s.startDone n .badMemory = s.trainingBad n run := by
  simp [State.startDone, hmove, hst]

variable (hgood : r ≠ .badMemory ∨ (s.pw n).state = .held)
include hgood

theorem State.startDone_held (hrun : run = false) : s.startDone n r = s.startHeld n := by
  subst hrun
  have hmem : ¬ (r = .badMemory ∧ (s.pw n).state ≠ .held) := fun h => hgood.elim (· h.1) h.2
  simp [State.startDone, hmove, hmem]

end StartDone

section StartRun

variable {s : State} {n : Nat} {r : StartResult} (hmove : (s.pw n).move = .start true)
  (hgood : r ≠ .badMemory ∨ (s.pw n).state = .held)
include hmove hgood

theorem State.startDone_run : s.startDone n r =
    if s.imageGood r then
      if s.substBusy && s.subst.step == 5 && n == s.subst.dst then (s.enterRun n).seedBench else s.enterRun n
    else
      if s.substBusy && s.subst.step == 5 && n == s.subst.dst then (s.imageBad n).substFail 4 else s.imageBad n := by
  have hmem : ¬ (r = .badMemory ∧ (s.pw n).state ≠ .held) := fun h => hgood.elim (· h.1) h.2
  simp [State.startDone, hmove, hmem]

theorem State.startDone_good (himg : s.imageGood r = true) (hbench : ¬ s.benchStart n) : s.startDone n r = s.enterRun n := by
  rw [State.startDone_run hmove hgood, if_pos himg, if_neg (State.benchStart_iff.not.mpr hbench)]

theorem State.startDone_good_bench (himg : s.imageGood r = true) (hbench : s.benchStart n) :
    s.startDone n r = (s.enterRun n).seedBench := by
  rw [State.startDone_run hmove hgood, if_pos himg, if_pos (State.benchStart_iff.mpr hbench)]

theorem State.startDone_bad (himg : s.imageGood r = false) (hbench : ¬ s.benchStart n) : s.startDone n r = s.imageBad n := by
  rw [State.startDone_run hmove hgood, himg, if_neg Bool.false_ne_true, if_neg (State.benchStart_iff.not.mpr hbench)]

theorem State.startDone_bad_bench (himg : s.imageGood r = false) (hbench : s.benchStart n) :
    s.startDone n r = (s.imageBad n).substFail 4 := by
  rw [State.startDone_run hmove hgood, himg, if_neg Bool.false_ne_true, if_pos (State.benchStart_iff.mpr hbench)]

end StartRun

theorem State.startDone_of_no_start {s : State} {n : Nat} (hmove : (s.pw n).move = .none) (r : StartResult) :
    s.startDone n r = s := by
  simp [State.startDone, hmove]

/-- A unit that enters M7 shows RUN, with the image that is resident (R70, R71). -/
theorem State.pw_enterRun {s : State} {n : Nat} (hlen : n < s.power.units.length) (hfour : s.othersUp n < 4) :
    ((s.enterRun n).pw n).state = .run ∧ ((s.enterRun n).pw n).move = .none ∧
      ((s.enterRun n).pw n).image = s.ump.image := by
  have hraise : s.raise n .run .none =
      { s with power := { s.power with units := s.power.units.modify n (fun u => { u with state := .run, move := .none }) } } :=
    if_neg (by omega)
  simp [State.enterRun, hraise, State.modPower, State.modChan, State.modUmp, State.pw, State.ump, hlen]

/-! ### What waited -/

section Waiting

variable {s : State} {n : Nat}

theorem State.benchCheck_of_idle (hbusy : s.substBusy = false) : s.benchCheck = s := by
  simp [State.benchCheck, hbusy]

theorem State.takeUp_of_none (hheld : (s.pw n).held = none) : s.takeUp n = s := by
  simp [State.takeUp, hheld]

theorem State.takeUp_of_mustWait {req keep : Nat} (hheld : (s.pw n).held = some (req, keep))
    (hwait : s.mustWait n req = true) : s.takeUp n = s := by
  simp [State.takeUp, hheld, hwait]

theorem State.takeUp_of_free {req keep : Nat} (hheld : (s.pw n).held = some (req, keep))
    (hwait : s.mustWait n req = false) : s.takeUp n =
      let t := s.modPower n (fun u => { u with held := none })
      if t.requestCode n (min req 3) keep ≠ 0 then
        t.discardHub .sup (t.requestCode n (min req 3) keep) (0x40110 + 4 * n) 7 (min req 3 + 2 ^ 8 * keep)
      else t.actRequest n req := by
  simp [State.takeUp, hheld, hwait]

theorem State.afterWait_of_idle (hbusy : s.substBusy = false) : s.afterWait n = s.takeUp n := by
  simp [State.afterWait, hbusy, State.benchCheck_of_idle hbusy]

theorem State.afterWait_of_bench (hbench : s.benchStart n) : s.afterWait n = s.startBench.benchCheck.takeUp n := by
  obtain ⟨hbusy, hstep, hdst⟩ := hbench
  simp [State.afterWait, hbusy, hstep, hdst]

theorem State.afterStop_of_idle (hbusy : s.substBusy = false) (hheld : (s.pw n).held = none) : s.afterStop n = s := by
  simp [State.afterStop, hbusy, State.benchCheck_of_idle hbusy, State.takeUp_of_none hheld]

theorem State.held_lower (park : Bool) (m : Nat) : ((s.lower n park).pw m).held = (s.pw m).held := by
  rw [State.pw_of_units (s := s) rfl]
  split <;> rfl

theorem State.opUnitStopComplete_of_stop {park : Bool} (hmove : (s.pw n).move = .stop park) :
    opUnitStopComplete n s = (s.stopDone n).afterStop n := by
  simp [opUnitStopComplete, hmove]

theorem State.stopDone_kept {park : Bool} (hmove : (s.pw n).move = .stop park)
    (hkept : (s.pw n).forced = false ∨ park = false) : s.stopDone n =
      ((if (s.quenchOf n).own then s.modQuench n (fun _ => {}) else s).lower n park).railHome n := by
  have hlost : (park && (s.pw n).forced) = false := by
    obtain h | h := hkept <;> simp [h]
  have hpw : (if (s.quenchOf n).own then s.modQuench n (fun _ => {}) else s).pw n = s.pw n := by split <;> rfl
  simp only [State.stopDone, hmove, hpw, hlost, Bool.not_false, Bool.and_true, Bool.false_eq_true, if_false]

end Waiting

/-- The three commands by which a wait of unit `n` ends. -/
theorem wait_completes {c : Instr} {n : Fin 5} {s : State} {g : State → State} (hon : s.ump.on = true)
    (hc : c = .startAfterTraining n ∨ c = .heldWriteAfterSubst n ∨ c = .startAfterCooling n)
    (hcool : c = .startAfterCooling n → (s.die n).shut = false) (h : s.quiet.afterWait n = g s.quiet) :
    Completes c s g := by
  obtain rfl | rfl | rfl := hc
  · exact run_completes (f := State.afterWait n) rfl hon h
  · exact run_completes (f := State.afterWait n) rfl hon h
  · exact run_completes (f := fun s => if (s.die n).shut then s else s.afterWait n) rfl hon (by simp [hcool rfl, h])

/-- Settles O19: `startDone`, `stopDone` and `takeUp` by the move in progress, the image, and what is held. -/
theorem powerMoves : Obligations.PowerMoves := by
  refine ⟨fun n r s hon => ?_, fun n park s hon => ?_, fun n s hon => ?_⟩
  · have hcompletes {g : State → State} (h : s.quiet.startDone n r = g s.quiet) : Completes (.unitStartComplete n r) s g :=
      run_completes (f := State.startDone n r) rfl hon h
    refine ⟨fun hmove hgood => ?_, fun hmove hgood himg hbench => ?_, fun hmove hgood himg hbench => ?_,
      fun hmove hgood himg hbench => ?_, fun hmove hgood himg hbench => ?_, fun b hmove hst => ?_, fun hmove => ?_,
      fun hlen hfour => State.pw_enterRun hlen hfour⟩
    · exact hcompletes (State.startDone_held (s := s.quiet) hmove hgood rfl)
    · exact hcompletes (State.startDone_good (s := s.quiet) hmove hgood himg hbench)
    · exact hcompletes (State.startDone_good_bench (s := s.quiet) hmove hgood himg hbench)
    · exact hcompletes (State.startDone_bad (s := s.quiet) hmove hgood himg hbench)
    · exact hcompletes (State.startDone_bad_bench (s := s.quiet) hmove hgood himg hbench)
    · exact run_completes (f := State.startDone n .badMemory) rfl hon
        (State.startDone_badMemory (s := s.quiet) hmove hst)
    · exact hcompletes (State.startDone_of_no_start (s := s.quiet) hmove r)
  · refine ⟨fun hmove => ?_, fun hmove hkept hheld hbusy => ?_, fun hmove => ?_⟩
    · exact run_completes (f := opUnitStopComplete n) rfl hon (State.opUnitStopComplete_of_stop (s := s.quiet) hmove)
    · refine run_completes (f := opUnitStopComplete n) rfl hon ?_
      rw [State.opUnitStopComplete_of_stop (s := s.quiet) hmove, State.stopDone_kept (s := s.quiet) hmove hkept]
      generalize hq : (if (s.quiet.quenchOf n).own then s.quiet.modQuench n (fun _ => {}) else s.quiet) = q
      have hpower : q.power = s.power := by
        rw [← hq]
        split <;> rfl
      have hstopped : ((q.lower n park).railHome n).power = (q.lower n park).power := State.power_railHome _ n
      refine State.afterStop_of_idle ?_ ?_
      · simpa [State.substBusy, State.subst, hstopped, State.lower, hpower] using hbusy
      · rw [State.pw, hstopped, ← State.pw, State.held_lower, State.pw, hpower]
        exact hheld
    · exact run_idle (f := opUnitStopComplete n) rfl hon (by simp [opUnitStopComplete, hmove])
  · refine ⟨fun hshut => ?_, fun hbusy c hc hcool => ⟨fun req keep hheld hwait => ⟨fun hcode => ?_, fun hcode => ?_⟩,
      fun req keep hheld hwait => ?_, fun hheld => ?_⟩, fun hbusy hstep hdst c hc hcool => ?_⟩
    · exact run_idle (f := fun s => if (s.die n).shut then s else s.afterWait n) rfl hon (by simp [hshut])
    · refine wait_completes hon hc hcool ?_
      rw [State.afterWait_of_idle (s := s.quiet) hbusy, State.takeUp_of_free (s := s.quiet) hheld hwait]
      exact if_neg (not_not.mpr hcode)
    · refine wait_completes hon hc hcool ?_
      rw [State.afterWait_of_idle (s := s.quiet) hbusy, State.takeUp_of_free (s := s.quiet) hheld hwait]
      exact if_pos hcode
    · refine wait_completes hon hc hcool ?_
      rw [State.afterWait_of_idle (s := s.quiet) hbusy]
      exact State.takeUp_of_mustWait (s := s.quiet) hheld hwait
    · refine wait_completes hon hc hcool ?_
      rw [State.afterWait_of_idle (s := s.quiet) hbusy]
      exact State.takeUp_of_none (s := s.quiet) hheld
    · exact wait_completes hon hc hcool (State.afterWait_of_bench (s := s.quiet) ⟨hbusy, hstep, hdst⟩)

/-! ### Isolation and forced steps -/

section PowerFrames

variable (s : State)

@[simp] theorem State.power_fault (f : Fld) : (s.fault f).power = s.power := rfl

@[simp] theorem State.power_faultEvent (typ source due a0 a1 role extra : Nat) :
    (s.faultEvent typ source due a0 a1 role extra).power = s.power := by
  unfold State.faultEvent
  dsimp only
  split
  · rfl
  · split <;> simp

theorem State.power_enqueue (q : Nat) (r : EventRec) {drop : State → State} (h : ∀ t, (drop t).power = t.power) :
    (s.enqueue q r drop).power = s.power := by
  unfold State.enqueue
  dsimp only
  split
  · rfl
  · rw [h]

/-- An event of the hub reaches no power state. -/
@[simp] theorem State.power_hubEvent (typ : Nat) (b : Block) (a0 a1 : Nat) (all : Bool) :
    (s.hubEvent typ b a0 a1 all).power = s.power := by
  unfold State.hubEvent
  dsimp only
  split
  · exact s.power_faultEvent ..
  · split
    · have hdrop (t : State) : (t.hbump Reg.HST_EVT_DROPPED_COUNT 1).power = t.power := rfl
      exact (State.power_enqueue _ _ _ hdrop).trans (s.power_faultEvent ..)
    · exact s.power_faultEvent ..

@[simp] theorem State.power_post (typ : Nat) (b : Block) (a0 a1 : Nat) : (s.post typ b a0 a1).power = s.power :=
  s.power_hubEvent ..

end PowerFrames

/-- What isolation makes of a unit's power state. -/
def isolatedPower (u : UnitPower) : UnitPower := { State.gatedPower 3 u with isolated := true }

/-- A unit whose supplies are isolated (R62). -/
def State.isolate (n : Nat) (s : State) : State :=
  ((s.modPower n (fun u => { u with isolated := true })).gate n 3).post 0x0C03 .sup n 0

section Isolate

variable {s : State} {n : Nat}

theorem State.power_isolate : (s.isolate n).power = { s.power with units := s.power.units.modify n isolatedPower } := by
  simp only [State.isolate, State.power_post, State.power_gate, State.modPower, List.modify_modify_eq]
  rfl

theorem State.substBusy_isolate : (s.isolate n).substBusy = s.substBusy := by
  simp only [State.substBusy, State.subst, State.power_isolate]

theorem State.held_isolate (m : Nat) : ((s.isolate n).pw m).held = (s.pw m).held := by
  rw [State.pw_of_units (s := s) (congrArg PowerSt.units State.power_isolate)]
  split <;> rfl

/-- A unit that serves nothing is not substituted. -/
theorem State.trigger_of_idle (hbusy : s.substBusy = false) (trig : Nat) (onAir : Bool) : s.trigger n trig 0 onAir = s := by
  simp [State.trigger, State.involved, hbusy, inService]

theorem opSupplyIsolation_of_idle (hrun : s.running n = false) (hbusy : s.substBusy = false)
    (hheld : (s.pw n).held = none) : opSupplyIsolation n s = s.isolate n := by
  have hmode : s.modeOf n = 0 := by simp [State.modeOf, hrun]
  have hisolated : (s.isolate n).substBusy = false := State.substBusy_isolate.trans hbusy
  have hop : opSupplyIsolation n s = ((s.isolate n).trigger n 5 (s.modeOf n) (s.onAir n)).afterStop n := rfl
  rw [hop, hmode, State.trigger_of_idle hisolated,
    State.afterStop_of_idle hisolated ((State.held_isolate n).trans hheld)]

end Isolate

/-- Settles O20: the isolation of a unit that does not run, with nothing waiting, triggers nothing and lets nothing go on. -/
theorem isolation : Obligations.Isolation := by
  refine ⟨fun n s hon => ⟨?_, fun hrun hbusy hheld => ?_⟩, fun n k s hon => ⟨fun park hmove hlow hhigh => ?_, fun hmove => ?_⟩⟩
  · exact run_completes (f := opSupplyIsolation n) rfl hon rfl
  · exact run_completes (f := opSupplyIsolation n) rfl hon (opSupplyIsolation_of_idle (s := s.quiet) hrun hbusy hheld)
  · exact run_completes (f := State.forceStep n k) rfl hon (by simp [State.forceStep, hmove, hlow, hhigh])
  · exact run_idle (f := State.forceStep n k) rfl hon (by simp [State.forceStep, hmove])

/-! ### Parks that fail -/

theorem State.stopDone_lost {s : State} {n : Nat} (hmove : (s.pw n).move = .stop true) (hforced : (s.pw n).forced = true) :
    s.stopDone n = ((((if (s.quenchOf n).own then s.modQuench n (fun _ => {}) else s).parkLost n).lower n false).railHome n) := by
  have hpw : (if (s.quenchOf n).own then s.modQuench n (fun _ => {}) else s).pw n = s.pw n := by split <;> rfl
  simp only [State.stopDone, hmove, hpw, hforced, Bool.and_self, Bool.not_true, Bool.and_false, if_true]

/-- Settles O21: `parkFailed` and `stopDone` by the move in progress. -/
theorem parkFailures : Obligations.ParkFailures := by
  intro n s hon
  refine ⟨fun hmove => ?_, fun hmove hforced => ?_, fun hmove => ?_⟩
  · exact run_completes (f := State.parkFailed n) rfl hon (by simp [State.parkFailed, hmove, State.parkLost])
  · refine run_completes (f := opUnitStopComplete n) rfl hon ?_
    rw [State.opUnitStopComplete_of_stop (s := s.quiet) hmove, State.stopDone_lost (s := s.quiet) hmove hforced]
    rfl
  · refine run_idle (f := State.parkFailed n) rfl hon ?_
    obtain h | h := hmove <;> simp [State.parkFailed, h]

end Sys2Proof.Machine

/-! Register access (04_register_model.md): writes and reads of a unit's registers, of the hub's, and of BAR4. -/

namespace Sys2Proof.Machine

/-! ### A register of one word -/

section OneWord

variable {s : State} {x : Site} {p : Path} {off v page rep : Nat} {b : Block} {d : RegDef}

theorem State.regWriteAt_word (hh : x.hit off = .reg b page rep 0 d) (hw : d.words = 1) :
    s.regWriteAt x p off v = s.storeReg x p b d page rep off off v v := by
  simp [State.regWriteAt, hh, hw]

/-- A write that passes every check, of a register that holds what is written and does nothing else. -/
theorem State.storeReg_store {k full : Nat} (hf : (d.staged && s.frozen x) = false)
    (hc : fieldsCode d.fields d.staged full = 0) (hx : crossOk d.cross page rep full = true) (ha : d.act = .none)
    (hrw : d.fields.any (fun f => f.acc == .rw || f.acc == .w1c) = true) :
    s.storeReg x p b d page rep k off full v =
      s.putReg x b d k (storeFields d.fields (fun _ => true) (s.regAt x b d k false) full) := by
  rw [State.storeReg_accept hf hc hx (by simp [State.ownerCode, ha, codeNONE]), if_pos hrw]
  cases x <;> simp [State.act, ha]

/-- A value that its fields do not allow. -/
theorem State.storeReg_badFields {k full : Nat} (hf : (d.staged && s.frozen x) = false)
    (hc : fieldsCode d.fields d.staged full ≠ 0) : s.storeReg x p b d page rep k off full v =
      s.discardAt x b (fieldsCode d.fields d.staged full) (x.pf off) p v := by
  simp [State.storeReg, hf, hc]

/-- Staged fields during a commit (R92). -/
theorem State.storeReg_frozen {k full : Nat} (hf : (d.staged && s.frozen x) = true)
    (hlive : d.fields.any (·.live) = false) : s.storeReg x p b d page rep k off full v =
      s.discardAt x b codeCOMMIT_PENDING (x.pf off) p v := by
  simp only [State.storeReg, hf, hlive, if_true, Bool.not_false]

variable {n : Nat} (hrun : s.running n = true)
include hrun

theorem State.modBankAt_unit (f : RegBank → RegBank) :
    s.modBankAt (.unit n) b f = s.modChan n (fun c => { c with bank := f c.bank }) := by
  simp [State.modBankAt, State.modRun, hrun]

theorem State.putReg_unit (hw : d.words = 1) (w : Nat) : s.putReg (.unit n) b d off w = s.modChan n (fun c =>
    { c with bank := { c.bank with
      regs := storeSet Machine.unitReset c.bank.regs off
        (mergeBits (stagedMask off) (storeGet Machine.unitReset c.bank.regs off) (BitVec.ofNat 32 w))
      staged := if stagedMask off = 0 then c.bank.staged else storeSet Machine.unitReset c.bank.staged off
        (mergeBits (stagedMask off) (BitVec.ofNat 32 w) (storeGet Machine.unitReset c.bank.staged off)) } }) := by
  have hmod : BitVec.ofNat 32 (w % 2 ^ 32) = BitVec.ofNat 32 w := BitVec.eq_of_toNat_eq (by simp)
  simp only [State.putReg, hw, Nat.reduceEqDiff, if_false, State.putAt, hmod, State.modBankAt_unit hrun, Site.mask, Site.rst]

end OneWord

/-! ### Writes of a unit's registers -/

section UnitWrite

variable {p : Path} {off n o : Nat} {v : Word} {s : State} (hon : s.ump.on = true) (harr : s.arrives p = true)
  (hsize : off < barSize p) (halign : off % 4 = 0) (ht : target p off = .unit n o)
include hon harr hsize halign ht

theorem regWrite_unit_completes (hrun : s.running n = true) {g : State → State}
    (h : s.quiet.regWriteAt (.unit n) p o v.toNat = g s.quiet) : Completes (.regWrite p 0 off v 15#4) s g :=
  regWrite_completes hon harr hsize halign (by
    rw [ht]
    exact (State.writeAt_of_open (x := .unit n) (by simpa [State.open_] using hrun) p o v).trans h)

theorem regWrite_partial_completes {be : BitVec 4} (hbe : be ≠ 15#4) (hrun : s.running n = true)
    (hb : (blockFor (.unit n) o).isUnit = true) : CompletesIn (.regWrite p 0 off v be) n s
      (discardUnit (blockFor (.unit n) o) codeACCESS (bar0Unit n o) (pathCode p) be.toNat) :=
  regWrite_completes hon harr hsize halign (by
    have h : s.quiet.writeAt p (.unit n o) v be =
        s.quiet.discardAt (.unit n) (blockFor (.unit n) o) codeACCESS (bar0Unit n o) p be.toNat := by
      simp [State.writeAt, hrun, hbe, Site.pf]
    rw [ht, h, State.discardAt_unit (by simpa using hrun) hb])

theorem regWrite_unavailable_completes {be : BitVec 4} (hrun : s.running n = false) :
    Completes (.regWrite p 0 off v be) s (State.unavailable n (bar0Unit n o) p true) :=
  regWrite_completes hon harr hsize halign (by
    rw [ht]
    simp [State.writeAt, hrun])

variable {b : Block} {page rep : Nat} {d : RegDef} (hh : unitHit o = .reg b page rep 0 d) (hw : d.words = 1)
  (hrun : s.running n = true)
include hh hw hrun

theorem regWrite_live_completes (hs : d.staged = false) (hm : stagedMask o = 0)
    (hc : fieldsCode d.fields false v.toNat = 0) (hx : crossOk d.cross page rep v.toNat = true) (ha : d.act = .none)
    (hrw : d.fields.any (fun f => f.acc == .rw || f.acc == .w1c) = true) :
    CompletesIn (.regWrite p 0 off v 15#4) n s (fun c => c.putWord o (BitVec.ofNat 32 (storeFields d.fields (fun _ => true)
      (storeGet unitReset c.bank.regs o).toNat v.toNat))) := by
  refine regWrite_unit_completes hon harr hsize halign ht hrun ?_
  have hreg : s.quiet.regAt (.unit n) b d o false = (storeGet unitReset (s.chan n).bank.regs o).toNat := by
    simp [State.regAt, hw, State.copyAt, Site.mask, hm, State.bankAt, Site.rst]
  rw [State.regWriteAt_word (x := .unit n) hh hw, State.storeReg_store (by simp [hs]) (by rwa [hs]) hx ha hrw, hreg,
    State.putReg_unit (by simpa using hrun) hw]
  refine State.modChan_congr _ _ _ _ ?_
  simp [hm, Chan.putWord]

theorem regWrite_badFields_completes (hb : b.isUnit = true) (hs : d.staged = false)
    (hc : fieldsCode d.fields false v.toNat ≠ 0) : CompletesIn (.regWrite p 0 off v 15#4) n s
      (discardUnit b (fieldsCode d.fields false v.toNat) (bar0Unit n o) (pathCode p) v.toNat) := by
  refine regWrite_unit_completes hon harr hsize halign ht hrun ?_
  rw [State.regWriteAt_word (x := .unit n) hh hw, State.storeReg_badFields (by simp [hs]) (by rwa [hs]), hs,
    State.discardAt_unit (by simpa using hrun) hb]
  rfl

theorem regWrite_frozen_completes (hb : b.isUnit = true) (hs : d.staged = true) (hcom : (s.chan n).committing = true)
    (hlive : d.fields.any (·.live) = false) : CompletesIn (.regWrite p 0 off v 15#4) n s
      (discardUnit b codeCOMMIT_PENDING (bar0Unit n o) (pathCode p) v.toNat) := by
  refine regWrite_unit_completes hon harr hsize halign ht hrun ?_
  rw [State.regWriteAt_word (x := .unit n) hh hw, State.storeReg_frozen (by simp [hs, State.frozen, hcom]) hlive,
    State.discardAt_unit (by simpa using hrun) hb]
  rfl

theorem regWrite_staged_completes (hs : d.staged = true) (hcom : (s.chan n).committing = false) (hm : stagedMask o ≠ 0)
    (hc : fieldsCode d.fields true v.toNat = 0) (hx : crossOk d.cross page rep v.toNat = true) (ha : d.act = .none)
    (hrw : d.fields.any (fun f => f.acc == .rw || f.acc == .w1c) = true) :
    CompletesIn (.regWrite p 0 off v 15#4) n s (fun c =>
      let live := storeGet unitReset c.bank.regs o
      let old := storeGet unitReset c.bank.staged o
      let w := BitVec.ofNat 32 (storeFields d.fields (fun _ => true) (mergeBits (stagedMask o) old live).toNat v.toNat)
      { c with bank := { c.bank with
        regs := storeSet unitReset c.bank.regs o (mergeBits (stagedMask o) live w)
        staged := storeSet unitReset c.bank.staged o (mergeBits (stagedMask o) w old) } }) := by
  refine regWrite_unit_completes hon harr hsize halign ht hrun ?_
  have hreg : s.quiet.regAt (.unit n) b d o false = (mergeBits (stagedMask o)
      (storeGet unitReset (s.chan n).bank.staged o) (storeGet unitReset (s.chan n).bank.regs o)).toNat := by
    simp [State.regAt, hw, State.copyAt, Site.mask, State.bankAt, Site.rst]
  rw [State.regWriteAt_word (x := .unit n) hh hw, State.storeReg_store (by simp [State.frozen, hcom]) (by rwa [hs]) hx ha
    hrw, hreg, State.putReg_unit (by simpa using hrun) hw]
  refine State.modChan_congr _ _ _ _ ?_
  simp [hm]

end UnitWrite

/-! ### Registers of two words (R87) -/

/-- Nothing is held any more of the register at key `k`. -/
def Chan.dropHeld (k : Nat) (c : Chan) : Chan :=
  { c with bank := { c.bank with held := c.bank.held.filter (fun y => y.1 != k) } }

theorem State.committing_dropHeld (s : State) (n k : Nat) :
    ((s.modChan n (Chan.dropHeld k)).chan n).committing = (s.chan n).committing := by
  by_cases hn : n < s.units.length
  · rw [State.modChan_chan n _ s hn]
    rfl
  · simp [State.modChan, State.chan, List.getD, List.getElem?_eq_none (Nat.le_of_not_lt hn)]

section TwoWords

variable {s : State} {p : Path} {o n w v page rep : Nat} {b : Block} {d : RegDef} (hrun : s.running n = true)
  (hh : unitHit o = .reg b page rep w d) (hw : d.words = 2)
include hrun hh hw

theorem State.regWriteAt_pair_frozen (hb : b.isUnit = true) (hs : d.staged = true) (hcom : (s.chan n).committing = true) :
    s.regWriteAt (.unit n) p o v = s.modChan n (fun c =>
      discardUnit b codeCOMMIT_PENDING (bar0Unit n o) (pathCode p) v (c.dropHeld (o - 4 * w))) := by
  have hhit : Site.hit (.unit n) o = .reg b page rep w d := hh
  simp only [State.regWriteAt, hhit, hw, if_true, hs, State.frozen, hcom, Bool.and_self, State.modBankAt_unit hrun]
  rw [State.discardAt_unit (by exact hrun) hb, State.modChan_modChan]
  rfl

theorem State.regWriteAt_low (hf : (d.staged && (s.chan n).committing) = false) (hlow : w = 0) :
    s.regWriteAt (.unit n) p o v = s.modChan n (fun c => { c with bank := { c.bank with
      held := (o - 4 * w, BitVec.ofNat 32 v) :: c.bank.held.filter (fun y => y.1 != o - 4 * w) } }) := by
  have hhit : Site.hit (.unit n) o = .reg b page rep w d := hh
  simp only [State.regWriteAt, hhit, hw, if_true, State.frozen, hf, Bool.false_eq_true, if_false, hlow,
    State.modBankAt_unit hrun]

theorem State.regWriteAt_high (hf : (d.staged && (s.chan n).committing) = false) (hhigh : w ≠ 0) {y : Nat × Word}
    (hheld : (s.chan n).bank.held.find? (fun y => y.1 == o - 4 * w) = some y) :
    s.regWriteAt (.unit n) p o v = (s.modChan n (Chan.dropHeld (o - 4 * w))).storeReg (.unit n) p b d page rep
      (o - 4 * w) o (y.2.toNat + 2 ^ 32 * v) v := by
  have hhit : Site.hit (.unit n) o = .reg b page rep w d := hh
  simp only [State.regWriteAt, hhit, hw, if_true, State.frozen, hf, Bool.false_eq_true, if_false, hhigh, State.bankAt, hheld,
    State.modBankAt_unit hrun]
  rfl

/-- With no low word held, the one that stands is written back. -/
theorem State.regWriteAt_high_alone (hf : (d.staged && (s.chan n).committing) = false) (hhigh : w ≠ 0)
    (hheld : (s.chan n).bank.held.find? (fun y => y.1 == o - 4 * w) = none) :
    s.regWriteAt (.unit n) p o v = (s.modChan n (Chan.dropHeld (o - 4 * w))).storeReg (.unit n) p b d page rep
      (o - 4 * w) o ((s.copyAt (.unit n) b (o - 4 * w) false).toNat + 2 ^ 32 * v) v := by
  have hhit : Site.hit (.unit n) o = .reg b page rep w d := hh
  simp only [State.regWriteAt, hhit, hw, if_true, State.frozen, hf, Bool.false_eq_true, if_false, hhigh, State.bankAt, hheld,
    State.modBankAt_unit hrun]
  rfl

end TwoWords

/-! ### The MSI-X table in BAR4 (R103, R121) -/

theorem State.writeMsix_inside {s : State} {f off : Nat} {v : Word} (halign : off % 4 = 0) (hin : off < msixSize f * 16) :
    s.writeMsix f off v =
      let w := if off % 16 = 12 then v &&& 1#32 else if off % 16 = 0 then v &&& 0xFFFFFFFC#32 else v
      (s.modHub (fun h => { h with msix := storeSet msixReset h.msix (f * 2 ^ 16 + off) w })).sendPending f := by
  simp [State.writeMsix, halign, Nat.not_le.mpr hin]

theorem regWrite_msix_completes {p : Path} {off : Nat} {v : Word} {s : State} (hon : s.ump.on = true)
    (harr : s.arrives p = true) (hp : p ≠ .mgt) : Completes (.regWrite p 4 off v 15#4) s (State.writeMsix (pathFn p) off v) :=
  run_completes (f := State.writeBar p 4 off v 15#4) rfl hon (by simp [State.writeBar, harr, hp])

/-- Settles O23: a write of a word comes down to `storeReg`, whose checks come one after the other; of two words the first is
held and the second brings both there. -/
theorem registerWrites : Obligations.RegisterWrites := by
  refine ⟨?_, ?_, ?_, ?_⟩
  · intro p off n o v b page rep d s hon harr hsize halign ht hh hb hw
    refine ⟨?_, ?_, ?_, ?_, ?_, ?_⟩
    · exact regWrite_live_completes hon harr hsize halign ht hh hw
    · exact fun hrun => regWrite_badFields_completes hon harr hsize halign ht hh hw hrun hb
    · exact fun hrun => regWrite_frozen_completes hon harr hsize halign ht hh hw hrun hb
    · exact regWrite_staged_completes hon harr hsize halign ht hh hw
    · exact fun be hbe hrun hblk => regWrite_partial_completes hon harr hsize halign ht hbe hrun hblk
    · exact fun be hrun => regWrite_unavailable_completes hon harr hsize halign ht hrun
  · intro p off n o w v b page rep d s ⟨hon, hrun⟩ harr hsize halign ht hh hb hw k drop
    have hq : s.quiet.running n = true := hrun
    refine ⟨fun hs hcom => ?_, fun hf => ⟨fun hlow => ?_, fun low hhigh hheld ha hc hx hrw => ?_⟩⟩
    · exact regWrite_unit_completes hon harr hsize halign ht hrun (State.regWriteAt_pair_frozen hq hh hw hb hs hcom)
    · refine regWrite_unit_completes hon harr hsize halign ht hrun ((State.regWriteAt_low hq hh hw hf hlow).trans ?_)
      rw [BitVec.ofNat_toNat, BitVec.setWidth_eq]
    · refine regWrite_unit_completes hon harr hsize halign ht hrun ((State.regWriteAt_high hq hh hw hf hhigh hheld).trans ?_)
      have hfrozen : (d.staged && (s.quiet.modChan n (Chan.dropHeld k)).frozen (.unit n)) = false := by
        rw [State.frozen, State.committing_dropHeld]
        exact hf
      exact State.storeReg_store hfrozen hc hx ha hrw
  · intro p off o v b page rep d s hon harr hsize halign ht hh hw hs hc hx ha hrw
    refine regWrite_completes hon harr hsize halign ?_
    rw [ht, show s.quiet.writeAt p (.hub o) v 15#4 = _ from State.writeAt_of_open (x := .hub) trivial p o v,
      State.regWriteAt_word (x := .hub) hh hw, State.storeReg_store (by simp [hs]) (by rwa [hs]) hx ha hrw, State.regAt_hub hw,
      State.putReg_hub hw]
  · intro p off v s hon harr hp halign hin
    refine run_completes (f := State.writeBar p 4 off v 15#4) rfl hon ?_
    simp only [State.writeBar, State.quiet_arrives, harr, hp, Nat.reduceEqDiff, if_false, and_self, if_true,
      State.writeMsix_inside halign hin]

end Sys2Proof.Machine

/-! Register access (04_register_model.md): reads of a unit's registers and of BAR4. -/

namespace Sys2Proof.Machine

/-! ### What a read of a unit's register gives -/

section RegRead

variable {s : State} {p : Path} {b : Block} {page rep w n o : Nat} {d : RegDef}

/-- A word that a latch answers. -/
theorem State.regRead_latched (h : (d.words = 2 ∧ w = 1) ∨ nowHigh (.unit n) o = true) :
    s.regRead (.unit n) p b page rep w d o = (s.latched (.unit n) p b o, s) := by
  simp [State.regRead, h]

theorem nowHigh_now0 (n : Nat) : nowHigh (.unit n) 0x120100 = false := rfl

/-- A word of one-word registers, with the fields that a read clears. -/
theorem State.regRead_word (hw : d.words = 1) (hnow : nowHigh (.unit n) o = false) (ho : o ≠ 0x120100) :
    s.regRead (.unit n) p b page rep 0 d o = (readFields d.fields (s.readWord (.unit n) p b o) % 2 ^ 32,
      if d.fields.any (fun f => f.acc == .rc) then
        s.putAt (.unit n) b o (afterRead d.fields (page - d.page) rep (s.readWord (.unit n) p b o)) else s) := by
  simp [State.regRead, hw, hnow, ho]

/-- The low word of a pair keeps the high one. -/
theorem State.regRead_low (hw : d.words = 2) (hnow : nowHigh (.unit n) o = false)
    (hrc : d.fields.any (fun f => f.acc == .rc) = false) : s.regRead (.unit n) p b page rep 0 d o =
      (readFields d.fields (s.readWord (.unit n) p b o) % 2 ^ 32, s.latch (.unit n) p b (o + 4)
        (readFields d.fields (s.readWord (.unit n) p b o + 2 ^ 32 * s.readWord (.unit n) p b (o + 4)) / 2 ^ 32)) := by
  simp only [State.regRead, reduceCtorEq, false_and, if_false, hw, hnow, hrc, and_false, Bool.false_eq_true, or_self,
    if_true]

/-- TIM_NOW0 keeps the two words above it (R342). -/
theorem State.regRead_now0 (hw : d.words = 1) (hrc : d.fields.any (fun f => f.acc == .rc) = false) :
    s.regRead (.unit n) p b page rep 0 d 0x120100 = (readFields d.fields (s.readWord (.unit n) p b 0x120100) % 2 ^ 32,
      (s.latch (.unit n) p b 0x120104 (s.readWord (.unit n) p b 0x120104)).latch (.unit n) p b 0x120108
        (s.readWord (.unit n) p b 0x120108)) := by
  simp only [State.regRead, reduceCtorEq, false_and, if_false, hw, nowHigh_now0, hrc, Bool.false_eq_true, Nat.reduceEqDiff,
    or_self, ne_eq, not_false_eq_true, and_self, if_true]

theorem now0_noReadClear (h : unitHit 0x120100 = .reg b page rep w d) : d.fields.any (fun f => f.acc == .rc) = false := by
  have hall : ((match unitHit 0x120100 with
    | .reg _ _ _ _ d => d.fields.any (fun f => f.acc == .rc)
    | _ => false) = false) := by decide +kernel
  rw [h] at hall
  exact hall

end RegRead

/-! ### Reads of a unit's window -/

section UnitRead

variable {p : Path} {off n o : Nat} {s : State} (hon : s.ump.on = true) (harr : s.arrives p = true)
  (hsize : off < barSize p) (halign : off % 4 = 0) (ht : target p off = .unit n o)
include hon harr hsize halign ht

omit hon in
theorem readBar0_unit {m : Nat} {g : State → State} (h : s.quiet.readAt p (.unit n o) = (m, g s.quiet)) :
    s.quiet.readBar0 p off = (g s.quiet).put (.readData (BitVec.ofNat 32 m)) := by
  simp [State.readBar0, harr, hsize, halign, ht, h]

theorem latchedRead_unit_completes {m : Nat} {vc1 : Bool} {g : State → State}
    (h : s.quiet.readAt p (.unit n o) = (m, g s.quiet)) :
    Completes (.latchedRead p ⟨0, off, vc1⟩) s (fun s => (g s).put (.readData (BitVec.ofNat 32 m))) :=
  run_completes (f := State.readBar p 0 off vc1) rfl hon (readBar0_unit harr hsize halign ht h)

theorem readClear_unit_completes {m : Nat} {g : State → State} (h : s.quiet.readAt p (.unit n o) = (m, g s.quiet)) :
    Completes (.readClear p off) s (fun s => (g s).put (.readData (BitVec.ofNat 32 m))) :=
  run_completes (f := State.readBar0 p off) rfl hon (readBar0_unit harr hsize halign ht h)

end UnitRead

theorem State.readAt_unit_reg {s : State} {p : Path} {n o page rep w : Nat} {b : Block} {d : RegDef}
    (hrun : s.running n = true) (hh : unitHit o = .reg b page rep w d) :
    s.readAt p (.unit n o) = s.regRead (.unit n) p b page rep w d o := by
  have hhit : Site.hit (.unit n) o = .reg b page rep w d := hh
  simp only [State.readAt, hrun, Bool.not_true, Bool.false_eq_true, if_false, State.regReadAt, hhit]

theorem State.readAt_unavailable {s : State} {p : Path} {n o : Nat} (hrun : s.running n = false) :
    s.readAt p (.unit n o) = (0xFFFFFFFF, s.unavailable n (bar0Unit n o) p false) := by
  simp [State.readAt, hrun]

/-- Settles O24: a read of a unit's register comes down to `regRead`, each of whose answers is stated above; BAR4 is read word by
word. -/
theorem registerReads : Obligations.RegisterReads := by
  refine ⟨?_, ?_⟩
  · intro p off n o vc1 b page rep d s hon harr hsize halign ht v data
    have hread {w : Nat} (hrun : s.running n = true) (hh : unitHit o = .reg b page rep w d) :
        s.quiet.readAt p (.unit n o) = s.quiet.regRead (.unit n) p b page rep w d o := State.readAt_unit_reg hrun hh
    refine ⟨fun hrun hnow ho hrc => ⟨fun hh hw => ?_, fun hh hw => ?_, fun hh hw => ?_⟩, fun hrun hh hw => ⟨fun hnow => ?_, ?_⟩,
      fun hrun hnow ho hh hw hrc => ?_, fun hrun => ⟨?_, ?_⟩⟩
    · refine latchedRead_unit_completes (g := id) hon harr hsize halign ht ?_
      rw [hread hrun hh, State.regRead_word hw hnow ho, hrc]
      rfl
    · refine latchedRead_unit_completes hon harr hsize halign ht ?_
      rw [hread hrun hh, State.regRead_low hw hnow hrc]
      rfl
    · refine run_completes (f := State.readBar p 0 off vc1) rfl hon (readBar0_unit (g := id) harr hsize halign ht ?_)
      rw [hread hrun hh, State.regRead_latched (.inl ⟨hw, rfl⟩)]
      rfl
    · refine run_completes (f := State.readBar p 0 off vc1) rfl hon (readBar0_unit (g := id) harr hsize halign ht ?_)
      rw [hread hrun hh, State.regRead_latched (.inr hnow)]
      rfl
    · rintro rfl
      refine latchedRead_unit_completes
        (g := fun s => (s.latch (.unit n) p b 0x120104 (s.readWord (.unit n) p b 0x120104)).latch (.unit n) p b 0x120108
          (s.readWord (.unit n) p b 0x120108)) hon harr hsize halign ht ?_
      rw [hread hrun hh, State.regRead_now0 hw (now0_noReadClear hh)]
      rfl
    · refine readClear_unit_completes hon harr hsize halign ht ?_
      rw [hread hrun hh, State.regRead_word hw hnow ho, hrc]
      rfl
    · exact latchedRead_unit_completes hon harr hsize halign ht (State.readAt_unavailable hrun)
    · exact readClear_unit_completes hon harr hsize halign ht (State.readAt_unavailable hrun)
  · intro p off s hon harr hp
    refine ⟨fun hin halign => ?_, ?_⟩
    · exact run_completes (f := State.readBar p 4 off false) rfl hon
        (by simp only [State.readBar, Nat.reduceEqDiff, if_false, if_true, State.readBar4, State.quiet_arrives, harr, hp,
          decide_false, Bool.not_true, Bool.or_self, Bool.false_eq_true, hin, halign, Nat.sub_zero])
    · exact run_completes (f := State.readBar p 4 off true) rfl hon (by simp [State.readBar, State.readBar4, harr, hp]; rfl)

end Sys2Proof.Machine

/-! Tables and the common registers of a block (04_register_model.md, R84 to R88). -/

namespace Sys2Proof.Machine

/-! ### Index and data registers of a table in a unit's page -/

/-- Word `i` of the write buffer takes `v` (R88). -/
def State.tableFill (n : Nat) (b : Block) (k i : Nat) (v : Word) (s : State) : State :=
  let buf := s.tableBuf (.unit n) b k
  s.modBankAt (.unit n) b (fun r => { r with
    bufs := (k, { buf with w := buf.w.set i v }) :: r.bufs.filter (fun y => y.1 != k) })

theorem State.quiet_modRun (s : State) (n : Nat) (f : Chan → Chan) : s.quiet.modRun n f = (s.modRun n f).quiet := by
  by_cases hrun : s.running n = true
  · simp only [State.modRun, State.quiet_running, hrun, if_true]
    rfl
  · simp only [State.modRun, State.quiet_running, hrun, Bool.false_eq_true, if_false]

theorem State.quiet_loadTable (s : State) (n : Nat) (p : Path) (b : Block) (t : TableDef) (k e : Nat) (ainc : Bool) :
    s.quiet.loadTable (.unit n) p b t k e ainc = (s.loadTable (.unit n) p b t k e ainc).quiet :=
  State.quiet_modRun s n _

@[simp] theorem State.quiet_tableReady (s : State) (n : Nat) (p : Path) (b : Block) (t : TableDef) (k : Nat) :
    s.quiet.tableReady (.unit n) p b t k = (s.tableReady (.unit n) p b t k).quiet := by
  by_cases hbuf : (s.bankAt (.unit n) b).bufs.any (fun y => y.1 == k) = true
  · rw [State.tableReady, State.tableReady, if_pos hbuf, if_pos (by exact hbuf)]
  · rw [State.tableReady, State.tableReady, if_neg hbuf, if_neg (by exact hbuf), State.quiet_loadTable]
    rfl

@[simp] theorem State.quiet_tableFill (s : State) (n : Nat) (b : Block) (k i : Nat) (v : Word) :
    s.quiet.tableFill n b k i v = (s.tableFill n b k i v).quiet :=
  State.quiet_modRun s n _

section Table

variable {s : State} {p : Path} {n o page i : Nat} {b : Block} {t : TableDef} {v : Word}

theorem State.regWriteAt_idx (hh : unitHit o = .idx b page t) (hres : bitsOf v.toNat 16 15 = 0)
    (he : idxEntry v.toNat < t.entries) : s.regWriteAt (.unit n) p o v.toNat =
      s.loadTable (.unit n) p b t (idxKey b page t) (idxEntry v.toNat) (idxAinc v.toNat) := by
  have hhit : Site.hit (.unit n) o = .idx b page t := hh
  simp only [State.regWriteAt, hhit, hres, Nat.not_le.mpr he, ne_eq, not_true_eq_false, or_self, if_false]

theorem State.regWriteAt_idx_refuse (hh : unitHit o = .idx b page t)
    (hbad : bitsOf v.toNat 16 15 ≠ 0 ∨ t.entries ≤ idxEntry v.toNat) :
    s.regWriteAt (.unit n) p o v.toNat = s.discardAt (.unit n) b codeRANGE (bar0Unit n o) p v.toNat := by
  have hhit : Site.hit (.unit n) o = .idx b page t := hh
  simp only [State.regWriteAt, hhit, hbad, if_true, Site.pf]

variable (hh : unitHit o = .data b page i t)
include hh

theorem State.regWriteAt_data (hf : (t.staged && (s.chan n).committing) = false) : s.regWriteAt (.unit n) p o v.toNat =
    let u := (s.tableReady (.unit n) p b t (idxKey b page t)).tableFill n b (idxKey b page t) i v
    if i + 1 = t.words then u.storeEntry (.unit n) p b page t o v.toNat else u := by
  have hhit : Site.hit (.unit n) o = .data b page i t := hh
  simp only [State.regWriteAt, hhit, State.frozen, hf, Bool.false_eq_true, if_false, BitVec.ofNat_toNat, BitVec.setWidth_eq]
  rfl

theorem State.regWriteAt_data_frozen (hs : t.staged = true) (hcom : (s.chan n).committing = true) :
    s.regWriteAt (.unit n) p o v.toNat = s.discardAt (.unit n) b codeCOMMIT_PENDING (bar0Unit n o) p v.toNat := by
  have hhit : Site.hit (.unit n) o = .data b page i t := hh
  simp only [State.regWriteAt, hhit, State.frozen, hs, hcom, Bool.and_self, if_true, Site.pf]

theorem State.regReadAt_data : s.regReadAt (.unit n) p o =
    let u := s.tableReady (.unit n) p b t (idxKey b page t)
    let buf := u.tableBuf (.unit n) b (idxKey b page t)
    (((if u.viewActive (.unit n) b then buf.active else buf.r).getD i 0#32).toNat,
      if i + 1 = t.words then u.tableNext (.unit n) p b t (idxKey b page t) else u) := by
  have hhit : Site.hit (.unit n) o = .data b page i t := hh
  simp only [State.regReadAt, hhit]

end Table

section StoreEntry

variable {s : State} {p : Path} {n o page v : Nat} {b : Block} {t : TableDef}

/-- No word of the entry is refused by its fields: only what ties the words together is left to check. -/
theorem entryCodes_nil {fields : Nat → List FieldDef} {staged : Bool} {w : Nat} {ws : List Nat}
    (h : ∀ j < w, fieldsCode (fields j) staged (ws.getD j 0) = 0) :
    ((List.range w).map (fun i => fieldsCode (fields i) staged (ws.getD i 0))).filter (· != 0) = [] := by
  simpa [List.filter_eq_nil_iff] using h

variable {ws : List Nat} (hws : (s.tableBuf (.unit n) b (idxKey b page t)).w.map BitVec.toNat = ws)
  (h : ∀ j < t.words, fieldsCode ((t.fields.filter (fun f => f.1 == j)).map (·.2)) t.staged (ws.getD j 0) = 0)
include hws h

theorem State.storeEntry_refuse
    (hc : s.entryCode (.unit n) b page t (idxEntry (s.idxAt (.unit n) b (idxKey b page t))) ws ≠ 0) :
    s.storeEntry (.unit n) p b page t o v = s.discardAt (.unit n) b
      (s.entryCode (.unit n) b page t (idxEntry (s.idxAt (.unit n) b (idxKey b page t))) ws) (bar0Unit n o) p v := by
  simp only [State.storeEntry, hws, entryCodes_nil (fields := fun i => (t.fields.filter (fun f => f.1 == i)).map (·.2)) h]
  rw [if_pos hc]
  rfl

theorem State.storeEntry_accept (hring : t.cross ≠ .ring)
    (hc : s.entryCode (.unit n) b page t (idxEntry (s.idxAt (.unit n) b (idxKey b page t))) ws = 0) :
    s.storeEntry (.unit n) p b page t o v =
      let k := idxKey b page t
      let e := idxEntry (s.idxAt (.unit n) b k)
      (forN t.words (fun j s => s.putAt (.unit n) b (entryKey k e j)
        (storeFields ((t.fields.filter (fun f => f.1 == j)).map (·.2)) (fun _ => true)
          (s.copyAt (.unit n) b (entryKey k e j) false).toNat (ws.getD j 0))) s).tableNext (.unit n) p b t k := by
  simp only [State.storeEntry, hws, entryCodes_nil (fields := fun i => (t.fields.filter (fun f => f.1 == i)).map (·.2)) h]
  rw [if_neg (by simpa using hc), if_neg (by simpa using hring)]

end StoreEntry

theorem State.writeBar0_unit {s : State} {p : Path} {off n o : Nat} {v : Word} (harr : s.arrives p = true)
    (hsize : off < barSize p) (halign : off % 4 = 0) (ht : target p off = .unit n o) (hrun : s.running n = true) :
    s.writeBar0 p off v 15#4 = s.regWriteAt (.unit n) p o v.toNat := by
  have h := State.writeAt_of_open (x := .unit n) (show s.open_ (.unit n) from hrun) p o v
  simp only [Site.target] at h
  simp [State.writeBar0, harr, hsize, halign, ht, h]

/-- Settles O25: index and data registers act on the buffers of their bank; the last data word hands the buffer to `storeEntry`. -/
theorem tableAccess : Obligations.TableAccess := by
  intro p off n o v b page i t s ⟨hon, hrun⟩ harr hsize halign ht hb k ready fill fields whole e ws
  have hwrite : s.quiet.writeBar0 p off v 15#4 = s.quiet.regWriteAt (.unit n) p o v.toNat :=
    State.writeBar0_unit (by simpa using harr) hsize halign ht hrun
  have hquiet : (s.quiet.tableReady (.unit n) p b t k).tableFill n b k i v = whole.quiet := by
    rw [State.quiet_tableReady, State.quiet_tableFill]
    rfl
  have hdiscard (code : Nat) : s.quiet.discardAt (.unit n) b code (bar0Unit n o) p v.toNat =
      s.quiet.modChan n (discardUnit b code (bar0Unit n o) (pathCode p) v.toNat) :=
    State.discardAt_unit (by exact hrun) hb ..
  have hdata (hh : unitHit o = .data b page i t) (hf : (t.staged && (s.chan n).committing) = false) :
      s.quiet.writeBar0 p off v 15#4 =
        if i + 1 = t.words then whole.quiet.storeEntry (.unit n) p b page t o v.toNat else whole.quiet := by
    rw [hwrite, State.regWriteAt_data (s := s.quiet) hh hf, ← hquiet]
  refine ⟨fun hh hres he => ?_, fun hh hbad => ?_, fun hh hf => ⟨fun hi => ?_, fun hi hring hcodes => ⟨fun hc => ?_, fun hc => ?_⟩⟩,
    fun hh hs hcom => ?_, fun hh => ?_⟩
  · exact run_completes (f := State.writeBar0 p off v 15#4) rfl hon (hwrite.trans (State.regWriteAt_idx hh hres he))
  · exact run_completes (f := State.writeBar0 p off v 15#4) rfl hon
      (hwrite.trans ((State.regWriteAt_idx_refuse hh hbad).trans (hdiscard _)))
  · refine run_completes (f := State.writeBar0 p off v 15#4) rfl hon ((hdata hh hf).trans ((if_neg (by omega)).trans ?_))
    exact hquiet.symm
  · refine run_completes (f := State.writeBar0 p off v 15#4) rfl hon ((hdata hh hf).trans ((if_pos hi).trans ?_))
    change _ = (forN t.words _ ((s.quiet.tableReady (.unit n) p b t k).tableFill n b k i v)).tableNext (.unit n) p b t k
    rw [hquiet]
    exact State.storeEntry_accept (s := whole.quiet) rfl hcodes hring hc
  · refine run_completes (f := State.writeBar0 p off v 15#4) rfl hon ((hdata hh hf).trans ((if_pos hi).trans ?_))
    change _ = ((s.quiet.tableReady (.unit n) p b t k).tableFill n b k i v).discardAt _ _ _ _ _ _
    rw [hquiet]
    exact State.storeEntry_refuse (s := whole.quiet) rfl hcodes hc
  · exact run_completes (f := State.writeBar0 p off v 15#4) rfl hon
      (hwrite.trans ((State.regWriteAt_data_frozen (s := s.quiet) hh hs hcom).trans (hdiscard _)))
  · refine run_completes (f := State.readBar0 p off) rfl hon ?_
    have hread := State.readAt_of_open (x := .unit n) (show s.quiet.open_ (.unit n) from hrun) p o
    simp only [Site.target, State.regReadAt_data hh] at hread
    simp only [State.readBar0, State.quiet_arrives, harr, hsize, decide_true, Bool.and_self, if_true, halign, Nat.sub_zero, ht,
      hread, BitVec.ofNat_toNat, BitVec.setWidth_eq]
    rfl

/-! ### The common registers (R84) -/

section Common

variable {s : State} {x : Site} {p : Path} {b : Block} {off : Nat}

theorem commonWrite_errClear : commonWrite x p b 0x030 off 0x80000000 s =
    (s.putAt x b (b.common 0x030) 0).putAt x b (b.common 0x038) 0 := by
  have hc : fieldsCode [{ name := "CODE", hi := 15, lo := 0, acc := .ro, reset := 0 },
    { name := "CLEAR", hi := 31, lo := 31, acc := .wo, reset := 0 }] false 0x80000000 = 0 := by decide
  have hb : bitAt 0x80000000 31 = true := by decide
  simp only [commonWrite, commonFields]
  simp [hc, hb]

theorem commonWrite_intClr (v : Word) : commonWrite x p b 0x02C off v.toNat s =
    s.putAt x b (b.common 0x020) ((s.copyAt x b (b.common 0x020) true) &&& ~~~v).toNat := by
  have hrest : setBitsOf v.toNat 0 32 0 = 0 := by
    have := v.isLt
    simp only [setBitsOf, bitsOf]
    omega
  have hc : fieldsCode [{ name := "", hi := 31, lo := 0, acc := .wo, reset := 0 }] false v.toNat = 0 := by
    simp [fieldsCode, FieldDef.width, Chk.ok, hrest, codeNONE]
  simp only [commonWrite, commonFields]
  simp [hc]

/-- The fields of a block's control word (R84). -/
def controlFields : List FieldDef :=
  [{ name := "VIEW", hi := 0, lo := 0, acc := .rw, reset := 0 }, { name := "REVERT", hi := 1, lo := 1, acc := .wo, reset := 0 },
    { name := "BLOCKCTL", hi := 31, lo := 8, acc := .rw, reset := 0 }]

theorem commonFields_control : commonFields 0x010 = some controlFields := by rfl

section Control

variable {v : Word} (h : v.toNat / 4 % 64 = 0)

/-- What is written with REVERT set beside VIEW and the block's own bits. -/
theorem toNat_revert (v : Word) : (v ||| 2#32).toNat % 2 = v.toNat % 2 ∧ (v ||| 2#32).toNat / 2 % 2 = 1 ∧
    (v ||| 2#32).toNat / 4 = v.toNat / 4 := by
  have hor : (v ||| 2#32).toNat = v.toNat ||| 2 := rfl
  have h0 := Nat.or_mod_two_pow (a := v.toNat) (b := 2) (n := 1)
  have h2 := Nat.or_div_two_pow (a := v.toNat) (b := 2) (n := 2)
  have h1 : (v.toNat ||| 2).testBit 1 = true := by
    rw [Nat.testBit_or, show Nat.testBit 2 1 = true from rfl, Bool.or_true]
  rw [Nat.testBit_eq_decide_div_mod_eq, decide_eq_true_eq] at h1
  exact ⟨by simpa using h0, by simpa using h1, by simpa using h2⟩

include h

omit h in
theorem bitAt_revert (v : Word) : bitAt (v ||| 2#32).toNat 1 = true := by
  obtain ⟨-, h1, -⟩ := toNat_revert v
  simpa only [bitAt, bitsOf, pow_one, decide_eq_true_eq, beq_iff_eq] using h1

theorem fieldsCode_revert : fieldsCode controlFields false (v ||| 2#32).toNat = 0 := by
  obtain ⟨h0, h1, h2⟩ := toNat_revert v
  have hlt := (v ||| 2#32).isLt
  generalize (v ||| 2#32).toNat = w at *
  have hrest : setBitsOf (setBitsOf (setBitsOf w 0 1 0) 1 1 0) 8 24 0 = 0 := by
    simp only [setBitsOf, bitsOf]
    omega
  simp [fieldsCode, controlFields, FieldDef.width, Chk.ok, hrest, codeNONE]

omit h in
theorem storeFields_revert (old : Nat) : storeFields controlFields (fun _ => true) old (v ||| 2#32).toNat =
    setBitsOf (setBitsOf old 0 1 (v.toNat % 2)) 8 24 (v.toNat / 256) := by
  obtain ⟨h0, -, h2⟩ := toNat_revert v
  have hlt := v.isLt
  generalize (v ||| 2#32).toNat = w at *
  have hhigh : w / 256 = v.toNat / 256 := by
    rw [show 256 = 4 * 64 from rfl, ← Nat.div_div_eq_div_mul, h2, Nat.div_div_eq_div_mul]
  have hview : bitsOf w 0 1 = v.toNat % 2 := by simp only [bitsOf]; omega
  have hctl : bitsOf w 8 24 = v.toNat / 256 := by simp only [bitsOf]; omega
  simp [storeFields, controlFields, FieldDef.width, hview, hctl]

/-- VIEW and the block's own bits of a control word are stored. -/
def State.storeControl (x : Site) (b : Block) (v : Word) (s : State) : State :=
  s.putAt x b (b.common 0x010) (setBitsOf (setBitsOf (s.copyAt x b (b.common 0x010) true).toNat 0 1 (v.toNat % 2)) 8 24
    (v.toNat / 256))

include h

theorem commonWrite_revert (hf : s.frozen x = false) : commonWrite x p b 0x010 off (v ||| 2#32).toNat s =
    match x with
    | .unit n => (s.storeControl x b v).modRun n (fun c => revertBlock c b)
    | .hub => s.storeControl x b v := by
  have hbit := bitAt_revert v
  have hrw : controlFields.any (fun f => f.acc == .rw) = true := rfl
  simp only [commonWrite, commonFields_control, fieldsCode_revert h, hf, Bool.false_eq_true, and_false, if_false, ne_eq,
    not_true_eq_false, hbit, hrw, if_true, storeFields_revert]
  cases x <;> rfl

theorem commonWrite_revert_frozen (hf : s.frozen x = true) : commonWrite x p b 0x010 off (v ||| 2#32).toNat s =
    s.discardAt x b codeCOMMIT_PENDING (x.pf off) p (v ||| 2#32).toNat := by
  have hbit := bitAt_revert v
  simp only [commonWrite, commonFields_control, fieldsCode_revert h, hf, hbit]
  rfl

end Control

/-- A write of the common register that stands at `o` of an open site. -/
theorem State.writeBar0_common {k o : Nat} {v : Word} (ho : s.open_ x) (harr : s.arrives p = true) (hsize : off < barSize p)
    (ht : target p (off - off % 4) = x.target o) (hh : x.hit o = .common b k) :
    s.writeBar0 p off v 15#4 = commonWrite x p b k o v.toNat s := by
  simp only [State.writeBar0, harr, hsize, decide_true, Bool.and_self, if_true, ht, State.writeAt_of_open ho, State.regWriteAt,
    hh]

end Common

/-! ### Waits that end at LIMIT -/

theorem find_unitBlock {b : Block} (h : b ∈ unitBlocks) : unitBlocks.find? (fun c => c.code == b.code) = some b := by
  revert b
  decide +kernel

theorem find_hubBlock {b : Block} (h : b ∈ hubBlocks) : hubBlocks.find? (fun c => c.code == b.code) = some b := by
  revert b
  decide +kernel

/-- LIMIT stands beside what an error is recorded in. -/
theorem Chan.limit_err (c : Chan) (b : Block) (code off path : Nat) :
    (c.err b code off path).get (blkLimit b) = c.get (blkLimit b) := by
  have hset (c : Chan) {f : Fld} (hf : f.lo + f.w ≤ 32) (hkey : (blkLimit b).key ≠ f.key) (v : Nat) :
      (c.set f v).get (blkLimit b) = c.get (blkLimit b) := Chan.get_set_ne hf (by simp [blkLimit]) hkey c v
  have hcount : (c.bump (errCount b)).get (blkLimit b) = c.get (blkLimit b) :=
    hset c (by simp [errCount]) (by simp [blkLimit, errCount, Block.common]) _
  unfold Chan.err
  dsimp only
  split
  · rw [hset _ (by simp [intRaw]) (by simp [blkLimit, intRaw, Block.common]), hset _ (by simp [errInfo])
      (by simp [blkLimit, errInfo, Block.common]), hset _ (by simp [errCode]) (by simp [blkLimit, errCode, Block.common]), hcount]
  · exact hcount

theorem State.bget_bset_ne {f g : Fld} (hf : f.lo + f.w ≤ 32) (hg : g.lo + g.w ≤ 32) (h : g.key ≠ f.key) (s : State)
    (b : Block) (v : Nat) : (s.bset b f v).bget b g = s.bget b g := by
  cases hb : b.ofUmpire <;>
    simp [State.bget, State.bset, State.bankOf, State.modBank, hb, rfGet, rfSet, hf, hg, storeGet_set_ne _ h]

theorem State.limit_hubErr (s : State) (b : Block) (code off path : Nat) :
    (s.hubErr b code off path).bget b (blkLimit b) = s.bget b (blkLimit b) := by
  have hset (s : State) {f : Fld} (hf : f.lo + f.w ≤ 32) (hkey : (blkLimit b).key ≠ f.key) (v : Nat) :
      (s.bset b f v).bget b (blkLimit b) = s.bget b (blkLimit b) := State.bget_bset_ne hf (by simp [blkLimit]) hkey s b v
  have hcount (v : Nat) : (s.bset b (errCount b) v).bget b (blkLimit b) = s.bget b (blkLimit b) :=
    hset s (by simp [errCount]) (by simp [blkLimit, errCount, Block.common]) v
  unfold State.hubErr
  dsimp only
  split
  · rw [hset _ (by simp [intRaw]) (by simp [blkLimit, intRaw, Block.common]), hset _ (by simp [errInfo])
      (by simp [blkLimit, errInfo, Block.common]), hset _ (by simp [errCode]) (by simp [blkLimit, errCode, Block.common]), hcount]
  · exact hcount _

/-- Settles O26: each is a write of a common register, with the fields that R84 gives it. -/
theorem blockCommons : Obligations.BlockCommons := by
  refine ⟨?_, fun n b w s ⟨hon, hrun⟩ hb => ?_, fun b w s hon hb hready => ?_⟩
  · intro p page o v b x s hon harr at_
    have hwrite {k : Nat} (h : at_ k) (w : Word) :
        s.quiet.writeBar0 p (pageReg page k) w 15#4 = commonWrite x p b k o w.toNat s.quiet := by
      obtain ⟨hsize, hh, hsite⟩ := h
      have ⟨ho, ht⟩ : s.quiet.open_ x ∧ target p (pageReg page k - pageReg page k % 4) = x.target o := by
        obtain ⟨rfl, ht⟩ | ⟨n, rfl, hrun, -, ht⟩ := hsite
        · exact ⟨trivial, ht⟩
        · exact ⟨hrun, ht⟩
      exact State.writeBar0_common ho (by simpa using harr) hsize ht hh
    refine ⟨fun h => ?_, fun h => ?_, fun h hres => ⟨?_, ?_, ?_⟩⟩
    · exact run_completes (f := State.writeBar0 p (pageReg page 0x030) 0x80000000#32 15#4) rfl hon
        ((hwrite h _).trans commonWrite_errClear)
    · exact run_completes (f := State.writeBar0 p (pageReg page 0x02C) v 15#4) rfl hon
        ((hwrite h _).trans (commonWrite_intClr v))
    · rintro rfl
      exact run_completes (f := State.writeBar0 p (pageReg page 0x010) (v ||| 2#32) 15#4) rfl hon
        ((hwrite h _).trans (commonWrite_revert hres rfl))
    · rintro n rfl hcom
      exact run_completes (f := State.writeBar0 p (pageReg page 0x010) (v ||| 2#32) 15#4) rfl hon
        ((hwrite h _).trans (commonWrite_revert (x := .unit n) (s := s.quiet) hres hcom))
    · rintro n rfl hcom
      obtain ⟨-, -, hsite⟩ := id h
      simp only [reduceCtorEq, false_and, Site.unit.injEq, exists_eq_left', false_or] at hsite
      obtain ⟨hrun, hb, -⟩ := hsite
      refine run_completes (f := State.writeBar0 p (pageReg page 0x010) (v ||| 2#32) 15#4) rfl hon
        ((hwrite h _).trans ((commonWrite_revert_frozen (x := .unit n) (s := s.quiet) hres hcom).trans ?_))
      exact State.discardAt_unit (s := s.quiet) hrun hb ..
  · refine run_completes (f := opBlockTimeout (some n) b.code w) rfl hon ?_
    simp only [opBlockTimeout, find_unitBlock hb, State.modRun, State.quiet_running, hrun, if_true, Chan.limit_err]
  · refine run_completes (f := opBlockTimeout none b.code w) rfl hon ?_
    have hopen : (b.ofUmpire || s.hub.ready) = true := by simpa using hready
    simp only [opBlockTimeout, find_hubBlock hb, State.quiet_hub, hopen, if_true, State.limit_hubErr]


end Sys2Proof.Machine

/-! Events, the host window and quenches (04_register_model.md, 05_host_port.md). -/

namespace Sys2Proof.Machine

/-! ### A write of a live one-word register of a unit -/

section UnitRegister

variable {s : State} {p : Path} {n off page rep : Nat} {v : Word} {b : Block} {d : RegDef}

/-- A register without staged fields has no staged bits. -/
theorem stagedMask_of_live (hh : unitHit off = .reg b page rep 0 d) (hs : d.staged = false) (hlt : off < 2 ^ 32) :
    stagedMask off = 0 := by
  simp only [stagedMask, hlt, if_true, hh, hs, Bool.false_eq_true, if_false]

variable (hopen : s.opens p (.unit n off)) (hrun : s.running n = true) (hh : unitHit off = .reg b page rep 0 d)
  (hw : d.words = 1) (hs : d.staged = false) (hc : fieldsCode d.fields false v.toNat = 0)
  (hx : crossOk d.cross page rep v.toNat = true)
include hopen hrun hh hw hs hc hx

/-- One that stores nothing. -/
theorem State.writeTo_unitCommand (hlt : off < 2 ^ 32)
    (hstores : d.fields.any (fun f => f.acc == .rw || f.acc == .w1c) = false)
    (ho : s.ownerCode (.unit n) d page rep v.toNat = 0) :
    s.writeTo p (.unit n off) v = State.act (.unit n) d page rep off v.toNat s := by
  obtain ⟨-, harr, hreach⟩ := hopen
  rw [State.writeTo_unit harr hreach hrun hh hw hs (stagedMask_of_live hh hs hlt) hc hx ho, hstores]
  rfl

/-- One that its owner discards. -/
theorem State.writeTo_unit_refuse (hb : b.isUnit = true) (ha : d.act ≠ .substCtl)
    (ho : s.ownerCode (.unit n) d page rep v.toNat ≠ 0) : s.writeTo p (.unit n off) v =
      s.modChan n (discardUnit b (s.ownerCode (.unit n) d page rep v.toNat) (bar0Unit n off) (pathCode p) v.toNat) := by
  obtain ⟨-, harr, hreach⟩ := hopen
  rw [show s.writeTo p (.unit n off) v = _ from State.writeTo_reg (x := .unit n) harr hreach hrun hh hw,
    State.storeReg_refuse (by simp [hs]) (by rwa [hs]) hx ho, State.substRefused, if_neg ha, State.discardAt_unit hrun hb]
  rfl

end UnitRegister

/-! ### Injected events (R99) -/

/-- The one field of the registers through which events are injected. -/
def injectedValue : FieldDef := { name := "VALUE", hi := 31, lo := 0, acc := .wo, reset := 0 }

def hubInjectReg : RegDef :=
  { name := "HST_EVT_INJECT", page := 1, pages := 1, off := 276, reps := 1, stride := 0, words := 1, staged := false
    cross := .none, act := .inject, fields := [injectedValue] }

def unitInjectReg : RegDef :=
  { name := "EVT_INJECT", page := 0, pages := 1, off := 276, reps := 1, stride := 0, words := 1, staged := false
    cross := .none, act := .inject, fields := [injectedValue] }

theorem hubInject_isCommand : IsCommandReg 0x1114 .hst 1 0 hubInjectReg where
  hit := by decide +kernel
  words := rfl
  live := rfl
  stores := rfl

theorem unitHit_inject : unitHit 0x1A0114 = .reg .evt 0 0 0 unitInjectReg := by decide +kernel

theorem fieldsCode_injected (v : Word) : fieldsCode [injectedValue] false v.toNat = 0 := by
  have hrest : setBitsOf v.toNat 0 32 0 = 0 := by
    have := v.isLt
    simp only [setBitsOf, bitsOf]
    omega
  simp [fieldsCode, injectedValue, FieldDef.width, Chk.ok, hrest, codeNONE]

section Deliver

variable {s : State} {u : Option (Fin 5)}

/-- The ring of a queue, as `deliver` finds it. -/
theorem eventRing (u : Option (Fin 5)) : (if (u.map Fin.val).getD 5 < 5 then 32 * (u.map Fin.val).getD 5 + 29 else 160) =
    (u.map (fun n => 32 * n.val + 29)).getD 160 := by
  cases u with
  | none => rfl
  | some n => simp [n.isLt]

theorem State.deliver_empty {q : Nat} (h : (s.queues.getD q {}).recs = []) : s.deliver q = s := by
  unfold State.deliver
  simp only [h]
  cases (s.ring (if q < 5 then 32 * q + 29 else 160)).stage <;> rfl

theorem State.deliver_held {q i : Nat} {d : Descr} {e : EventRec} {rest : List EventRec}
    (hi : (if q < 5 then 32 * q + 29 else 160) = i) (hd : (s.ring i).stage = .hold d)
    (hq : (s.queues.getD q {}).recs = e :: rest) (hready : s.ringReady i = true) (hok : s.descrStatus i d = 0) :
    s.deliver q = (s.dequeue q).ringComplete i d 0 32 (eventBytes e) := by
  unfold State.deliver
  simp only [hi, hd, hq, hready, hok, and_self, if_true]

end Deliver

section Enqueue

variable {s : State} {q : Nat} {e : EventQueue} (hq : s.queues[q]? = some e) (r : EventRec) (drop : State → State)
include hq

theorem State.enqueue_room (h : e.recs.length < 256) : s.enqueue q r drop =
    { s with queues := s.queues.set q { recs := e.recs ++ [{ r with overflow := e.overflow }], overflow := false } } := by
  simp [State.enqueue, List.getD, hq, queueSize, h]

theorem State.enqueue_full (h : 256 ≤ e.recs.length) :
    s.enqueue q r drop = drop { s with queues := s.queues.set q { e with overflow := true } } := by
  simp [State.enqueue, List.getD, hq, queueSize, Nat.not_lt.mpr h]

end Enqueue

/-- Settles O27: an injection is the write of a register that stores nothing; delivery takes the oldest record; `enqueue` keeps
256 of them. -/
theorem events : Obligations.Events := by
  refine ⟨fun p n v s hon => ⟨fun ⟨_, hrun⟩ hopen => ?_, fun hopen => ?_⟩, fun u s hon => ⟨?_, ?_⟩, ?_⟩
  · refine run_completes (f := State.writeTo p (.unit n 0x1A0114) v) rfl hon ?_
    exact State.writeTo_unitCommand (State.quiet_opens hopen) hrun unitHit_inject rfl rfl (fieldsCode_injected v) rfl
      (by decide) rfl rfl
  · refine run_completes (f := State.writeTo p (.hub 0x1114) v) rfl hon ?_
    exact State.writeTo_command hubInject_isCommand (State.quiet_opens hopen) (fieldsCode_injected v) rfl rfl
  · intro d e rest hd hq hready hok
    exact run_completes (f := State.deliver ((u.map Fin.val).getD 5)) rfl hon
      (State.deliver_held (s := s.quiet) (eventRing u) hd hq hready hok)
  · intro hq
    exact run_idle (f := State.deliver ((u.map Fin.val).getD 5)) rfl hon (State.deliver_empty (s := s.quiet) hq)
  · intro q e r drop s hq
    have hlt : q < s.queues.length := (List.getElem?_eq_some_iff.mp hq).1
    refine ⟨fun hroom => ?_, State.enqueue_full hq r drop, fun k hk hroom => ?_⟩
    · rw [State.enqueue_room hq r drop hroom]
      exact List.getElem?_set_self hlt
    · rw [State.enqueue_room hq r drop hroom]
      exact List.getElem?_set_ne hk.symm

/-! ### The host window (R108 to R110) -/

section Window

variable {s : State} {p : Path} {off n a : Nat} (harr : s.arrives p = true) (hslot : bar2Slot p off = some (n, a))
include harr hslot

theorem State.bar2Write_enters {bytes : List Byte} (hrun : s.running n = true) (hin : a + bytes.length ≤ hbmSize)
    (hfits : (s.chan n).sink.held + bytes.length ≤ sinkSize) : s.bar2Write p off bytes false = s.modChan n (fun c =>
      { c with sink := { c.sink with writes := c.sink.writes ++ [(a, bytes)], held := c.sink.held + bytes.length
                                     received := c.sink.received + 1 } }) := by
  simp [State.bar2Write, harr, hslot, hrun, Nat.not_lt.mpr hin, Nat.not_lt.mpr hfits, State.modRun]

theorem State.bar2Write_dropped {bytes : List Byte} {vc1 : Bool} (h : vc1 = true ∨ hbmSize < a + bytes.length ∨
    s.running n = false ∨ sinkSize < (s.chan n).sink.held + bytes.length) :
    s.bar2Write p off bytes vc1 = s.hbump (Reg.HST_SINK_DROP_COUNT n) 1 := by
  have hcond : (vc1 || decide (hbmSize < a + bytes.length) || !s.running n ||
      decide (sinkSize < (s.chan n).sink.held + bytes.length)) = true := by
    simpa [or_assoc] using h
  simp only [State.bar2Write, harr, hslot, hcond, Bool.not_true, Bool.false_eq_true, if_false, if_true]

theorem State.bar2Read_hole {len : Nat} {beats : List (Nat × BeatCheck)} (h : hbmSize ≤ a) :
    s.bar2Read p off len false beats = s.put (.bar2Data (List.replicate len 0#8) false) := by
  simp [State.bar2Read, harr, hslot, h]

theorem State.bar2Read_stopped {len : Nat} {beats : List (Nat × BeatCheck)} (hrun : s.running n = false) (h : a < hbmSize) :
    s.bar2Read p off len false beats = s.put (.bar2Data (List.replicate len 0xFF#8) false) := by
  simp [State.bar2Read, harr, hslot, hrun, Nat.not_le.mpr h]

theorem State.bar2Read_hbm {len : Nat} {beats : List (Nat × BeatCheck)} (hrun : s.running n = true) (h : a < hbmSize) :
    s.bar2Read p off len false beats =
      (let c := sinkSeen (memFind (s.chan n) beats)
      (s.modChan n (opBar2Read a len beats)).put (.bar2Data (c.load a len) (memReadFails c a len))) := by
  simp [State.bar2Read, harr, hslot, hrun, Nat.not_le.mpr h, State.modRun]

end Window

/-- The slot of a unit in BAR2, by the path. -/
theorem bar2Slot_inside {p : Path} {off a : Nat} {n : Fin 5} (ha : a < 0x800000000)
    (h : p = .pf ∧ off = 0x800000000 * n.val + a ∨ p = .vf n ∧ off = a) : bar2Slot p off = some (n.val, a) := by
  have := n.isLt
  obtain ⟨rfl, rfl⟩ | ⟨rfl, rfl⟩ := h
  · simp only [bar2Slot, if_pos (show 0x800000000 * n.val + a < 0x2800000000 by omega), Option.some.injEq, Prod.mk.injEq]
    omega
  · simp [bar2Slot, ha]

theorem bar2Slot_beyond {o : Nat} (h : 0x2800000000 ≤ o) : bar2Slot .pf o = none := by
  simp [bar2Slot, Nat.not_lt.mpr h]

/-- Settles O30: the slot of the offset names the unit, and each answer is one branch of `bar2Write` or `bar2Read`. -/
theorem hostWindow : Obligations.HostWindow := by
  intro p n off a len bytes beats s hon harr ha
  have hq : s.quiet.arrives p = true := by simpa using harr
  refine ⟨fun hslot => ?_, fun o hpf ho => ⟨?_, ?_⟩, ?_⟩
  · have hslot := bar2Slot_inside ha hslot
    refine ⟨fun hrun hin hfits => ?_, fun vc1 h => ?_, fun h => ?_, fun hrun h => ?_, fun hrun h => ?_⟩
    · exact run_completes (f := State.bar2Write p off bytes false) rfl hon (State.bar2Write_enters hq hslot hrun hin hfits)
    · exact run_completes (f := State.bar2Write p off bytes vc1) rfl hon (State.bar2Write_dropped hq hslot h)
    · exact run_completes (f := State.bar2Read p off len false beats) rfl hon (State.bar2Read_hole hq hslot h)
    · exact run_completes (f := State.bar2Read p off len false beats) rfl hon (State.bar2Read_stopped hq hslot hrun h)
    · exact run_completes (f := State.bar2Read p off len false beats) rfl hon (State.bar2Read_hbm hq hslot hrun h)
  · exact run_completes (f := State.bar2Read .pf o len false beats) rfl hon
      (by simp [State.bar2Read, hpf, bar2Slot_beyond ho])
  · exact run_idle (f := State.bar2Write .pf o bytes false) rfl hon (by simp [State.bar2Write, hpf, bar2Slot_beyond ho])
  · refine run_completes (f := State.bar2Read p off len true beats) rfl hon ?_
    simp only [State.bar2Read, hq, Bool.not_true, Bool.false_eq_true, if_false, if_true]
    rfl

/-! ### QUENCH and RESUME (R127) -/

/-- HST_QUENCH of the units' pages. -/
def quenchReg : RegDef :=
  { name := "HST_QUENCH", page := 2, pages := 5, off := 256, reps := 1, stride := 0, words := 1, staged := false
    cross := .quench, act := .quench
    fields := [{ name := "QUENCH", hi := 0, lo := 0, acc := .wo, reset := 0 },
      { name := "RESUME", hi := 1, lo := 1, acc := .wo, reset := 0 }] }

theorem quench_isCommand (n : Fin 5) : IsCommandReg (0x2100 + 0x1000 * n.val) .hst (n.val + 2) 0 quenchReg where
  hit := by
    revert n
    decide +kernel
  words := rfl
  live := rfl
  stores := rfl

section Quench

variable {s : State} {p : Path} {n : Fin 5} (hopen : s.opens p (.hub (0x2100 + 0x1000 * n.val)))
include hopen

theorem State.writeTo_quench : s.writeTo p (.hub (0x2100 + 0x1000 * n.val)) 1#32 = s.quenchStart n false :=
  State.writeTo_command (quench_isCommand n) hopen (by decide) (by simp [crossOk, quenchReg, bitAt, bitsOf]) rfl

theorem State.writeTo_resume : s.writeTo p (.hub (0x2100 + 0x1000 * n.val)) 2#32 = s.quenchResume n :=
  State.writeTo_command (quench_isCommand n) hopen (by decide) (by simp [crossOk, quenchReg, bitAt, bitsOf]) rfl

end Quench

section QuenchStart

variable {s : State} {n : Nat}

theorem State.quenchStart_begins (hst : (s.quenchOf n).stopped = false) (hrun : s.running n = true) :
    s.quenchStart n false = s.modQuench n (fun q => { q with on := true, own := false, resume := false }) := by
  have hrun' (f : Quench → Quench) : (s.modQuench n f).running n = true := hrun
  simp only [State.quenchStart, hst, hrun', Bool.false_and, Bool.not_true, Bool.or_self, Bool.false_eq_true, if_false]

theorem State.quenchStart_stops (h : (s.quenchOf n).stopped = true ∨ s.running n = false) : s.quenchStart n false =
    (s.modQuench n (fun q => { q with on := true, own := false, resume := false })).quenchStop n 0 := by
  have hrun' (f : Quench → Quench) : (s.modQuench n f).running n = s.running n := rfl
  obtain h | h := h <;> simp [State.quenchStart, hrun', h]

end QuenchStart

/-- Settles O31: HST_QUENCH stores nothing and acts by the quench as it stands. -/
theorem quenches : Obligations.Quenches := by
  intro p n ns s hon
  refine ⟨fun hopen => ?_, fun h1 h2 => ?_, fun h => ?_⟩
  · have hq := State.quiet_opens hopen
    have hquench {g : State → State} (h : s.quiet.quenchStart n false = g s.quiet) : Completes (.quench p n) s g :=
      run_completes (f := State.writeTo p (.hub (0x2100 + 0x1000 * n.val)) 1#32) rfl hon ((State.writeTo_quench hq).trans h)
    have hresume {g : State → State} (h : s.quiet.quenchResume n = g s.quiet) : Completes (.resume p n) s g :=
      run_completes (f := State.writeTo p (.hub (0x2100 + 0x1000 * n.val)) 2#32) rfl hon ((State.writeTo_resume hq).trans h)
    have hof : s.quiet.quenchOf n = s.quenchOf n := rfl
    refine ⟨fun h1 h2 => ?_, fun h => ?_, fun h => ?_, fun h1 h2 => ?_, fun h1 h2 => ?_⟩
    · exact hquench (State.quenchStart_begins (s := s.quiet) h1 h2)
    · exact hquench (State.quenchStart_stops (s := s.quiet) h)
    · exact hresume (by simp [State.quenchResume, hof, h])
    · exact hresume (by simp [State.quenchResume, hof, h1, h2])
    · exact hresume (by simp [State.quenchResume, hof, h1, h2])
  · have hof : s.quiet.quenchOf n = s.quenchOf n := rfl
    exact run_completes (f := opQuenchDone n ns) rfl hon (by simp [opQuenchDone, hof, h1, h2])
  · have hof : s.quiet.quenchOf n = s.quenchOf n := rfl
    exact run_idle (f := opQuenchDone n ns) rfl hon (by simp [opQuenchDone, hof, h])

end Sys2Proof.Machine

/-! The management bus (05_host_port.md, R129 to R135): requests, responses and common command codes. -/

namespace Sys2Proof.Machine

@[simp] theorem State.quiet_mgtUp (s : State) : s.quiet.mgtUp = s.mgtUp := rfl
@[simp] theorem State.quiet_mgtOk (s : State) (op : Nat) (q : MgtReq) : s.quiet.mgtOk op q = s.mgtOk op q := rfl

/-! ### How a request is taken (R133, R134) -/

section Request

variable {s : State} {op : Nat} {q : MgtReq}

/-- The bus takes a request of opcode `op`: GET_STATUS is answered under TEST_MODE too (R57). -/
def State.mgtHears (s : State) (op : Nat) : Prop := s.mgtUp = true ∧ (s.ump.straps.test = true → op = 0x10)

theorem State.mgtHears.gate (h : s.mgtHears op) : (!s.mgtUp || (s.ump.straps.test && op != 0x10)) = false := by
  obtain ⟨hup, htest⟩ := h
  cases ht : s.ump.straps.test <;> simp_all

theorem State.mgtFree.hears (h : s.mgtFree) : s.mgtHears op := by
  obtain ⟨-, hup, htest, -⟩ := h
  exact ⟨hup, by simp [htest]⟩

variable {f : State → State}

theorem State.mgtRequest_taken (hears : s.mgtHears op) (hpend : s.ump.mgt.pending = none) (hok : s.mgtOk op q = true) :
    s.mgtRequest op q f = f (s.taken op q) := by
  simp only [State.mgtRequest, hears.gate, Bool.false_eq_true, if_false, hok, Bool.not_true, hpend, Option.isSome_none]
  rfl

theorem State.mgtRequest_broken (hears : s.mgtHears op) (hok : s.mgtOk op q = false) :
    s.mgtRequest op q f = s.hubErr .mgt codeINPUT 0 6 := by
  simp only [State.mgtRequest, hears.gate, Bool.false_eq_true, if_false, hok, Bool.not_false, if_true]

theorem State.mgtRequest_busy (hears : s.mgtHears op) (hpend : s.ump.mgt.pending.isSome = true) (hok : s.mgtOk op q = true) :
    s.mgtRequest op q f = (s.hubErr .mgt codeBUSY 0 6).post 0x0008 .mgt op 0 := by
  simp only [State.mgtRequest, hears.gate, Bool.false_eq_true, if_false, hok, Bool.not_true, hpend, if_true]

/-- Without its bank, or under TEST_MODE, the target hears nothing but what R57 names. -/
theorem State.mgtRequest_unheard (h : s.mgtUp = false ∨ s.ump.straps.test = true ∧ op ≠ 0x10) : s.mgtRequest op q f = s := by
  obtain h | ⟨htest, hop⟩ := h
  · simp [State.mgtRequest, h]
  · simp [State.mgtRequest, htest, hop]

variable {len : Nat} {ok : List Nat → Bool} {g : List Nat → State → State} {a : List Nat}

theorem State.mgtCommand_taken (hears : s.mgtHears op) (hpend : s.ump.mgt.pending = none) (hok : s.mgtOk op q = true)
    (ha : reqArgs q = a) (hlen : a.length = len) (hin : ok a = true) :
    s.mgtCommand op q len ok g = g a (s.taken op q) := by
  rw [State.mgtCommand, State.mgtRequest_taken hears hpend hok, ha, if_neg (by simpa using hlen), if_neg (by simp [hin])]

theorem State.mgtCommand_badLength (hears : s.mgtHears op) (hpend : s.ump.mgt.pending = none) (hok : s.mgtOk op q = true)
    (hlen : (reqArgs q).length ≠ len) : s.mgtCommand op q len ok g = (s.taken op q).respond stBAD_LENGTH [] := by
  rw [State.mgtCommand, State.mgtRequest_taken hears hpend hok, if_pos hlen]

theorem State.mgtCommand_badArg (hears : s.mgtHears op) (hpend : s.ump.mgt.pending = none) (hok : s.mgtOk op q = true)
    (hlen : (reqArgs q).length = len) (hin : ok (reqArgs q) = false) :
    s.mgtCommand op q len ok g = (s.taken op q).respond stBAD_ARG [] := by
  rw [State.mgtCommand, State.mgtRequest_taken hears hpend hok, if_neg (by simpa using hlen), if_pos (by simp [hin])]

/-- A request of a bus that is free completes as its opcode's part does it. -/
theorem mgtCommand_completes {c : Instr} (hc : exec c s = run (State.mgtCommand op q len ok g) s) (hfree : s.mgtFree)
    (hok : s.mgtOk op q = true) (ha : reqArgs q = a) (hlen : a.length = len) (hin : ok a = true) {e : State → State}
    (h : g a (s.quiet.taken op q) = e s.quiet) : Completes c s e := by
  obtain ⟨hon, -, -, hpend⟩ := id hfree
  exact run_completes hc hon
    ((State.mgtCommand_taken (s := s.quiet) hfree.hears hpend (by simpa using hok) ha hlen hin).trans h)

end Request

/-! ### Arguments -/

theorem argWord_wordBytes {o : Nat} (h : o < 2 ^ 32) (l : List Nat) : argWord (wordBytes 4 o ++ l) 0 = o := by
  simp [argWord, wordOfNats, wordBytes, bytesLE]
  omega

theorem argWord_wordBytes_snd (o : Nat) (v : Word) : argWord (wordBytes 4 o ++ wordBytes 4 v.toNat) 4 = v.toNat := by
  have := v.isLt
  simp [argWord, wordOfNats, wordBytes, bytesLE]
  omega

@[simp] theorem length_wordBytes (n v : Nat) : (wordBytes n v).length = n := by simp [wordBytes]

theorem bar0Ok_wordBytes {o : Nat} (h : o < 0x04000000) (halign : o % 4 = 0) (l : List Nat) :
    bar0Ok (wordBytes 4 o ++ l) = true := by
  simp [bar0Ok, argWord_wordBytes (show o < 2 ^ 32 by omega), h, halign]

theorem unitOk_cons (n : Fin 5) (l : List Nat) : unitOk (n.val :: l) = true := by
  have := n.isLt
  simp only [unitOk, argAt, List.getD_cons_zero, decide_eq_true_eq]
  omega

theorem State.mgtFree.arrives {s : State} (h : s.mgtFree) : s.arrives .mgt = s.hub.ready := by
  obtain ⟨-, hup, -, -⟩ := h
  have hbank : s.ump.banks.getD 0 true = true := (Bool.and_eq_true_iff.mp hup).2
  simp only [State.arrives, hbank, Bool.and_true]

/-! ### Requests that read -/

section Card

variable {s : State} {n w k : Nat}

theorem State.mgtReadCard_first : s.mgtReadCard [n, w, 0] =
    (s.modMgt (fun m => { m with snap := some (n, w, s.cardOf n w) })).respond stOK
      ((cardChunk (s.cardOf n w) 0).map BitVec.toNat) := by
  simp [State.mgtReadCard, argAt, State.modMgt]

theorem State.mgtReadCard_next {card : Option Scorecard} (hk : 1 ≤ k) (h : s.ump.mgt.snap = some (n, w, card)) :
    s.mgtReadCard [n, w, k] = s.respond stOK ((cardChunk card k).map BitVec.toNat) := by
  simp [State.mgtReadCard, argAt, Nat.ne_of_gt hk, h]

theorem State.mgtReadCard_none (hk : 1 ≤ k) (h : s.ump.mgt.snap = none) :
    s.mgtReadCard [n, w, k] = s.respond stBAD_ARG [] := by
  simp [State.mgtReadCard, argAt, Nat.ne_of_gt hk, h]

end Card

theorem cardArgs_ok (n : Fin 5) {w k : Nat} (hw : w ≤ 1) (hk : k ≤ 127) :
    (unitOk [n.val, w, k] && decide (argAt [n.val, w, k] 1 ≤ 1) && decide (argAt [n.val, w, k] 2 ≤ 127)) = true := by
  simp [unitOk_cons, argAt, hw, hk]

theorem State.mgtRead32_ready {s : State} {a : List Nat} (h : s.arrives .mgt = true) : s.mgtRead32 a =
    let r := s.readAt .mgt (target .mgt (argWord a 0))
    r.2.respond stOK (wordBytes 4 r.1) := by
  simp [State.mgtRead32, h]

theorem State.mgtRead32_waits {s : State} {a : List Nat} (h : s.arrives .mgt = false) : s.mgtRead32 a = s := by
  simp [State.mgtRead32, h]

theorem State.arrives_taken (s : State) (op : Nat) (q : MgtReq) (p : Path) :
    (s.quiet.taken op q).arrives p = s.arrives p := by
  cases p <;> rfl

/-- Settles O32: each request is taken and answered with what its opcode reads. -/
theorem managementReads : Obligations.ManagementReads := by
  intro q s hfree
  refine ⟨fun hok ha => ?_, fun hok ha => ?_, fun n hok ha => ?_, fun a b hok ha hlt => ?_, fun n w hok hw ha => ?_,
    fun n w k card hok hw hk1 hk ha => ⟨fun hsnap => ?_, fun hsnap => ?_⟩, fun o hok ha ho halign => ?_⟩
  · exact mgtCommand_completes rfl hfree hok ha rfl rfl rfl
  · exact mgtCommand_completes rfl hfree hok ha rfl rfl rfl
  · exact mgtCommand_completes rfl hfree hok ha rfl (unitOk_cons n []) rfl
  · exact mgtCommand_completes rfl hfree hok ha rfl (by simpa [argAt] using hlt) rfl
  · exact mgtCommand_completes rfl hfree hok ha rfl (cardArgs_ok n hw (by decide)) State.mgtReadCard_first
  · exact mgtCommand_completes rfl hfree hok ha rfl (cardArgs_ok n hw hk)
      (State.mgtReadCard_next (s := s.quiet.taken 0x12 q) hk1 hsnap)
  · exact mgtCommand_completes rfl hfree hok ha rfl (cardArgs_ok n hw hk)
      (State.mgtReadCard_none (s := s.quiet.taken 0x12 q) hk1 hsnap)
  · have harg : argWord (wordBytes 4 o) 0 = o := by
      simpa using argWord_wordBytes (show o < 2 ^ 32 by omega) []
    have hin : bar0Ok (wordBytes 4 o) = true := by simpa using bar0Ok_wordBytes ho halign []
    have harr := (State.arrives_taken s 0x01 q .mgt).trans hfree.arrives
    refine ⟨fun hready => ?_, fun hready => ?_⟩
    · refine mgtCommand_completes rfl hfree hok ha (length_wordBytes 4 o) hin ?_
      rw [State.mgtRead32_ready (harr.trans hready), harg]
    · exact mgtCommand_completes rfl hfree hok ha (length_wordBytes 4 o) hin (State.mgtRead32_waits (harr.trans hready))

/-! ### Requests that act -/

section Acts

variable {s : State} {a : List Nat}

theorem State.mgtWrite32_ready (h : s.arrives .mgt = true) : s.mgtWrite32 a =
    let t := s.writeAt .mgt (target .mgt (argWord a 0)) (BitVec.ofNat 32 (argWord a 4)) 15#4
    t.respond stOK (wordBytes 2 (t.codeAt (argWord a 0))) := by
  simp [State.mgtWrite32, h]

theorem State.mgtWrite32_waits (h : s.arrives .mgt = false) : s.mgtWrite32 a = s := by
  simp [State.mgtWrite32, h]

variable {n req keep : Nat}

theorem State.mgtSetPower_accept (h : s.requestCode n req keep = 0) : s.mgtSetPower [n, req, keep] =
    ((s.setUnitCtl n req keep).request n req keep).respond stOK [] := by
  simp [State.mgtSetPower, argAt, h]

theorem State.mgtSetPower_refuse (h : s.requestCode n req keep ≠ 0) : s.mgtSetPower [n, req, keep] =
    s.mgtDiscard (s.requestCode n req keep) (0x40110 + 4 * n) n := by
  simp [State.mgtSetPower, argAt, h]

theorem State.mgtResetUnit_accept (h : s.requestCode n 3 (s.uget (Reg.SUP_UNIT_CTL_KEEP n)) = 0) : s.mgtResetUnit [n] =
    ((s.setUnitCtl n 3 (s.uget (Reg.SUP_UNIT_CTL_KEEP n))).request n 4
      (s.uget (Reg.SUP_UNIT_CTL_KEEP n))).respond stOK [] := by
  simp [State.mgtResetUnit, argAt, h]

theorem State.mgtResetUnit_refuse (h : s.requestCode n 3 (s.uget (Reg.SUP_UNIT_CTL_KEEP n)) ≠ 0) : s.mgtResetUnit [n] =
    s.mgtDiscard (s.requestCode n 3 (s.uget (Reg.SUP_UNIT_CTL_KEEP n))) (0x40110 + 4 * n) n := by
  simp [State.mgtResetUnit, argAt, h]

theorem State.mgtSubstitute_accept (h : s.goCode n = 0) : s.mgtSubstitute [n] = (s.declare n 1).respond stOK [] := by
  simp [State.mgtSubstitute, argAt, h]

theorem State.mgtSubstitute_refuse (h : s.goCode n ≠ 0) : s.mgtSubstitute [n] =
    (s.modSubst (fun y => { y with trigger := 1 })).mgtDiscard (s.goCode n) 0x43108 n := by
  simp [State.mgtSubstitute, argAt, h]

theorem State.mgtMask_ready {m : Nat} {f : Nat → State → State} (h : s.hub.ready = true) : s.mgtMask f [m] =
    (forN 5 (fun k t => if bitAt m k then f k t else t) s).respond stOK [] := by
  simp [State.mgtMask, argAt, h]

end Acts

/-- Settles O33: each request is taken and does what its opcode does, or is refused by the code of its check. -/
theorem managementWrites : Obligations.ManagementWrites := by
  intro q n s hfree
  refine ⟨fun o v hok ha ho halign => ?_, fun req keep hok ha hreq => ⟨fun hcode => ?_, fun hcode => ?_⟩,
    fun hok ha => ⟨fun hcode => ?_, fun hcode => ?_⟩, fun hok ha => ⟨fun hcode => ?_, fun hcode => ?_⟩,
    fun hok => ⟨fun ha => ?_, fun ha => ?_⟩, fun m ha hm hready => ⟨fun hok => ?_, fun hok => ?_⟩, fun m hok ha hm => ?_⟩
  · have harg : argWord (wordBytes 4 o ++ wordBytes 4 v.toNat) 0 = o := argWord_wordBytes (by omega) _
    have hlen : (wordBytes 4 o ++ wordBytes 4 v.toNat).length = 8 := by simp
    have hin := bar0Ok_wordBytes ho halign (wordBytes 4 v.toNat)
    have harr := (State.arrives_taken s 0x02 q .mgt).trans hfree.arrives
    refine ⟨fun hready => ?_, fun hready => ?_⟩
    · refine mgtCommand_completes rfl hfree hok ha hlen hin ?_
      rw [State.mgtWrite32_ready (harr.trans hready), harg, argWord_wordBytes_snd, BitVec.ofNat_toNat, BitVec.setWidth_eq]
    · exact mgtCommand_completes rfl hfree hok ha hlen hin (State.mgtWrite32_waits (harr.trans hready))
  · exact mgtCommand_completes rfl hfree hok ha rfl (by simp [unitOk_cons, argAt, hreq])
      (State.mgtSetPower_accept (s := s.quiet.taken 0x20 q) hcode)
  · exact mgtCommand_completes rfl hfree hok ha rfl (by simp [unitOk_cons, argAt, hreq])
      (State.mgtSetPower_refuse (s := s.quiet.taken 0x20 q) hcode)
  · exact mgtCommand_completes rfl hfree hok ha rfl (unitOk_cons n [])
      (State.mgtResetUnit_accept (s := s.quiet.taken 0x21 q) hcode)
  · exact mgtCommand_completes rfl hfree hok ha rfl (unitOk_cons n [])
      (State.mgtResetUnit_refuse (s := s.quiet.taken 0x21 q) hcode)
  · exact mgtCommand_completes rfl hfree hok ha rfl (unitOk_cons n [])
      (State.mgtSubstitute_accept (s := s.quiet.taken 0x22 q) hcode)
  · exact mgtCommand_completes rfl hfree hok ha rfl (unitOk_cons n [])
      (State.mgtSubstitute_refuse (s := s.quiet.taken 0x22 q) hcode)
  · refine mgtCommand_completes rfl hfree hok ha rfl (by simp [unitOk_cons]) ?_
    have hne : n.val ≠ 0x0F := by omega
    simp only [argAt, List.getD_cons_zero, hne, if_false]
  · exact mgtCommand_completes rfl hfree hok ha rfl (by decide) (by simp [argAt])
  · exact mgtCommand_completes rfl hfree hok ha rfl (by simpa [argAt] using hm)
      (State.mgtMask_ready (s := s.quiet.taken 0x24 q) hready)
  · exact mgtCommand_completes rfl hfree hok ha rfl (by simpa [argAt] using hm)
      (State.mgtMask_ready (s := s.quiet.taken 0x25 q) hready)
  · exact mgtCommand_completes rfl hfree hok ha rfl (by simpa [argAt] using hm) (by simp [argAt])

end Sys2Proof.Machine

/-! The management bus (05_host_port.md, R57, R129 to R133): what is rejected, the response, and the common command codes. -/

namespace Sys2Proof.Machine

/-! ### The response -/

section Response

variable {s : State}

/-- The response as it goes out: with its CRC-8, or in SMBus mode as a block with its PEC (R132, R133). -/
def Mgt.framed (m : Mgt) (smbus : Bool) (r : MgtResp) : List Byte :=
  let body : List Byte := [BitVec.ofNat 8 r.tag, BitVec.ofNat 8 r.status, BitVec.ofNat 8 r.data.length] ++
    r.data.map (BitVec.ofNat 8)
  let addr := 2 * m.static
  if smbus then
    let block := BitVec.ofNat 8 body.length :: body
    block ++ [BitVec.ofNat 8 (crc8 ([BitVec.ofNat 8 addr, 0xFF#8, BitVec.ofNat 8 (addr + 1)] ++ block))]
  else body ++ [BitVec.ofNat 8 (crc8 body)]

theorem State.mgtRead_down (h : s.mgtUp = false) : s.mgtRead = s := by
  simp [State.mgtRead, h]

variable (hup : s.mgtUp = true)
include hup

theorem State.mgtRead_pending {op tag : Nat} (h : s.ump.mgt.pending = some (op, tag)) :
    s.mgtRead = s.put (.mgt (s.ump.mgt.framed s.ump.mgt.smbus { tag := tag, status := 1 })) := by
  simp only [State.mgtRead, hup, Bool.not_true, Bool.false_eq_true, if_false, h]
  cases s.ump.mgt.mode <;> rfl

theorem State.mgtRead_complete (h : s.ump.mgt.pending = none) (hm : s.ump.mgt.mode = none) :
    s.mgtRead = s.put (.mgt (s.ump.mgt.framed s.ump.mgt.smbus s.ump.mgt.resp)) := by
  simp only [State.mgtRead, hup, Bool.not_true, Bool.false_eq_true, if_false, h, hm]
  rfl

theorem State.mgtRead_mode {b : Bool} (h : s.ump.mgt.pending = none) (hm : s.ump.mgt.mode = some b) : s.mgtRead =
    (s.put (.mgt (s.ump.mgt.framed s.ump.mgt.smbus s.ump.mgt.resp))).modMgt (fun m => { m with smbus := b, mode := none }) := by
  simp only [State.mgtRead, hup, Bool.not_true, Bool.false_eq_true, if_false, h, hm]
  rfl

end Response

theorem setPowerArgs_bad {a b c : Nat} (h : 4 < a ∨ 3 < b) : (unitOk [a, b, c] && decide (argAt [a, b, c] 1 ≤ 3)) = false := by
  have hnot : ¬ (a ≤ 4 ∧ b ≤ 3) := by omega
  simpa [unitOk, argAt] using hnot

/-- Settles O34: `mgtRequest` discards what it cannot take; the response is framed by the mode of the bus. -/
theorem managementRejects : Obligations.ManagementRejects := by
  refine ⟨fun q s hon hup => ⟨fun htest => ?_, fun hfree hok => ?_, fun op hfree hok hop hun => ?_, fun htest => ?_⟩,
    fun q s hon hup => ?_, fun s hon hup => ?_⟩
  · have hears (op : Nat) : s.quiet.mgtHears op := ⟨hup, by simp [htest]⟩
    refine ⟨fun hok => ?_, fun hok => ?_, fun hok hpend => ?_⟩
    · exact run_completes (f := State.mgtCommand 0x11 q 2 (fun a => decide (argAt a 0 + 256 * argAt a 1 < 1024))
        State.mgtReadLog) rfl hon (State.mgtRequest_broken (hears _) hok)
    · exact run_completes (f := State.mgtCommand 0x20 q 3 (fun a => unitOk a && decide (argAt a 1 ≤ 3))
        State.mgtSetPower) rfl hon (State.mgtRequest_broken (hears _) hok)
    · exact run_completes (f := State.mgtCommand 0x20 q 3 (fun a => unitOk a && decide (argAt a 1 ≤ 3))
        State.mgtSetPower) rfl hon (State.mgtRequest_busy (hears _) hpend hok)
  · obtain ⟨-, -, -, hpend⟩ := id hfree
    refine ⟨fun hlen => ?_, fun a b c ha hbad => ?_⟩
    · exact run_completes (f := State.mgtCommand 0x20 q 3 (fun a => unitOk a && decide (argAt a 1 ≤ 3))
        State.mgtSetPower) rfl hon (State.mgtCommand_badLength (s := s.quiet) hfree.hears hpend hok hlen)
    · exact run_completes (f := State.mgtCommand 0x20 q 3 (fun a => unitOk a && decide (argAt a 1 ≤ 3))
        State.mgtSetPower) rfl hon (State.mgtCommand_badArg (s := s.quiet) hfree.hears hpend hok (by rw [ha]; rfl)
          (by rw [ha]; exact setPowerArgs_bad hbad))
  · obtain ⟨-, -, -, hpend⟩ := id hfree
    refine run_completes (f := fun s => if unknownOp op then s.mgtRequest (op % 256) q (fun s => s.respond stBAD_OPCODE [])
      else s) rfl hon ?_
    rw [if_pos hun, Nat.mod_eq_of_lt hop]
    exact State.mgtRequest_taken (s := s.quiet) hfree.hears hpend hok
  · refine ⟨?_, ?_, fun hok ha hpend => ?_⟩
    · exact run_idle (f := State.mgtCommand 0x20 q 3 (fun a => unitOk a && decide (argAt a 1 ≤ 3)) State.mgtSetPower) rfl hon
        (State.mgtRequest_unheard (s := s.quiet) (.inr ⟨htest, by decide⟩))
    · exact run_idle (f := State.mgtCommand 0x02 q 8 bar0Ok State.mgtWrite32) rfl hon
        (State.mgtRequest_unheard (s := s.quiet) (.inr ⟨htest, by decide⟩))
    · exact run_completes (f := State.mgtCommand 0x10 q 0 anyArg (fun _ s => s.respond stOK s.summary)) rfl hon
        (State.mgtCommand_taken (s := s.quiet) ⟨hup, fun _ => rfl⟩ hpend hok ha rfl rfl)
  · refine ⟨?_, ?_, ?_⟩
    · exact run_idle (f := State.mgtCommand 0x10 q 0 anyArg (fun _ s => s.respond stOK s.summary)) rfl hon
        (State.mgtRequest_unheard (s := s.quiet) (.inl hup))
    · exact run_idle (f := State.mgtCommand 0x20 q 3 (fun a => unitOk a && decide (argAt a 1 ≤ 3)) State.mgtSetPower) rfl hon
        (State.mgtRequest_unheard (s := s.quiet) (.inl hup))
    · exact run_idle (f := State.mgtRead) rfl hon (State.mgtRead_down (s := s.quiet) hup)
  · refine ⟨fun h hm => ?_, fun op tag h => ?_, fun b h hm => ?_, fun h => ?_, fun h => ?_, fun h1 h2 h3 => ?_, fun h => ?_, ?_⟩
    · exact run_completes (f := State.mgtRead) rfl hon (State.mgtRead_complete (s := s.quiet) hup h hm)
    · exact run_completes (f := State.mgtRead) rfl hon (State.mgtRead_pending (s := s.quiet) hup h)
    · exact run_completes (f := State.mgtRead) rfl hon (State.mgtRead_mode (s := s.quiet) hup h hm)
    · exact run_completes (f := State.mgtTimeout) rfl hon (by simp [State.mgtTimeout, hup, h])
    · exact run_idle (f := State.mgtTimeout) rfl hon (by simp [State.mgtTimeout, h])
    · exact run_completes (f := State.alertRead) rfl hon (by simp [State.alertRead, hup, h1, h2, h3, alertAddress])
    · refine run_idle (f := State.alertRead) rfl hon ?_
      obtain h | h | h := h <;> simp [State.alertRead, h]
    · exact run_idle (f := opSmbusTimeout) rfl hon rfl

/-! ### Common command codes (R129) -/

section Ccc

variable {s : State}

theorem State.ccc_i3c {f : State → State} (hup : s.mgtUp = true) (hmode : s.ump.mgt.smbus = false) : s.ccc f = f s := by
  simp [State.ccc, hup, hmode]

theorem State.ccc_smbus {f : State → State} (hmode : s.ump.mgt.smbus = true) : s.ccc f = s := by
  simp [State.ccc, hmode]

theorem State.cccGet_smbus {v : Nat} (hmode : s.ump.mgt.smbus = true) : s.cccGet v = s := by
  simp [State.cccGet, State.cccRead, State.ccc_smbus hmode]

theorem State.cccGet_test {v : Nat} (htest : s.ump.straps.test = true) : s.cccGet v = s := by
  simp [State.cccGet, htest]

theorem State.cccRead_addressed {v : Nat} (hup : s.mgtUp = true) (hmode : s.ump.mgt.smbus = false)
    (hdyn : s.ump.mgt.dyn.isSome = true) : s.cccRead v = s.put (.mgtValue v) := by
  rw [State.cccRead, State.ccc_i3c hup hmode, if_pos hdyn]

theorem State.cccGet_addressed {v : Nat} (hup : s.mgtUp = true) (hmode : s.ump.mgt.smbus = false)
    (htest : s.ump.straps.test = false) (hdyn : s.ump.mgt.dyn.isSome = true) : s.cccGet v = s.put (.mgtValue v) := by
  simp only [State.cccGet, htest, Bool.false_eq_true, if_false, State.cccRead_addressed hup hmode hdyn]

theorem State.cccGet_unaddressed {v : Nat} (hdyn : s.ump.mgt.dyn = none) : s.cccGet v = s := by
  simp [State.cccGet, State.cccRead, State.ccc, hdyn]

theorem State.assign_first {addr : Nat} (hup : s.mgtUp = true) (hmode : s.ump.mgt.smbus = false)
    (hdyn : s.ump.mgt.dyn = none) : s.assign addr = s.modMgt (fun m => { m with dyn := some (addr % 128) }) := by
  simp [State.assign, State.ccc_i3c hup hmode, hdyn]

theorem State.assign_again {addr : Nat} (hdyn : s.ump.mgt.dyn.isSome = true) : s.assign addr = s := by
  obtain ⟨a, ha⟩ := Option.isSome_iff_exists.mp hdyn
  simp [State.assign, State.ccc, ha]

end Ccc

/-- Settles O35: a code acts in I3C mode alone, a GET for a target with an address. -/
theorem commonCommandCodes : Obligations.CommonCommandCodes := by
  intro b k s hon
  refine ⟨fun hup hmode => ⟨?_, ?_, ?_, ?_, ?_, ?_, fun hdyn => ⟨?_, ?_, ?_⟩,
    fun hdyn => ⟨?_, ?_, fun htest => ⟨?_, ?_, ?_, ?_⟩, fun htest => ⟨?_, ?_, ?_, ?_⟩, ?_⟩⟩,
    fun hmode => ⟨?_, ?_, ?_, ?_, ?_, ?_, ?_, ?_, ?_, ?_, ?_, ?_⟩⟩
  iterate 6 exact run_completes rfl hon (State.ccc_i3c (s := s.quiet) hup hmode)
  · exact run_completes (f := State.assign k) rfl hon (State.assign_first (s := s.quiet) hup hmode hdyn)
  · exact run_completes (f := State.assign k) rfl hon (State.assign_first (s := s.quiet) hup hmode hdyn)
  · exact run_idle rfl hon (State.cccGet_unaddressed (s := s.quiet) hdyn)
  · exact run_idle (f := State.assign k) rfl hon (State.assign_again (s := s.quiet) hdyn)
  · exact run_idle (f := State.assign k) rfl hon (State.assign_again (s := s.quiet) hdyn)
  iterate 4 exact run_completes rfl hon (State.cccGet_addressed (s := s.quiet) hup hmode htest hdyn)
  iterate 4 exact run_idle rfl hon (State.cccGet_test (s := s.quiet) htest)
  · refine run_completes (f := fun s => (s.cccRead (s.freeNat % 2 ^ 16)).draw) rfl hon ?_
    exact congrArg State.draw (State.cccRead_addressed (s := s.quiet) hup hmode hdyn)
  iterate 8 exact run_idle rfl hon (State.ccc_smbus (s := s.quiet) hmode)
  iterate 4 exact run_idle rfl hon (State.cccGet_smbus (s := s.quiet) hmode)

end Sys2Proof.Machine

/-! Receiving lanes (14_serial_lanes.md, R363, R373 to R377): bring-up, timeouts, losses and markers. -/

namespace Sys2Proof.Machine

/-! ### Steps 1 to 4 -/

/-- Receiving lane `k` is powered and stands at step `v`. -/
def Chan.atStep (c : Chan) (k v : Nat) : Prop := isRx k = true ∧ laneOn c k = true ∧ laneStep c k = v

section Steps

variable {c : Chan} {k : Nat}

theorem opLaneSignal_at (h : c.atStep k 1) :
    opLaneSignal k c = setStep (c.modLane (laneIx k) (fun l => { l with signal := true })) k 2 := if_pos h

theorem opLaneSignal_elsewhere (h : ¬ c.atStep k 1) : opLaneSignal k c = c := if_neg h

theorem opCdrLock_at (h : c.atStep k 2) : opCdrLock k c = setStep (lrefBack c) k 3 := if_pos h

theorem opCdrLock_elsewhere (h : ¬ c.atStep k 2) : opCdrLock k c = c := if_neg h

theorem opCommaAlign_at (h : c.atStep k 3) :
    opCommaAlign k c = setInv (setStep c k 4) k (if lanePolfix c k = 2 then 1 else 0) := if_pos h

theorem opCommaAlign_elsewhere (h : ¬ c.atStep k 3) : opCommaAlign k c = c := if_neg h

theorem opPolarityPass_on (h : c.atStep k 4) (hk : k ≠ 20 ∨ c.flag Reg.LNK_TCFG_AN = true) :
    opPolarityPass k c = setStep c k 5 := by
  refine (if_pos h).trans ?_
  by_cases hT : k = 20
  · rw [if_pos hT, if_pos (hk.resolve_left (not_not_intro hT))]
  · rw [if_neg hT]

theorem opPolarityPass_link (h : c.atStep k 4) (hk : k = 20) (han : c.flag Reg.LNK_TCFG_AN = false) :
    opPolarityPass k c = tLinkUp c := by
  refine (if_pos h).trans ?_
  rw [if_pos hk, han]
  rfl

theorem opPolarityPass_elsewhere (h : ¬ c.atStep k 4) : opPolarityPass k c = c := if_neg h

theorem opPolarityInvert_due (h : c.atStep k 4) (hfix : lanePolfix c k = 0)
    (hdue : 2 * (c.lane (laneIx k)).start + (c.lane (laneIx k)).limit ≤ 2 * c.tim.age) :
    opPolarityInvert k c = setInv c k 1 := by
  obtain ⟨hrx, hon, hstep⟩ := h
  exact if_pos ⟨hrx, hon, hstep, hfix, hdue⟩

theorem opPolarityInvert_not (h : ¬ c.atStep k 4 ∨ lanePolfix c k ≠ 0 ∨
    2 * c.tim.age < 2 * (c.lane (laneIx k)).start + (c.lane (laneIx k)).limit) : opPolarityInvert k c = c := by
  refine if_neg ?_
  rintro ⟨hrx, hon, hstep, hfix, hdue⟩
  obtain h | h | h := h
  · exact h ⟨hrx, hon, hstep⟩
  · exact h hfix
  · omega

end Steps

/-! ### Steps of a group -/

section Group

variable {c : Chan} {g : Nat}

theorem opLaneUp_not {skews : List Nat}
    (h : groupAll c g (fun k => laneStep c k == 6) = false ∨ ∃ x ∈ skews, 96 < x) : opLaneUp g skews c = c := by
  refine if_neg ?_
  rintro ⟨hall, hskews⟩
  obtain h | ⟨x, hx, hbig⟩ := h
  · simp [hall] at h
  · have := List.all_eq_true.mp hskews x hx
    simp only [decide_eq_true_eq] at this
    omega

theorem opAlignLost_not (h : groupUp c g = false ∨ (groupLanes c g).any (fun k => (c.lane k).lost) = false) :
    opAlignLost g c = c := by
  refine if_neg ?_
  rintro ⟨hup, hlost⟩
  obtain h | h := h
  · exact absurd (hup.symm.trans h) (by decide)
  · exact absurd (hlost.symm.trans h) (by decide)

end Group

/-- Settles O46: each event acts in the step that it ends, and nowhere else. -/
theorem laneBringUp : Obligations.LaneBringUp := by
  refine ⟨fun n k s hl => ⟨fun h => ?_, fun h => ?_, fun h => ?_, fun h hk => ?_, fun h hk han => ?_,
    ⟨fun h hfix hdue => ?_, fun h => ?_⟩, fun h => ?_, fun h => ?_, fun h => ?_, fun h => ?_⟩,
    fun n g s hl => ⟨fun rev => ⟨fun h => ?_, fun h => ?_⟩, fun skews => ⟨fun h hskews => ?_, fun h => ?_⟩,
      fun hup hlost => ?_, fun h => ?_⟩⟩
  · exact unitOp_completes (f := opLaneSignal k) rfl hl (opLaneSignal_at h)
  · exact unitOp_completes (f := opCdrLock k) rfl hl (opCdrLock_at h)
  · exact unitOp_completes (f := opCommaAlign k) rfl hl (opCommaAlign_at h)
  · exact unitOp_completes (f := opPolarityPass k) rfl hl (opPolarityPass_on h hk)
  · exact unitOp_completes (f := opPolarityPass k) rfl hl (opPolarityPass_link h hk han)
  · exact unitOp_completes (f := opPolarityInvert k) rfl hl (opPolarityInvert_due h hfix hdue)
  · exact unitOp_completes (f := opPolarityInvert k) rfl hl (opPolarityInvert_not h)
  · exact unitOp_completes (f := opLaneSignal k) rfl hl (opLaneSignal_elsewhere h)
  · exact unitOp_completes (f := opCdrLock k) rfl hl (opCdrLock_elsewhere h)
  · exact unitOp_completes (f := opCommaAlign k) rfl hl (opCommaAlign_elsewhere h)
  · exact unitOp_completes (f := opPolarityPass k) rfl hl (opPolarityPass_elsewhere h)
  · exact unitOp_completes (f := opLaneOrder g rev) rfl hl (if_pos h)
  · exact unitOp_completes (f := opLaneOrder g rev) rfl hl (if_neg (Bool.eq_false_iff.mp h))
  · exact unitOp_completes (f := opLaneUp g skews) rfl hl (if_pos ⟨h, by simpa using hskews⟩)
  · exact unitOp_completes (f := opLaneUp g skews) rfl hl (opLaneUp_not h)
  · exact unitOp_completes (f := opAlignLost g) rfl hl (if_pos ⟨hup, hlost⟩)
  · exact unitOp_completes (f := opAlignLost g) rfl hl (opAlignLost_not h)

/-! ### Timeouts of the steps -/

/-- The timeout of the step at which receiving lane `k` stands has come. -/
def Chan.stepOver (c : Chan) (k : Nat) : Prop := isRx k = true ∧ laneOn c k = true ∧ stepDue c k ≤ c.tim.age

section Timeout

variable {c : Chan} {k : Nat}

theorem laneTimeout_eq (c : Chan) (k v : Nat) : laneTimeout c k v = if k = 20 then laneBack c k v
    else ((laneBack c k v).bump (Reg.LNK_PERR_RESTART k)).set (Reg.LNK_PSTAT_FAIL k) (laneStep c k) := rfl

section Over

variable (h : c.stepOver k)
include h

theorem opBringupTimeout_cdr (hv : laneStep c k = 2) (hl : c.tim.lref = true) :
    opBringupTimeout k c = laneTimeout c k 1 := by
  refine (if_pos h).trans ?_
  simp only [hv, hl, if_true]

theorem opBringupTimeout_comma (hv : laneStep c k = 3) : opBringupTimeout k c = laneTimeout c k 2 := by
  refine (if_pos h).trans ?_
  simp only [hv]

theorem opBringupTimeout_polarity (hv : laneStep c k = 4) : opBringupTimeout k c = laneTimeout c k 3 := by
  refine (if_pos h).trans ?_
  simp only [hv]

theorem opBringupTimeout_group {v : Nat} (hk : k ≠ 20) (h56 : v = 5 ∨ v = 6) (hv : laneStep c k = v)
    (hall : groupAll c (groupOf c k) (fun j => laneStep c j == v) = true) : opBringupTimeout k c =
      (groupLanes c (groupOf c k)).foldl (fun c j => laneTimeout c j 5) c := by
  refine (if_pos h).trans ?_
  obtain rfl | rfl := h56
  · simp only [hv, hk, if_false, hall, if_true]
  · simp only [hv, hall, if_true]

end Over

theorem opBringupTimeout_not (h : ¬ c.stepOver k ∨ laneStep c k < 2 ∨ laneStep c k = 7 ∨
    laneStep c k = 2 ∧ c.tim.lref = false) : opBringupTimeout k c = c := by
  by_cases hover : c.stepOver k
  · refine (if_pos hover).trans ?_
    obtain h | h | h | ⟨h, hl⟩ := h
    · exact absurd hover h
    · obtain h | h : laneStep c k = 0 ∨ laneStep c k = 1 := by omega
      · simp only [h]
      · simp only [h]
    · simp only [h]
    · simp only [h, hl, Bool.false_eq_true, if_false]
  · exact if_neg hover

end Timeout

/-! ### Losses -/

/-- What a lane's loss counts and marks before the lane goes back. -/
def lossNoted (k cause viol : Nat) (c : Chan) : Chan :=
  let c := if k < 16 then c.bump (Reg.LNK_PERR_CODE k) viol else c
  let c := if cause = 0 then c.modLane (laneIx k) (fun l => { l with signal := false }) else c
  if cause = 3 ∧ k < 16 then c.bump (Reg.LNK_PERR_MARKER k) else c

section Loss

variable {c : Chan} {k cause viol : Nat}

/-- The loss happens. -/
def Chan.loses (c : Chan) (k cause viol : Nat) : Prop :=
  isRx k = true ∧ laneOn c k = true ∧ 1 ≤ laneStep c k ∧ cause < 4 ∧ (cause = 2 ∧ k < 16 → 4 ≤ viol)

/-- The lane stands aligned in a group that is up. -/
def Chan.alignedAt (c : Chan) (k : Nat) : Prop :=
  (laneStep c k = 7 ∨ laneStep c k = 5) ∧ groupUp c (groupOf c k) = true

theorem opLaneLost_loses (h : c.loses k cause viol) : opLaneLost k cause viol c =
    (let d := lossNoted k cause viol c
    let back := if cause ≤ 1 then 1 else 3
    if k = 20 then laneBack d k (min back (laneStep d k))
    else if (laneStep d k = 7 ∨ laneStep d k = 5) ∧ groupUp d (groupOf d k) then laneLost d k back
    else if cause = 0 then laneBack d k 1
    else if laneStep d k = 6 ∨ laneStep d k = 5 then laneLost d k back
    else laneBack d k (min back (laneStep d k))) := if_pos h

theorem opLaneLost_not (h : ¬ c.loses k cause viol) : opLaneLost k cause viol c = c := if_neg h

variable (h : c.loses k cause viol)
include h

theorem opLaneLost_aligned (hk : k ≠ 20) (ha : (lossNoted k cause viol c).alignedAt k) : opLaneLost k cause viol c =
    laneLost (lossNoted k cause viol c) k (if cause ≤ 1 then 1 else 3) := by
  rw [opLaneLost_loses h]
  exact (if_neg hk).trans (if_pos ha)

theorem opLaneLost_signal (hk : k ≠ 20) (ha : ¬ (lossNoted k cause viol c).alignedAt k) (hc : cause = 0) :
    opLaneLost k cause viol c = laneBack (lossNoted k cause viol c) k 1 := by
  rw [opLaneLost_loses h]
  exact (if_neg hk).trans ((if_neg ha).trans (if_pos hc))

theorem opLaneLost_waiting (hk : k ≠ 20) (ha : ¬ (lossNoted k cause viol c).alignedAt k) (hc : cause ≠ 0)
    (h56 : laneStep (lossNoted k cause viol c) k = 5 ∨ laneStep (lossNoted k cause viol c) k = 6) :
    opLaneLost k cause viol c = laneLost (lossNoted k cause viol c) k (if cause ≤ 1 then 1 else 3) := by
  rw [opLaneLost_loses h]
  exact (if_neg hk).trans ((if_neg ha).trans ((if_neg hc).trans (if_pos h56.symm)))

theorem opLaneLost_early (hrest : k = 20 ∨ ¬ (lossNoted k cause viol c).alignedAt k ∧ cause ≠ 0 ∧
    laneStep (lossNoted k cause viol c) k ≠ 5 ∧ laneStep (lossNoted k cause viol c) k ≠ 6) : opLaneLost k cause viol c =
      laneBack (lossNoted k cause viol c) k
        (min (if cause ≤ 1 then 1 else 3) (laneStep (lossNoted k cause viol c) k)) := by
  rw [opLaneLost_loses h]
  by_cases hk : k = 20
  · exact if_pos hk
  · obtain ⟨ha, hc, h5, h6⟩ := hrest.resolve_left hk
    exact (if_neg hk).trans ((if_neg ha).trans ((if_neg hc).trans (if_neg (by omega))))

end Loss

/-! ### Markers -/

section Marker

variable {c : Chan} {k laneNo count check skew : Nat}

/-- CHECK is the complement of LANE and COUNT (R363). -/
theorem markerCheck_iff : ((markerSyms laneNo count).getLast? == some (Sym.data (BitVec.ofNat 8 check))) = true ↔
    check % 256 = 255 - ((BitVec.ofNat 8 laneNo) ^^^ (BitVec.ofNat 8 count)).toNat := by
  simp only [markerSyms, List.getLast?_cons_cons, List.getLast?_singleton, beq_iff_eq, Option.some.injEq, Sym.data.injEq]
  rw [← BitVec.toNat_inj, BitVec.toNat_not, BitVec.toNat_ofNat]
  exact eq_comm

/-- The marker heard is kept. -/
def markerHeard (k laneNo count : Nat) (c : Chan) : Chan :=
  c.modLane k (fun l => { l with count := some (count % 256), laneNo := some (laneNo % 256) })

/-- The place at which the lane's marker says that it stands (R363, R373). -/
def markerPlace (c : Chan) (k : Nat) : Nat :=
  let ls := groupLanes c (groupOf c k)
  if c.flag (Reg.LNK_PSTAT_REV k) then ls.length - 1 - ls.findIdx (· == k) else ls.findIdx (· == k)

/-- A marker keeps an aligned lane aligned (R376). -/
def markerHolds (c : Chan) (k laneNo count check skew : Nat) : Prop :=
  check % 256 = 255 - ((BitVec.ofNat 8 laneNo) ^^^ (BitVec.ofNat 8 count)).toNat ∧
    (c.lane k).count.all (fun m => decide (count % 256 = (m + 1) % 256)) = true ∧ laneNo % 256 = markerPlace c k ∧ skew ≤ 96

theorem opAlignmentMarker_early (h : laneStep c k < 3) : opAlignmentMarker k laneNo count check skew c = c :=
  if_neg (by omega)

variable (hk : k < 16) (hon : laneOn c k = true)
include hk hon

theorem opAlignmentMarker_aligned [Decidable (markerHolds c k laneNo count check skew)] (h7 : laneStep c k = 7) :
    opAlignmentMarker k laneNo count check skew c =
      if markerHolds c k laneNo count check skew then (markerHeard k laneNo count c).set (Reg.LNK_PSTAT_SKEW k) skew
      else laneLost (c.bump (Reg.LNK_PERR_MARKER k)) k 3 := by
  refine (if_pos ⟨hk, hon, by omega⟩).trans ((if_pos h7).trans ?_)
  refine if_congr ?_ rfl rfl
  rw [markerCheck_iff]
  cases hcount : (c.lane k).count <;> simp [markerHolds, hcount, markerPlace]

theorem opAlignmentMarker_other (h3 : 3 ≤ laneStep c k) (h7 : laneStep c k ≠ 7) :
    opAlignmentMarker k laneNo count check skew c =
      if check % 256 = 255 - ((BitVec.ofNat 8 laneNo) ^^^ (BitVec.ofNat 8 count)).toNat then markerHeard k laneNo count c
      else c := by
  refine (if_pos ⟨hk, hon, h3⟩).trans ((if_neg h7).trans ?_)
  exact if_congr markerCheck_iff rfl rfl

end Marker

/-- Settles O47: the timeout of each step, the branches of a loss in their order, and the conditions of a marker. -/
theorem laneLosses : Obligations.LaneLosses := by
  classical
  refine ⟨fun n k s hl => ⟨fun h hv hlref => ?_, fun h hv => ?_, fun h hv => ?_, fun v h hk h56 hv hall => ?_, fun h => ?_⟩,
    fun n k cause viol s hl => ⟨fun h hk ha => ?_, fun h hk ha hc => ?_, fun h hk ha hc h56 => ?_, fun h hrest => ?_,
      fun h => ?_⟩,
    fun n k laneNo count check skew s hl hk hon => ⟨fun h7 hh => ?_, fun h7 hh => ?_, fun h3 h7 hg => ?_, fun h => ?_⟩⟩
  · exact unitOp_completes (f := opBringupTimeout k) rfl hl (opBringupTimeout_cdr h hv hlref)
  · exact unitOp_completes (f := opBringupTimeout k) rfl hl (opBringupTimeout_comma h hv)
  · exact unitOp_completes (f := opBringupTimeout k) rfl hl (opBringupTimeout_polarity h hv)
  · exact unitOp_completes (f := opBringupTimeout k) rfl hl (opBringupTimeout_group h hk h56 hv hall)
  · exact unitOp_completes (f := opBringupTimeout k) rfl hl (opBringupTimeout_not h)
  · exact unitOp_completes (f := opLaneLost k cause viol) rfl hl (opLaneLost_aligned h hk ha)
  · exact unitOp_completes (f := opLaneLost k cause viol) rfl hl (opLaneLost_signal h hk ha hc)
  · exact unitOp_completes (f := opLaneLost k cause viol) rfl hl (opLaneLost_waiting h hk ha hc h56)
  · exact unitOp_completes (f := opLaneLost k cause viol) rfl hl (opLaneLost_early h hrest)
  · exact unitOp_completes (f := opLaneLost k cause viol) rfl hl (opLaneLost_not h)
  · exact unitOp_completes (f := opAlignmentMarker k laneNo count check skew) rfl hl
      ((opAlignmentMarker_aligned hk hon h7).trans (if_pos hh))
  · exact unitOp_completes (f := opAlignmentMarker k laneNo count check skew) rfl hl
      ((opAlignmentMarker_aligned hk hon h7).trans (if_neg hh))
  · exact unitOp_completes (f := opAlignmentMarker k laneNo count check skew) rfl hl
      ((opAlignmentMarker_other hk hon h3 h7).trans (if_pos hg))
  · refine unitOp_completes (f := opAlignmentMarker k laneNo count check skew) rfl hl ?_
    by_cases h3 : laneStep (s.chan n) k < 3
    · exact opAlignmentMarker_early h3
    · obtain ⟨h7, hg⟩ := h.resolve_left h3
      exact (opAlignmentMarker_other hk hon (by omega) h7).trans (if_neg hg)

end Sys2Proof.Machine

/-! Signals of the lanes (14_serial_lanes.md, R371, R375, R381 to R385). -/

namespace Sys2Proof.Machine

/-! ### What the S-lanes send, and what leaves it alone -/

/-- What is sending, whether CUn_LREF is present, and SENDS of S-lane `j`. -/
def Chan.sending (j : Nat) (c : Chan) : List Nat × Bool × Nat := (c.lanes.txOn, c.tim.lref, c.get (Reg.LNK_SSTAT_SENDS j))

section Sending

variable {c : Chan} {j : Nat}

theorem sending_set {f : Fld} (hf : f.lo + f.w ≤ 32) (hkey : 0x11104 + 0x1000 * j ≠ f.key) (v : Nat) :
    (c.set f v).sending j = c.sending j := by
  have hget : (c.set f v).get (Reg.LNK_SSTAT_SENDS j) = c.get (Reg.LNK_SSTAT_SENDS j) :=
    Chan.get_set_ne hf (by simp [Reg.LNK_SSTAT_SENDS]) hkey c v
  rw [Chan.sending, Chan.sending, hget]
  rfl

theorem sending_modLane (k : Nat) (f : Lane → Lane) : (c.modLane k f).sending j = c.sending j := rfl

theorem sending_setStep {k : Nat} (hj : j < 4) (v : Nat) : (setStep c k v).sending j = c.sending j := by
  unfold setStep
  dsimp only
  split
  · rw [sending_set (by decide) (by simp [Reg.LNK_TSTAT_STEP]; omega), sending_modLane]
  · rw [sending_set (by simp [Reg.LNK_PSTAT_STEP]) (by simp [Reg.LNK_PSTAT_STEP]; omega), sending_modLane]

theorem sending_ptpLinkDown : (ptpLink false c).sending j = c.sending j := by
  have hport (v : Nat) (d : Chan) : (d.set Reg.TIM_PTP_STAT_PORT v).sending j = d.sending j :=
    sending_set (by decide) (by simp [Reg.TIM_PTP_STAT_PORT]; omega) v
  have hlink (v : Nat) (d : Chan) : (d.set Reg.TIM_PTP_STAT_LINK v).sending j = d.sending j :=
    sending_set (by decide) (by simp [Reg.TIM_PTP_STAT_LINK]; omega) v
  unfold ptpLink
  dsimp only
  split
  · rw [if_neg (by decide), hport]
    exact hlink _ c
  · exact hlink _ c

theorem sending_laneBack {k : Nat} (hj : j < 4) (v : Nat) : (laneBack c k v).sending j = c.sending j := by
  unfold laneBack tLinkDown
  dsimp only
  split
  · split
    · rw [sending_ptpLinkDown, sending_set (by decide) (by simp [Reg.LNK_GSTAT_TLINK]; omega), sending_setStep hj]
    · exact sending_setStep hj v
  · exact sending_setStep hj v

theorem sending_setPaths : (setPaths c).sending j = c.sending j := by
  unfold setPaths
  dsimp only
  rw [sending_set (by decide) (by simp [Reg.LNK_GSTAT_PATHB]; omega), sending_set (by decide)
    (by simp [Reg.LNK_GSTAT_PATHA]; omega)]

theorem txOn_setPaths : (setPaths c).lanes.txOn = c.lanes.txOn := congrArg (·.1) (sending_setPaths (c := c) (j := 0))

theorem lref_setPaths : (setPaths c).tim.lref = c.tim.lref := congrArg (·.2.1) (sending_setPaths (c := c) (j := 0))

theorem sends_setPaths : (setPaths c).get (Reg.LNK_SSTAT_SENDS j) = c.get (Reg.LNK_SSTAT_SENDS j) :=
  congrArg (·.2.2) (sending_setPaths (c := c))

theorem sIdle_idle {k : Nat} (h : c.get (Reg.LNK_SSTAT_SENDS k) = 0) : sIdle c k = c := if_pos h

theorem sIdle_other {k : Nat} (h : j ≠ k) : (sIdle c k).get (Reg.LNK_SSTAT_SENDS j) = c.get (Reg.LNK_SSTAT_SENDS j) := by
  by_cases hk : c.get (Reg.LNK_SSTAT_SENDS k) = 0
  · rw [sIdle_idle hk]
  · rw [sIdle, if_neg hk, sends_setPaths]
    refine Chan.get_set_ne (f := Reg.LNK_SSTAT_SENDS k) (g := Reg.LNK_SSTAT_SENDS j) (by simp [Reg.LNK_SSTAT_SENDS])
      (by simp [Reg.LNK_SSTAT_SENDS]) ?_ c 0
    simp [Reg.LNK_SSTAT_SENDS, h]

theorem sIdle_txOn (k : Nat) : (sIdle c k).lanes.txOn =
    if c.get (Reg.LNK_SSTAT_SENDS k) = 0 then c.lanes.txOn else c.lanes.txOn.filter (· != k) := by
  by_cases hk : c.get (Reg.LNK_SSTAT_SENDS k) = 0
  · rw [sIdle_idle hk, if_pos hk]
  · rw [sIdle, if_neg hk, if_neg hk, txOn_setPaths]
    rfl

theorem sIdle_lref (k : Nat) : (sIdle c k).tim.lref = c.tim.lref := by
  by_cases hk : c.get (Reg.LNK_SSTAT_SENDS k) = 0
  · rw [sIdle_idle hk]
  · rw [sIdle, if_neg hk, lref_setPaths]
    rfl

end Sending

/-- The first `m` S-lanes of `c` have been taken to idle, and nothing else of what is sent has changed. -/
structure IdledTo (c : Chan) (m : Nat) (d : Chan) : Prop where
  sends : ∀ j, m ≤ j → d.get (Reg.LNK_SSTAT_SENDS j) = c.get (Reg.LNK_SSTAT_SENDS j)
  gone : ∀ j < m, c.get (Reg.LNK_SSTAT_SENDS j) ≠ 0 → j ∉ d.lanes.txOn
  old : ∀ j ∈ d.lanes.txOn, j ∈ c.lanes.txOn
  lref : d.tim.lref = c.tim.lref

theorem IdledTo.succ {c d : Chan} {m : Nat} (h : IdledTo c m d) : IdledTo c (m + 1) (sIdle d m) where
  sends j hj := (sIdle_other (by omega)).trans (h.sends j (by omega))
  gone j hj hsends := by
    rw [sIdle_txOn]
    by_cases hjm : j = m
    · subst hjm
      rw [if_neg (by rw [h.sends j (Nat.le_refl j)]; exact hsends)]
      simp
    · have hgone := h.gone j (by omega) hsends
      split
      · exact hgone
      · exact fun hmem => hgone (List.mem_filter.mp hmem).1
  old j hj := by
    rw [sIdle_txOn] at hj
    split at hj
    · exact h.old j hj
    · exact h.old j (List.mem_filter.mp hj).1
  lref := (sIdle_lref m).trans h.lref

theorem idledTo_forN (c : Chan) (m : Nat) : IdledTo c m (forN m (fun k c => sIdle c k) c) := by
  induction m with
  | zero => exact ⟨fun _ _ => rfl, fun _ h => absurd h (Nat.not_lt_zero _), fun _ h => h, rfl⟩
  | succ m ih =>
    rw [forN_succ]
    exact ih.succ

/-- CUn_LREF goes, and with it what the T-lane sends. -/
def lrefGone (c : Chan) : Chan :=
  (if c.tim.lref ∧ laneOn c 20 then c.emit (.out (tLaneDrive c 0)) else c).modTim (fun t => { t with lref := false })

/-- A receiving P-lane goes back to step 2. -/
def laneWithoutLref (k : Nat) (c : Chan) : Chan :=
  if laneOn c k ∧ 2 ≤ laneStep c k then
    setStep (if groupUp c (groupOf c k) then c.modLane k (fun l => { l with lost := true }) else c) k 2
  else c

/-- So does the T-lane. -/
def tLaneWithoutLref (c : Chan) : Chan := if laneOn c 20 ∧ 2 ≤ laneStep c 20 then laneBack c 20 2 else c

/-- The receivers are back at step 2: what remains is to idle the transmitters. -/
def receiversWithoutLref (c : Chan) : Chan := tLaneWithoutLref (forN 16 laneWithoutLref (lrefGone c))

theorem opLrefLoss_eq (c : Chan) : opLrefLoss c = forN 4 (fun k c => sIdle c k) (receiversWithoutLref c) := rfl

section WithoutLref

variable {c : Chan} {j : Nat}

theorem sending_lrefGone : (lrefGone c).sending j = (c.lanes.txOn, false, c.get (Reg.LNK_SSTAT_SENDS j)) := by
  unfold lrefGone
  split <;> rfl

theorem sending_laneWithoutLref (hj : j < 4) (k : Nat) (c : Chan) : (laneWithoutLref k c).sending j = c.sending j := by
  unfold laneWithoutLref
  split
  · rw [sending_setStep hj]
    split <;> rfl
  · rfl

theorem sending_tLaneWithoutLref (hj : j < 4) : (tLaneWithoutLref c).sending j = c.sending j := by
  unfold tLaneWithoutLref
  split
  · exact sending_laneBack hj 2
  · rfl

theorem sending_receiversWithoutLref (hj : j < 4) :
    (receiversWithoutLref c).sending j = (c.lanes.txOn, false, c.get (Reg.LNK_SSTAT_SENDS j)) := by
  rw [receiversWithoutLref, sending_tLaneWithoutLref hj, forN_frame (π := Chan.sending j) (sending_laneWithoutLref hj),
    sending_lrefGone]

end WithoutLref

theorem lrefLoss_sending (c : Chan) : (opLrefLoss c).tim.lref = false ∧
    (∀ j < 4, c.get (Reg.LNK_SSTAT_SENDS j) ≠ 0 → j ∉ (opLrefLoss c).lanes.txOn) ∧
      ∀ j ∈ (opLrefLoss c).lanes.txOn, j ∈ c.lanes.txOn := by
  have hidle := idledTo_forN (receiversWithoutLref c) 4
  rw [← opLrefLoss_eq] at hidle
  have hstart {j : Nat} (hj : j < 4) := sending_receiversWithoutLref (c := c) hj
  have htx : (receiversWithoutLref c).lanes.txOn = c.lanes.txOn := congrArg (·.1) (hstart (j := 0) (by decide))
  refine ⟨hidle.lref.trans (congrArg (·.2.1) (hstart (j := 0) (by decide))), fun j hj hsends => ?_, fun j hmem => ?_⟩
  · exact hidle.gone j hj ((congrArg (·.2.2) (hstart hj)).trans_ne hsends)
  · exact htx ▸ hidle.old j hmem

/-! ### Transmitters -/

theorem laneDrive_set {c : Chan} (sends k j v : Nat) :
    laneDrive (c.set (Reg.LNK_SSTAT_SENDS j) v) sends k = laneDrive c sends k := by
  have hget {f : Fld} (hf : f.lo + f.w ≤ 32) (hkey : f.key ≠ (Reg.LNK_SSTAT_SENDS j).key) :
      (c.set (Reg.LNK_SSTAT_SENDS j) v).get f = c.get f := Chan.get_set_ne (by simp [Reg.LNK_SSTAT_SENDS]) hf hkey c v
  simp only [laneDrive]
  rw [hget (by simp [Reg.LNK_SCFG_RATE]) (by simp [Reg.LNK_SCFG_RATE, Reg.LNK_SSTAT_SENDS]; omega),
    hget (by simp [Reg.LNK_SCFG_PRESET]) (by simp [Reg.LNK_SCFG_PRESET, Reg.LNK_SSTAT_SENDS]; omega),
    hget (by simp [Reg.LNK_SCFG_PATTERN]) (by simp [Reg.LNK_SCFG_PATTERN, Reg.LNK_SSTAT_SENDS]; omega)]
  rfl

section TxStart

variable {c : Chan} {k : Nat}

theorem opSLaneTxStart_starts (hk : k < 4) (hs : sSends c k ≠ 0) (hidle : c.get (Reg.LNK_SSTAT_SENDS k) = 0) :
    opSLaneTxStart k c =
      (let d := lrefBack c
      let d := ({ d with lanes := { d.lanes with txOn := d.lanes.txOn ++ [k] } } : Chan).set
        (Reg.LNK_SSTAT_SENDS k) (sSends c k)
      setPaths ((d.emit (.out (laneDrive d (sSends c k) k))).post 0x0801 .lnk (16 + k) (d.get (Reg.LNK_SCFG_RATE k)))) := by
  refine (if_pos ⟨hk, hs, hidle⟩).trans ?_
  dsimp only
  rw [laneDrive_set]
  rfl

theorem opSLaneTxStart_not (h : 4 ≤ k ∨ sSends c k = 0 ∨ c.get (Reg.LNK_SSTAT_SENDS k) ≠ 0) : opSLaneTxStart k c = c := by
  refine if_neg ?_
  rintro ⟨hk, hs, hidle⟩
  obtain h | h | h := h
  · omega
  · exact hs h
  · exact h hidle

end TxStart

/-! ### Auto-negotiation, eye scans, PRBS, the equaliser and FOM -/

section Quality

variable {c : Chan} {k : Nat}

theorem opAutonegComplete_not {partner : Nat} (h : laneOn c 20 = false ∨ laneStep c 20 ≠ 5) :
    opAutonegComplete partner c = c := by
  refine if_neg ?_
  rintro ⟨hon, hstep⟩
  obtain h | h := h
  · exact absurd (hon.symm.trans h) (by decide)
  · exact h hstep

/-- The equaliser of lane `k` may move (R381). -/
def Chan.mayAdapt (c : Chan) (k : Nat) : Prop := isRx k = true ∧ laneOn c k = true ∧
  (k = 20 ∨ c.flag (Reg.LNK_PCTL_HOLD k) = false) ∧
  (c.lane (laneIx k)).adapted.all (fun a => decide (a + 2500 ≤ c.tim.age)) = true

theorem opAdaptation_eq [Decidable (c.mayAdapt k)] (moves : List Int) : opAdaptation k moves c =
    if c.mayAdapt k then c.modLane (laneIx k) (fun l => { l with
      adapted := some c.tim.age
      eq := (List.range (max l.eq.length moves.length)).map (fun i =>
        ((l.eq.getD i 0 : Nat) + max (-1) (min 1 (moves.getD i 0)) : Int).toNat) }) else c := by
  refine if_congr ?_ rfl rfl
  cases h : (c.lane (laneIx k)).adapted <;> simp [Chan.mayAdapt, h]

theorem opFomUpdate_off {fom : Nat} (h : isRx k = false ∨ laneOn c k = false) : opFomUpdate k fom c = c := by
  refine if_neg ?_
  rintro ⟨hrx, hon⟩
  obtain h | h := h
  · exact absurd (hrx.symm.trans h) (by decide)
  · exact absurd (hon.symm.trans h) (by decide)

section Fom

variable {fom : Nat} (hrx : isRx k = true) (hon : laneOn c k = true)
include hrx hon

theorem opFomUpdate_sampled (hk : k ≠ 20) (hbusy : c.flag (Reg.LNK_PSTAT_SCANBUSY k) = false) : opFomUpdate k fom c =
    (c.set (Reg.LNK_PSTAT_FOM k) (min fom 255)).set (Reg.LNK_PFOMMIN_MIN k)
      (min (c.get (Reg.LNK_PFOMMIN_MIN k)) (min fom 255)) :=
  (if_pos ⟨hrx, hon⟩).trans ((if_neg hk).trans (if_neg (Bool.eq_false_iff.mp hbusy)))

theorem opFomUpdate_scanning (hk : k ≠ 20) (hbusy : c.flag (Reg.LNK_PSTAT_SCANBUSY k) = true) : opFomUpdate k fom c = c :=
  (if_pos ⟨hrx, hon⟩).trans ((if_neg hk).trans (if_pos hbusy))

theorem opFomUpdate_tLane (hk : k = 20) : opFomUpdate k fom c = c.set Reg.LNK_TSTAT_FOM (min fom 255) :=
  (if_pos ⟨hrx, hon⟩).trans (if_pos hk)

end Fom

end Quality

/-! ### LNK_PCTL (R381 to R383) -/

/-- LNK_PCTL of the P-lanes' pages. -/
def pctlReg : RegDef :=
  { name := "LNK_PCTL", page := 1, pages := 16, off := 260, reps := 1, stride := 0, words := 1, staged := false
    cross := .none, act := .lnkPctl
    fields := [{ name := "HOLD", hi := 0, lo := 0, acc := .rw, reset := 0 },
      { name := "CLEAR", hi := 1, lo := 1, acc := .wo, reset := 0 }, { name := "SCAN", hi := 2, lo := 2, acc := .wo, reset := 0 },
      { name := "DWELL", hi := 12, lo := 8, acc := .rw, reset := 20, chk := .range 10 30 }] }

theorem unitHit_pctl {k : Nat} (hk : k < 16) : unitHit (0x1104 + 0x1000 * k) = .reg .lnk (k + 1) 0 0 pctlReg := by
  have hall : ∀ k : Fin 16, unitHit (0x1104 + 0x1000 * k.val) = .reg .lnk (k.val + 1) 0 0 pctlReg := by decide +kernel
  exact hall ⟨k, hk⟩

/-- HOLD and DWELL as they stand, with one of the action bits: 2 is CLEAR, 4 is SCAN. -/
def pctlValue (hold dwell bit : Nat) : Nat := hold + 256 * dwell + bit

section Pctl

variable {hold dwell : Nat} (hhold : hold < 2) (hlow : 10 ≤ dwell) (hhigh : dwell ≤ 30)
include hhold hhigh

theorem setBitsOf_pctl {i bit : Nat} (hi : i = 1 ∧ bit = 2 ∨ i = 2 ∧ bit = 4) :
    setBitsOf (hold + 256 * dwell) i 1 1 = pctlValue hold dwell bit := by
  obtain ⟨rfl, rfl⟩ | ⟨rfl, rfl⟩ := hi <;> simp only [setBitsOf, bitsOf, pctlValue] <;> omega

variable {bit : Nat} (hbit : bit = 2 ∨ bit = 4)
include hbit

theorem toNat_pctl : (BitVec.ofNat 32 (pctlValue hold dwell bit)).toNat = pctlValue hold dwell bit := by
  rw [BitVec.toNat_ofNat]
  refine Nat.mod_eq_of_lt ?_
  simp only [pctlValue]
  omega

theorem bitsOf_pctl : bitsOf (pctlValue hold dwell bit) 0 1 = hold ∧ bitsOf (pctlValue hold dwell bit) 8 5 = dwell := by
  simp only [bitsOf, pctlValue]
  omega

theorem storeFields_pctl : storeFields pctlReg.fields (fun _ => true) (hold + 256 * dwell) (pctlValue hold dwell bit) =
    hold + 256 * dwell := by
  obtain ⟨h0, h8⟩ := bitsOf_pctl hhold hhigh hbit
  have hsame : setBitsOf (setBitsOf (hold + 256 * dwell) 0 1 hold) 8 5 dwell = hold + 256 * dwell := by
    simp only [setBitsOf, bitsOf]
    omega
  simpa only [storeFields, pctlReg, FieldDef.width, List.foldl_cons, List.foldl_nil, Bool.not_true, Bool.false_eq_true, if_false,
    h0, h8] using hsame

include hlow in
theorem fieldsCode_pctl : fieldsCode pctlReg.fields false (pctlValue hold dwell bit) = 0 := by
  obtain ⟨-, h8⟩ := bitsOf_pctl hhold hhigh hbit
  have hrest : setBitsOf (setBitsOf (setBitsOf (setBitsOf (pctlValue hold dwell bit) 0 1 0) 1 1 0) 2 1 0) 8 5 0 = 0 := by
    simp only [setBitsOf, bitsOf, pctlValue]
    omega
  simp [fieldsCode, pctlReg, FieldDef.width, Chk.ok, hrest, h8, hlow, hhigh, codeNONE]

end Pctl

theorem bitAt_pctl {hold dwell : Nat} (hhold : hold < 2) : bitAt (pctlValue hold dwell 2) 1 = true ∧
    bitAt (pctlValue hold dwell 2) 2 = false ∧ bitAt (pctlValue hold dwell 4) 1 = false ∧
      bitAt (pctlValue hold dwell 4) 2 = true := by
  simp only [bitAt, bitsOf, pctlValue]
  refine ⟨?_, ?_, ?_, ?_⟩ <;> simp <;> omega

section PctlWrite

variable {s : State} {p : Path} {n : Fin 5} {k hold dwell : Nat} (hrun : s.running n = true) (hk : k < 16)
  (hopen : s.opens p (.unit n (0x1104 + 0x1000 * k))) (hhold : hold < 2) (hlow : 10 ≤ dwell) (hhigh : dwell ≤ 30)
  (hold_ : storeGet unitReset (s.chan n).bank.regs (0x1104 + 0x1000 * k) = BitVec.ofNat 32 (hold + 256 * dwell))
include hk hhold hhigh hold_

theorem lanePctl_eq {i bit : Nat} (hi : i = 1 ∧ bit = 2 ∨ i = 2 ∧ bit = 4) : lanePctl p n k i s =
    s.writeTo p (.unit n (0x1104 + 0x1000 * k)) (BitVec.ofNat 32 (pctlValue hold dwell bit)) := by
  have hword : (BitVec.ofNat 32 (hold + 256 * dwell)).toNat = hold + 256 * dwell := by
    rw [BitVec.toNat_ofNat]
    omega
  simp only [lanePctl, if_pos hk, hold_, hword, setBitsOf_pctl hhold hhigh hi]

include hrun hopen hlow

theorem writeTo_pctl {bit : Nat} (hbit : bit = 2 ∨ bit = 4)
    (hfree : bitAt (pctlValue hold dwell bit) 2 = true → (s.chan n).flag (Reg.LNK_PSTAT_SCANBUSY k) = false) :
    s.writeTo p (.unit n (0x1104 + 0x1000 * k)) (BitVec.ofNat 32 (pctlValue hold dwell bit)) = s.modChan n (fun c =>
      actPctl k (pctlValue hold dwell bit)
        (c.putWord (0x1104 + 0x1000 * k) (BitVec.ofNat 32 (hold + 256 * dwell)))) := by
  obtain ⟨-, harr, hreach⟩ := hopen
  have hv := toNat_pctl hhold hhigh hbit
  have hword : (BitVec.ofNat 32 (hold + 256 * dwell)).toNat = hold + 256 * dwell := by
    rw [BitVec.toNat_ofNat]
    omega
  have howner : s.ownerCode (.unit n) pctlReg (k + 1) 0 (pctlValue hold dwell bit) = 0 := by
    have hno : ¬ (bitAt (pctlValue hold dwell bit) 2 = true ∧ (s.chan n).flag (Reg.LNK_PSTAT_SCANBUSY k) = true) :=
      fun ⟨h2, hbusy⟩ => absurd ((hfree h2).symm.trans hbusy) (by decide)
    simp only [State.ownerCode, pctlReg, Nat.add_sub_cancel, hno, if_false]
    rfl
  rw [State.writeTo_unit harr hreach hrun (unitHit_pctl hk) rfl rfl (stagedMask_of_live (unitHit_pctl hk) rfl (by omega))
    (by rw [hv]; exact fieldsCode_pctl hhold hlow hhigh hbit) rfl (by rw [hv]; exact howner), hv, hold_, hword,
    storeFields_pctl hhold hhigh hbit]
  refine Eq.trans ?_ (State.modChan_modChan n _ (actPctl k (pctlValue hold dwell bit)) s)
  exact if_pos hrun

omit hold_ in
theorem writeTo_pctl_busy (hbusy : (s.chan n).flag (Reg.LNK_PSTAT_SCANBUSY k) = true) :
    s.writeTo p (.unit n (0x1104 + 0x1000 * k)) (BitVec.ofNat 32 (pctlValue hold dwell 4)) = s.modChan n
      (discardUnit .lnk codeBUSY (bar0Unit n (0x1104 + 0x1000 * k)) (pathCode p) (pctlValue hold dwell 4)) := by
  have hv := toNat_pctl hhold hhigh (.inr rfl : 4 = 2 ∨ 4 = 4)
  obtain ⟨-, -, -, hscan⟩ := bitAt_pctl (dwell := dwell) hhold
  have howner : s.ownerCode (.unit n) pctlReg (k + 1) 0 (pctlValue hold dwell 4) = codeBUSY := by
    simp only [State.ownerCode, pctlReg, Nat.add_sub_cancel, hscan, hbusy, and_self, if_true]
  rw [State.writeTo_unit_refuse hopen hrun (unitHit_pctl hk) rfl rfl
    (by rw [hv]; exact fieldsCode_pctl hhold hlow hhigh (.inr rfl)) rfl rfl (by decide)
    (by rw [hv, howner]; decide), hv, howner]

end PctlWrite

/-- Settles O48: each event acts in its state alone; the writes of LNK_PCTL keep HOLD and DWELL. -/
theorem laneSignals : Obligations.LaneSignals := by
  classical
  refine ⟨fun n k s hl => ⟨fun partner => ⟨fun hon h5 => ?_, fun h => ?_⟩, fun hk hs hidle => ?_, fun h => ?_, ?_,
    fun errs hk => ⟨fun hbusy => ?_, fun hbusy => ?_⟩, fun before window after hk => ⟨fun h3 => ?_, fun h3 => ?_⟩,
    fun moves => ⟨fun h => ?_, fun h => ?_⟩,
    fun fom hrx hon => ⟨fun hk hbusy => ?_, fun hk hbusy => ?_, fun hk => ?_⟩, fun fom h => ?_⟩,
    fun n k hold dwell p s hl hk hopen hhold hlow hhigh hold_ => ⟨fun hbusy => ?_, fun hbusy => ?_, ?_⟩⟩
  · exact unitOp_completes (f := opAutonegComplete partner) rfl hl (if_pos ⟨hon, h5⟩)
  · exact unitOp_completes (f := opAutonegComplete partner) rfl hl (opAutonegComplete_not h)
  · exact unitOp_completes (f := opSLaneTxStart k) rfl hl (opSLaneTxStart_starts hk hs hidle)
  · exact unitOp_completes (f := opSLaneTxStart k) rfl hl (opSLaneTxStart_not h)
  · exact unitOp_with (f := opLrefLoss) rfl hl (lrefLoss_sending _)
  · exact unitOp_completes (f := opEyeScanDone k errs) rfl hl (if_pos ⟨hk, hbusy⟩)
  · exact unitOp_completes (f := opEyeScanDone k errs) rfl hl
      (if_neg fun ⟨_, h⟩ => absurd (h.symm.trans hbusy) (by decide))
  · exact unitOp_completes (f := opPrbsLock k (before ++ (window ++ after))) rfl hl (if_pos ⟨hk, h3⟩)
  · exact unitOp_completes (f := opPrbsLock k (before ++ (window ++ after))) rfl hl (if_neg fun ⟨_, h⟩ => h3 h)
  · exact unitOp_completes (f := opAdaptation k moves) rfl hl ((opAdaptation_eq moves).trans (if_pos h))
  · exact unitOp_completes (f := opAdaptation k moves) rfl hl ((opAdaptation_eq moves).trans (if_neg h))
  · exact unitOp_completes (f := opFomUpdate k fom) rfl hl (opFomUpdate_sampled hrx hon hk hbusy)
  · exact unitOp_completes (f := opFomUpdate k fom) rfl hl (opFomUpdate_scanning hrx hon hk hbusy)
  · exact unitOp_completes (f := opFomUpdate k fom) rfl hl (opFomUpdate_tLane hrx hon hk)
  · exact unitOp_completes (f := opFomUpdate k fom) rfl hl (opFomUpdate_off h)
  · obtain ⟨-, -, hclear, hscan⟩ := bitAt_pctl (dwell := dwell) hhold
    refine run_completes (f := lanePctl p n k 2) rfl hl.1 ?_
    rw [lanePctl_eq (s := s.quiet) hk hhold hhigh hold_ (.inr ⟨rfl, rfl⟩), writeTo_pctl (s := s.quiet) hl.2 hk
      (State.quiet_opens hopen) hhold hlow hhigh hold_ (.inr rfl) (fun _ => hbusy)]
    refine State.modChan_congr _ _ _ _ ?_
    simp only [actPctl, hclear, hscan, Bool.false_eq_true, if_false, if_true]
  · refine run_completes (f := lanePctl p n k 2) rfl hl.1 ?_
    rw [lanePctl_eq (s := s.quiet) hk hhold hhigh hold_ (.inr ⟨rfl, rfl⟩)]
    exact writeTo_pctl_busy (s := s.quiet) hl.2 hk (State.quiet_opens hopen) hhold hlow hhigh hbusy
  · obtain ⟨hclear, hscan, -, -⟩ := bitAt_pctl (dwell := dwell) hhold
    refine run_completes (f := lanePctl p n k 1) rfl hl.1 ?_
    rw [lanePctl_eq (s := s.quiet) hk hhold hhigh hold_ (.inl ⟨rfl, rfl⟩), writeTo_pctl (s := s.quiet) hl.2 hk
      (State.quiet_opens hopen) hhold hlow hhigh hold_ (.inl rfl)
      (fun h => absurd (h.symm.trans hscan) (by decide))]
    refine State.modChan_congr _ _ _ _ ?_
    simp only [actPctl, hclear, hscan, Bool.false_eq_true, if_false, if_true]

end Sys2Proof.Machine

/-! The timing unit (13_timing_unit.md): references, LOSC, pulses (R340 to R347). -/

namespace Sys2Proof.Machine

section References

variable {c : Chan} {r : Nat} {f : Int}

/-! ### What FOFF leaves alone -/

theorem get_timFoff {g : Fld} (hg : g.lo + g.w ≤ 32) (hkey : g.key ≠ 0x120164 + 0x8 * r) :
    (timFoff c r f).get g = c.get g := by
  unfold timFoff
  split
  · next h =>
    obtain ⟨rfl, -⟩ := h
    exact Chan.get_set_ne (f := Reg.TIM_REFSTAT_FOFF 4) (by decide) hg hkey c _
  · exact Chan.get_set_ne (f := Reg.TIM_REFSTAT_FOFF r) (by simp [Reg.TIM_REFSTAT_FOFF]) hg hkey c _

theorem tim_timFoff : (timFoff c r f).tim = c.tim := by
  unfold timFoff
  split <;> rfl

theorem timSoft_timFoff : timSoft (timFoff c r f) r = timSoft c r := by
  rw [timSoft, timSoft, get_timFoff (by simp [Reg.TIM_REFCFG_SOFT]) (by simp [Reg.TIM_REFCFG_SOFT])]

/-! ### Qualification and drift -/

theorem timQualified_may (hr : r < 5) (h : timMayQualify c r f = true) : timQualified c r f =
    timSeek (((timFoff c r f).modTim (fun t => { t with drifted := t.drifted.filter (· != r) })).set
      (Reg.TIM_REFSTAT_QUALIFIED r) 1) := if_pos ⟨hr, h⟩

theorem timQualified_mayNot (h : timMayQualify c r f = false) : timQualified c r f = c :=
  if_neg fun ⟨_, hmay⟩ => absurd (hmay.symm.trans h) (by decide)

theorem timAbsent_ref (hr : r < 5) : timAbsent c r =
    (let d := timDisqualify (c.set (Reg.TIM_REFSTAT_PRESENT r) 0) r
    let d := if r = 4 then d.modTim (fun t => { t with losc := false }) else d
    if c.get Reg.TIM_STAT_SEL = r then timLeave d else timSeek d) := if_pos hr

theorem timDrift_absent (h : c.flag (Reg.TIM_REFSTAT_PRESENT r) = false) : timDrift c r f = c :=
  if_neg fun ⟨_, hp⟩ => absurd (hp.symm.trans h) (by decide)

section Drift

variable (hr : r < 5) (hp : c.flag (Reg.TIM_REFSTAT_PRESENT r) = true)
include hr hp

theorem timDrift_within (h : f.natAbs ≤ (timSoft c r).natAbs) : timDrift c r f =
    (timFoff c r f).modTim (fun t => { t with drifted := t.drifted.filter (· != r) }) :=
  (if_pos ⟨hr, hp⟩).trans (if_pos (by rwa [timSoft_timFoff]))

theorem timDrift_again (h : (timSoft c r).natAbs < f.natAbs) (hd : c.tim.drifted.contains r = true) :
    timDrift c r f = timFoff c r f :=
  (if_pos ⟨hr, hp⟩).trans ((if_neg (by rw [timSoft_timFoff]; omega)).trans (if_pos (by rwa [tim_timFoff])))

theorem timDrift_first (h : (timSoft c r).natAbs < f.natAbs) (hd : c.tim.drifted.contains r = false) : timDrift c r f =
    (let d := ((timFoff c r f).modTim (fun t => { t with drifted := t.drifted ++ [r] })).post 0x0903 .tim r (patternOf 32 f)
    if d.get Reg.TIM_STAT_SEL = r then d.set Reg.TIM_STAT_STANDBY ((timBest d (fun x => x != r)).getD 7) else d) := by
  refine (if_pos ⟨hr, hp⟩).trans ((if_neg (by rw [timSoft_timFoff]; omega)).trans
    ((if_neg (by rw [tim_timFoff, hd]; decide)).trans ?_))
  dsimp only
  split
  · cases timBest _ _ <;> rfl
  · rfl

end Drift

/-! ### HARD -/

theorem timHardSelected_crossed (hr : r < 5) (hsel : c.get Reg.TIM_STAT_SEL = r) (h : (timHard c r).natAbs < f.natAbs) :
    timHardSelected c f = timLeave (timDisqualify ((timFoff c r f).post 0x0903 .tim r (patternOf 32 f)) r) := by
  subst hsel
  exact if_pos ⟨hr, h⟩

theorem timHardSelected_within (hsel : c.get Reg.TIM_STAT_SEL = r) (h : f.natAbs ≤ (timHard c r).natAbs) :
    timHardSelected c f = c := by
  subst hsel
  exact if_neg fun ⟨_, hcross⟩ => absurd hcross (by omega)

theorem timHardOther_crossed (hr : r < 5) (hsel : c.get Reg.TIM_STAT_SEL ≠ r) (h : (timHard c r).natAbs < f.natAbs) :
    timHardOther c r f = timSeek (timDisqualify (timFoff c r f) r) := if_pos ⟨hr, hsel.symm, h⟩

theorem timHardOther_not (h : c.get Reg.TIM_STAT_SEL = r ∨ f.natAbs ≤ (timHard c r).natAbs) : timHardOther c r f = c := by
  refine if_neg ?_
  rintro ⟨-, hsel, hcross⟩
  obtain h | h := h
  · exact hsel h.symm
  · omega

end References

/-! ### LOSC -/

section Losc

variable {c : Chan} {hz : Nat}

theorem timLoscFail_inside (h : loscIn c hz = true) : timLoscFail c hz = c := if_pos h

theorem timLoscReturn_outside (h : loscIn c hz = false) : timLoscReturn c hz = c := by
  simp [timLoscReturn, h]

theorem timLoscReturn_inside (h : loscIn c hz = true) : timLoscReturn c hz =
    (let d := (c.modTim (fun t => { t with losc := true })).set (Reg.TIM_REFSTAT_PRESENT 4) 1
    if c.flag Reg.TIM_OSC then d.set Reg.TIM_STAT_OSCSRC 1 else d) := by
  have hosc : ((c.modTim (fun t => { t with losc := true })).set (Reg.TIM_REFSTAT_PRESENT 4) 1).flag Reg.TIM_OSC =
      c.flag Reg.TIM_OSC := Chan.flag_set_ne (by decide) (by decide) (by decide) _ _
  simp only [timLoscReturn, h, Bool.not_true, Bool.false_eq_true, if_false, hosc]

section Fails

variable (h : loscIn c hz = false)
include h

theorem timLoscFail_oscillator (hsrc : c.get Reg.TIM_STAT_OSCSRC = 1) : timLoscFail c hz =
    timAbsent (((c.set Reg.TIM_STAT_OSCSRC 0).set Reg.TIM_STAT_OSCFAIL 1).post 0x0903 .tim 4
      (patternOf 32 (loscOffset c hz))) 4 :=
  (if_neg (Bool.eq_false_iff.mp h)).trans (if_pos hsrc)

theorem timLoscFail_reference (hsrc : c.get Reg.TIM_STAT_OSCSRC ≠ 1) : timLoscFail c hz =
    if c.flag (Reg.TIM_REFSTAT_PRESENT 4) then timAbsent c 4 else c :=
  (if_neg (Bool.eq_false_iff.mp h)).trans (if_neg hsrc)

end Fails

end Losc

/-! ### Pulses (R342, R343) -/

section Pps

variable {c : Chan} {width : Nat} {ten : Option Int}

/-- Whether the 10 MHz input runs is noted with every edge. -/
def tenMegNoted (ten : Option Int) (c : Chan) : Chan :=
  c.modTim (fun t => { t with tenMeg := ten.any (fun p => decide (p.natAbs ≤ 20)) })

/-- The edge is off by over 1 ms from the one before, while the input is present. -/
def ppsFar (c : Chan) : Bool := match c.tim.pps with
  | last :: _ => c.flag (Reg.TIM_REFSTAT_PRESENT 1) && decide (secUnits / 1000 < ((c.now : Int) - last - secUnits).natAbs)
  | [] => false

/-- The edge joins the last four. -/
def ppsKept (c : Chan) : Chan := c.modTim (fun t => { t with pps := (c.now :: t.pps).take 4 })

/-- What the last four edges say of the input's presence. -/
def ppsJudged (c : Chan) : Chan := match c.tim.pps with
  | [t0, t1, t2, t3] =>
    let ok (x y : Nat) : Bool := decide (((x : Int) - y - secUnits).natAbs ≤ 1000 * 65536)
    if ok t0 t1 && ok t1 t2 && ok t2 t3 then c.set (Reg.TIM_REFSTAT_PRESENT 1) 1
    else if c.flag (Reg.TIM_REFSTAT_PRESENT 1) then timAbsent c 1
    else c
  | _ => c

theorem timPps_eq : timPps c width ten = if width < 100 ∨ ppsFar c = true then timReject (tenMegNoted ten c) 1
    else ppsJudged (ppsKept (tenMegNoted ten c)) := by
  cases ten <;> rfl

theorem ppsFar_absent (h : c.flag (Reg.TIM_REFSTAT_PRESENT 1) = false) : ppsFar c = false := by
  unfold ppsFar
  split <;> simp [h]

theorem ppsFar_cons {last : Nat} {rest : List Nat} (h : c.tim.pps = last :: rest) : ppsFar c =
    (c.flag (Reg.TIM_REFSTAT_PRESENT 1) && decide (secUnits / 1000 < ((c.now : Int) - last - secUnits).natAbs)) := by
  simp only [ppsFar, h]

/-- With fewer than four edges nothing is said. -/
theorem ppsJudged_few (h : c.tim.pps.length < 4) : ppsJudged c = c := by
  unfold ppsJudged
  split
  · next hpps => simp [hpps] at h
  · rfl

theorem ppsKept_few (h : c.tim.pps.length < 3) : ppsKept c = c.modTim (fun t => { t with pps := c.now :: t.pps }) := by
  have htake : (c.now :: c.tim.pps).take 4 = c.now :: c.tim.pps := List.take_of_length_le (by simp; omega)
  simp only [ppsKept, Chan.modTim, htake]

/-- An edge one second after another is on time. -/
theorem ppsOnTime (x : Nat) : decide ((((x + secUnits : Nat) : Int) - x - secUnits).natAbs ≤ 1000 * 65536) = true := by
  have : (((x + secUnits : Nat) : Int) - x - secUnits) = 0 := by omega
  rw [this]
  decide

theorem ppsJudged_seconds {d : Nat} (h : c.tim.pps = [d + secUnits + secUnits + secUnits, d + secUnits + secUnits,
    d + secUnits, d]) : ppsJudged c = c.set (Reg.TIM_REFSTAT_PRESENT 1) 1 := by
  simp only [ppsJudged, h, ppsOnTime, Bool.and_self, if_true]

end Pps

/-- Settles O43: each event is one branch of its operation; FOFF lies beside what the branches ask for. -/
theorem timingReferences : Obligations.TimingReferences := by
  refine ⟨fun n r f s hl hr => ⟨fun h => ?_, fun h => ?_, ?_, fun hp => ⟨fun h => ?_, fun h hd => ?_, fun h hd => ?_⟩,
      fun h => ?_, fun hsel h => ?_, fun hsel h => ?_, fun hsel h => ?_, fun h => ?_⟩,
    fun n hz s hl => ⟨fun h => ⟨?_, fun hosc => ?_, fun hosc => ?_⟩, fun h => ⟨?_, fun hsrc => ?_, fun hsrc hp => ?_,
      fun hsrc hp => ?_⟩⟩,
    fun n width ten s hl => ⟨fun h => ?_, fun last rest hpps hp hfar => ?_, fun hw hfew hp => ?_,
      fun a b d hw hpps hnow ha hb => ?_⟩⟩
  · exact unitOp_completes (f := fun c => timQualified c r f) rfl hl (timQualified_may hr h)
  · exact unitOp_completes (f := fun c => timQualified c r f) rfl hl (timQualified_mayNot h)
  · exact unitOp_completes (f := fun c => timAbsent c r) rfl hl (timAbsent_ref hr)
  · exact unitOp_completes (f := fun c => timDrift c r f) rfl hl (timDrift_within hr hp h)
  · exact unitOp_completes (f := fun c => timDrift c r f) rfl hl (timDrift_again hr hp h hd)
  · exact unitOp_completes (f := fun c => timDrift c r f) rfl hl (timDrift_first hr hp h hd)
  · exact unitOp_completes (f := fun c => timDrift c r f) rfl hl (timDrift_absent h)
  · exact unitOp_completes (f := fun c => timHardSelected c f) rfl hl (timHardSelected_crossed hr hsel h)
  · exact unitOp_completes (f := fun c => timHardSelected c f) rfl hl (timHardSelected_within hsel h)
  · exact unitOp_completes (f := fun c => timHardOther c r f) rfl hl (timHardOther_crossed hr hsel h)
  · exact unitOp_completes (f := fun c => timHardOther c r f) rfl hl (timHardOther_not h)
  · exact unitOp_completes (f := fun c => timLoscFail c hz) rfl hl (timLoscFail_inside h)
  · exact unitOp_completes (f := fun c => timLoscReturn c hz) rfl hl ((timLoscReturn_inside h).trans (if_pos hosc))
  · exact unitOp_completes (f := fun c => timLoscReturn c hz) rfl hl
      ((timLoscReturn_inside h).trans (if_neg (Bool.eq_false_iff.mp hosc)))
  · exact unitOp_completes (f := fun c => timLoscReturn c hz) rfl hl (timLoscReturn_outside h)
  · exact unitOp_completes (f := fun c => timLoscFail c hz) rfl hl (timLoscFail_oscillator h hsrc)
  · exact unitOp_completes (f := fun c => timLoscFail c hz) rfl hl ((timLoscFail_reference h hsrc).trans (if_pos hp))
  · exact unitOp_completes (f := fun c => timLoscFail c hz) rfl hl
      ((timLoscFail_reference h hsrc).trans (if_neg (Bool.eq_false_iff.mp hp)))
  · exact unitOp_completes (f := fun c => timPps c width ten) rfl hl (timPps_eq.trans (if_pos (.inl h)))
  · have hreject : ppsFar (s.chan n) = true := by
      rw [ppsFar_cons hpps, hp, Bool.true_and, decide_eq_true_eq]
      exact hfar
    exact unitOp_completes (f := fun c => timPps c width ten) rfl hl (timPps_eq.trans (if_pos (.inr hreject)))
  · have hkeep : ¬ (width < 100 ∨ ppsFar (s.chan n) = true) := by
      rw [ppsFar_absent hp]
      simpa using hw
    refine unitOp_completes (f := fun c => timPps c width ten) rfl hl (timPps_eq.trans ((if_neg hkeep).trans ?_))
    rw [ppsKept_few (by exact hfew)]
    exact ppsJudged_few (Nat.succ_lt_succ hfew)
  · have hkeep : ¬ (width < 100 ∨ ppsFar (s.chan n) = true) := by
      have hzero : (((s.chan n).now : Int) - a - secUnits) = 0 := by omega
      rw [ppsFar_cons hpps, hzero]
      simpa using hw
    refine unitOp_completes (f := fun c => timPps c width ten) rfl hl (timPps_eq.trans ((if_neg hkeep).trans ?_))
    have hkept : (ppsKept (tenMegNoted ten (s.chan n))).tim.pps = [(s.chan n).now, a, b, d] :=
      (congrArg (fun l => ((s.chan n).now :: l).take 4) hpps).trans rfl
    refine (ppsJudged_seconds (d := d) (by rw [hkept, hnow, ha, hb])).trans ?_
    simp only [ppsKept, Chan.modTim, tenMegNoted, hpps]
    rfl

end Sys2Proof.Machine

/-! The timing unit (13_timing_unit.md): contests, states, host time and phase adjustment (R342, R346 to R352). -/

namespace Sys2Proof.Machine

/-! ### Contests (R348) -/

section Contests

variable {c : Chan} {a b : Nat} {fa fb fw : Int}

/-- Two references of equal RANK disagree, and no contest of theirs lasts. -/
def Chan.contestOpens (c : Chan) (a b : Nat) (fa fb : Int) : Prop :=
  a < b ∧ b < 5 ∧ c.flag (Reg.TIM_REFSTAT_QUALIFIED a) = true ∧ c.flag (Reg.TIM_REFSTAT_QUALIFIED b) = true ∧
    c.get (Reg.TIM_REFCFG_RANK a) = c.get (Reg.TIM_REFCFG_RANK b) ∧ c.get Reg.TIM_AGREE_AGREEF < (fa - fb).natAbs ∧
    c.tim.contests.all (fun k => !k.of a b) = true

theorem timContest_opens (h : c.contestOpens a b fa fb) : timContest c a b fa fb =
    (timContests c (c.tim.contests ++ [{ a := a, b := b, witness := timWitness c a b }])).post 0x0904 .tim (a * 256 + b)
      (timWitness c a b) := if_pos h

theorem timContest_not (h : ¬ c.contestOpens a b fa fb) : timContest c a b fa fb = c := if_neg h

theorem timContestEnd_none (h : c.tim.contests.find? (fun k => k.of a b) = none) : timContestEnd c a b fa fb fw = c := by
  simp only [timContestEnd, h]

/-- The witness is within AGREEF of an offset. -/
def Chan.witnessNear (c : Chan) (fw f : Int) : Bool := decide ((f - fw).natAbs ≤ c.get Reg.TIM_AGREE_AGREEF)

/-- The contest is left undecided, with ALARM. -/
def contestLeft (k : Contest) (c : Chan) : Chan :=
  (timContests c (c.tim.contests.map (fun j => if j = k then { k with alarm := true } else j))).post
    0x0904 .tim (k.a * 256 + k.b) 255

/-- The contest is decided: the loser is disqualified and no longer in any. -/
def contestDecided (win lose : Nat) (c : Chan) : Chan :=
  let c := timContests c (c.tim.contests.filter (fun j => !j.has lose && !j.of win lose))
  let c := ((c.set (Reg.TIM_REFSTAT_LOSER lose) 1).set (Reg.TIM_REFSTAT_LOSER win) 0).set
    (Reg.TIM_REFSTAT_QUALIFIED lose) 0
  c.modTim (fun t => { t with losers := t.losers ++ [(lose, win)] })

variable {k : Contest} (h : c.tim.contests.find? (fun k => k.of a b) = some k)
include h

theorem timContestEnd_alarmed (hal : k.alarm = true) : timContestEnd c a b fa fb fw = c := by
  simp only [timContestEnd, h, hal, if_true]

theorem timContestEnd_open (hal : k.alarm = false) : timContestEnd c a b fa fb fw =
    (let nearA := c.witnessNear fw (if a = k.a then fa else fb)
    let nearB := c.witnessNear fw (if a = k.a then fb else fa)
    if k.witness ≠ 255 ∧ nearA ≠ nearB then
      let win := if nearA then k.a else k.b
      let lose := if nearA then k.b else k.a
      let d := contestDecided win lose c
      if d.get Reg.TIM_STAT_SEL = lose ∨ d.get Reg.TIM_STAT_SEL = 7 then timSelect d win else d
    else
      let d := contestLeft k c
      if d.get Reg.TIM_STAT_SEL = k.a ∨ d.get Reg.TIM_STAT_SEL = k.b then timHoldover d else d) := by
  simp only [timContestEnd, h, hal, Bool.false_eq_true, if_false]
  by_cases ha : a = k.a
  · simp only [if_pos ha]
    rfl
  · simp only [if_neg ha]
    rfl

theorem timContestEnd_left (hal : k.alarm = false) (hw : k.witness = 255 ∨
    c.witnessNear fw (if a = k.a then fa else fb) = c.witnessNear fw (if a = k.a then fb else fa)) :
    timContestEnd c a b fa fb fw =
      (let d := contestLeft k c
      if d.get Reg.TIM_STAT_SEL = k.a ∨ d.get Reg.TIM_STAT_SEL = k.b then timHoldover d else d) := by
  rw [timContestEnd_open h hal]
  exact if_neg fun ⟨hne, hdiff⟩ => hw.elim hne hdiff

theorem timContestEnd_decided {win lose : Nat} (hal : k.alarm = false) (hw : k.witness ≠ 255)
    (hdiff : c.witnessNear fw (if a = k.a then fa else fb) ≠ c.witnessNear fw (if a = k.a then fb else fa))
    (hwin : (win, lose) = if c.witnessNear fw (if a = k.a then fa else fb) then (k.a, k.b) else (k.b, k.a)) :
    timContestEnd c a b fa fb fw =
      (let d := contestDecided win lose c
      if d.get Reg.TIM_STAT_SEL = lose ∨ d.get Reg.TIM_STAT_SEL = 7 then timSelect d win else d) := by
  rw [timContestEnd_open h hal]
  refine (if_pos ⟨hw, hdiff⟩).trans ?_
  cases hnear : c.witnessNear fw (if a = k.a then fa else fb)
  · rw [hnear] at hwin
    obtain ⟨rfl, rfl⟩ := Prod.mk.inj hwin
    rfl
  · rw [hnear] at hwin
    obtain ⟨rfl, rfl⟩ := Prod.mk.inj hwin
    rfl

end Contests

section Agreement

variable {c : Chan} {a b : Nat} {fa fb : Int}

/-- Neither of the pair is held back by the other's win any more. -/
def pairAgreed (a b : Nat) (c : Chan) : Chan :=
  c.modTim (fun t => { t with losers := t.losers.filter (fun p => p != (a, b) && p != (b, a)) })

theorem timPairAgree_within (h : (fa - fb).natAbs ≤ c.get Reg.TIM_AGREE_AGREEF) : timPairAgree c a b fa fb =
    if c.tim.contests.any (fun k => k.of a b) then
      timSeek (timContests (pairAgreed a b c) (c.tim.contests.filter (fun k => !k.of a b)))
    else pairAgreed a b c := if_pos h

theorem timPairAgree_not (h : c.get Reg.TIM_AGREE_AGREEF < (fa - fb).natAbs) : timPairAgree c a b fa fb = c :=
  if_neg (Nat.not_le.mpr h)

/-- A selectable reference of lower RANK has stayed so for QUAL seconds (R346). -/
def Chan.revertDue (c : Chan) (a : Nat) : Prop :=
  a < 5 ∧ c.get Reg.TIM_STAT_STATE = 2 ∧ c.flag Reg.TIM_LIMITS_REVERT = true ∧ timSelectable c a = true ∧
    c.get Reg.TIM_STAT_SEL < 5 ∧
    c.get (Reg.TIM_REFCFG_RANK a) < c.get (Reg.TIM_REFCFG_RANK (c.get Reg.TIM_STAT_SEL)) ∧
    ∃ t, c.tim.since.getD a none = some t ∧ t + c.get Reg.TIM_LIMITS_QUAL * secPeriods ≤ c.tim.age

theorem timRevert_eq [Decidable (c.revertDue a)] : timRevert c a = if c.revertDue a then timSelect c a else c := by
  refine if_congr ?_ rfl rfl
  simp only [Chan.revertDue, Option.any_eq_true, decide_eq_true_eq]

end Agreement

/-! ### States (R351) -/

section States

variable {c : Chan}

/-- A state of the timing unit is entered, with its event. -/
def timEntered (st : Nat) (c : Chan) : Chan :=
  let d := (c.set Reg.TIM_STAT_STATE st).modTim (fun t => { t with entered := t.age })
  d.post 0x0901 .tim st (timSel255 d)

theorem timState_other {st : Nat} (h : c.get Reg.TIM_STAT_STATE ≠ st) : timState c st = timEntered st c := if_neg h

variable {error : Nat}

theorem opLockAchieved_within (hst : c.get Reg.TIM_STAT_STATE = 1) (h : error ≤ (if c.get Reg.TIM_STAT_SEL = 2 ∨
    c.get Reg.TIM_STAT_SEL = 4 then 10 else c.get Reg.TIM_AGREE_LOCKNS) * 65536) :
    opLockAchieved error c = timEntered 2 c :=
  (if_pos ⟨hst, h⟩).trans (timState_other (by rw [hst]; decide))

theorem opLockAchieved_not (h : c.get Reg.TIM_STAT_STATE ≠ 1 ∨ (if c.get Reg.TIM_STAT_SEL = 2 ∨
    c.get Reg.TIM_STAT_SEL = 4 then 10 else c.get Reg.TIM_AGREE_LOCKNS) * 65536 < error) :
    opLockAchieved error c = c :=
  if_neg fun ⟨hst, hle⟩ => h.elim (fun h => h hst) (fun h => absurd hle (Nat.not_le.mpr h))

theorem opLockLost_past (hst : c.get Reg.TIM_STAT_STATE = 2) (h : 4 * c.get Reg.TIM_AGREE_LOCKNS * 65536 < error) :
    opLockLost error c = timEntered 1 c :=
  (if_pos ⟨hst, h⟩).trans (timState_other (by rw [hst]; decide))

theorem opLockLost_not (h : c.get Reg.TIM_STAT_STATE ≠ 2 ∨ error ≤ 4 * c.get Reg.TIM_AGREE_LOCKNS * 65536) :
    opLockLost error c = c :=
  if_neg fun ⟨hst, hlt⟩ => h.elim (fun h => h hst) (fun h => absurd hlt (Nat.not_lt.mpr h))

theorem opHoldoverExpiry_over (hst : c.get Reg.TIM_STAT_STATE = 3)
    (h : c.tim.entered + c.get Reg.TIM_HOLD_HOLDMAX * secPeriods ≤ c.tim.age) : opHoldoverExpiry c = timEntered 4 c :=
  (if_pos ⟨hst, h⟩).trans (timState_other (by rw [hst]; decide))

theorem opHoldoverExpiry_not (h : c.get Reg.TIM_STAT_STATE ≠ 3 ∨
    c.tim.age < c.tim.entered + c.get Reg.TIM_HOLD_HOLDMAX * secPeriods) : opHoldoverExpiry c = c :=
  if_neg fun ⟨hst, hle⟩ => h.elim (fun h => h hst) (fun h => absurd hle (Nat.not_le.mpr h))

end States

/-! ### The host's time (R342) -/

/-- TIM_HOSTTIME2, whose write completes a sample. -/
def hostTimeReg : RegDef :=
  { name := "TIM_HOSTTIME2", page := 0, pages := 1, off := 344, reps := 1, stride := 0, words := 1, staged := false
    cross := .none, act := .hostTime, fields := [{ name := "TIME", hi := 31, lo := 0, acc := .wo, reset := 0 }] }

theorem unitHit_hostTime : unitHit 0x120158 = .reg .tim 0 0 0 hostTimeReg := by decide +kernel

/-- The 96 bits of a sample, once its last word is written. -/
def hostSample (c : Chan) (v : Word) : Nat :=
  v.toNat / 2 ^ 16 + 2 ^ 16 * c.tim.host0 + 2 ^ 48 * (c.tim.host1 + 2 ^ 32 * (v.toNat % 2 ^ 16))

theorem hostWord_last (c : Chan) (v : Word) : hostWord 0x120158 v.toNat c = timHostSample c (hostSample c v) := rfl

theorem timHostSample_valid {c : Chan} {x : Nat} (h : time96Ok x = true) : timHostSample c x =
    (c.modTim (fun t => { t with hostPrev := some (timeOf96 x, t.now) })).set (Reg.TIM_REFSTAT_PRESENT 3) 1 := if_pos h

theorem timHostSample_rejected {c : Chan} {x : Nat} (h : time96Ok x = false) :
    timHostSample c x = (c.bump (Reg.TIM_REFSTAT_REJECT 3)).input .tim := if_neg (Bool.eq_false_iff.mp h)

theorem State.writeTo_hostTime {s : State} {p : Path} {n : Nat} {v : Word} (hrun : s.running n = true)
    (hopen : s.opens p (.unit n 0x120158)) : s.writeTo p (.unit n 0x120158) v =
      s.modChan n (fun c => timHostSample c (hostSample c v)) := by
  rw [State.writeTo_unitCommand hopen hrun unitHit_hostTime rfl rfl (fieldsCode_injected v) rfl (by decide) rfl rfl]
  simp only [State.act, hostTimeReg, State.modRun, hrun, if_true]
  exact State.modChan_congr _ _ _ _ (hostWord_last _ v)

/-! ### Phase adjustment (R352) -/

/-- TIM_PADJ. -/
def padjReg : RegDef :=
  { name := "TIM_PADJ", page := 0, pages := 1, off := 320, reps := 1, stride := 0, words := 2, staged := false
    cross := .none, act := .timPadj
    fields := [{ name := "ADJ", hi := 63, lo := 0, acc := .wo, reset := 0, chk := .srange (-65536000000000) 65536000000000 }] }

theorem unitHit_padj : unitHit 0x120144 = .reg .tim 0 0 1 padjReg := by decide +kernel

theorem stagedMask_padj : stagedMask 0x120140 = 0 := by decide +kernel

theorem fieldsCode_padj {x : Nat} (hx : x < 2 ^ 64) : fieldsCode padjReg.fields false x =
    if (signedOf 64 x).natAbs ≤ 65536000000000 then 0 else codeRANGE := by
  have hrest : setBitsOf x 0 64 0 = 0 := by
    simp only [setBitsOf, bitsOf]
    omega
  have hbits : bitsOf x 0 64 = x := by
    simp only [bitsOf]
    omega
  have hok : (Chk.srange (-65536000000000) 65536000000000).ok 64 x = true ↔ (signedOf 64 x).natAbs ≤ 65536000000000 := by
    simp only [Chk.ok, Bool.and_eq_true, decide_eq_true_eq]
    omega
  by_cases h : (signedOf 64 x).natAbs ≤ 65536000000000
  · simp [fieldsCode, padjReg, FieldDef.width, hrest, hbits, hok.mpr h, h, codeNONE]
  · simp [fieldsCode, padjReg, FieldDef.width, hrest, hbits, Bool.eq_false_iff.mpr (mt hok.mp h), h]

/-- The low word of an adjustment: the one that is held, or the register's. -/
def padjLow (c : Chan) : Nat := match c.bank.held.find? (fun y => y.1 == 0x120140) with
  | some y => y.2.toNat
  | none => (storeGet unitReset c.bank.regs 0x120140).toNat

theorem padjLow_lt (c : Chan) : padjLow c < 2 ^ 32 := by
  unfold padjLow
  split <;> exact BitVec.isLt _

section Padj

variable {s : State} {p : Path} {n : Nat} {v : Word} (hrun : s.running n = true) (hopen : s.opens p (.unit n 0x120144))
include hrun hopen

theorem State.writeTo_padj : s.writeTo p (.unit n 0x120144) v =
    (s.modChan n (Chan.dropHeld 0x120140)).storeReg (.unit n) p .tim padjReg 0 0 0x120140 0x120144
      (padjLow (s.chan n) + 2 ^ 32 * v.toNat) v.toNat := by
  obtain ⟨-, harr, hreach⟩ := hopen
  have hwrite : s.writeTo p (.unit n 0x120144) v = s.regWriteAt (.unit n) p 0x120144 v.toNat := by
    rw [State.writeTo, harr, hreach]
    exact State.writeAt_of_open (x := .unit n) (show s.open_ (.unit n) from hrun) p 0x120144 v
  rw [hwrite]
  cases hheld : (s.chan n).bank.held.find? (fun y => y.1 == 0x120140) with
  | some y =>
    rw [State.regWriteAt_high hrun unitHit_padj rfl rfl (by decide) hheld]
    simp only [padjLow, hheld]
  | none =>
    have hcopy : s.copyAt (.unit n) .tim 0x120140 false = storeGet Machine.unitReset (s.chan n).bank.regs 0x120140 := by
      simp [State.copyAt, Site.mask, stagedMask_padj, State.bankAt, Site.rst]
    rw [State.regWriteAt_high_alone hrun unitHit_padj rfl rfl (by decide) hheld, hcopy]
    simp only [padjLow, hheld]

theorem State.writeTo_padj_accept (h : (signedOf 64 (padjLow (s.chan n) + 2 ^ 32 * v.toNat)).natAbs ≤ 65536000000000) :
    s.writeTo p (.unit n 0x120144) v = s.modChan n (fun c => timPhaseAdjust (c.dropHeld 0x120140)
      (signedOf 64 (padjLow (s.chan n) + 2 ^ 32 * v.toNat))) := by
  have hlt : padjLow (s.chan n) + 2 ^ 32 * v.toNat < 2 ^ 64 := by
    have := padjLow_lt (s.chan n)
    have := v.isLt
    omega
  rw [State.writeTo_padj hrun hopen, State.storeReg_accept (by rfl) ((fieldsCode_padj hlt).trans (if_pos h)) rfl rfl,
    if_neg (by decide)]
  have hrun' : (s.modChan n (Chan.dropHeld 0x120140)).running n = true := hrun
  exact (if_pos hrun').trans (State.modChan_modChan ..)

theorem State.writeTo_padj_refuse (h : 65536000000000 < (signedOf 64 (padjLow (s.chan n) + 2 ^ 32 * v.toNat)).natAbs) :
    s.writeTo p (.unit n 0x120144) v = s.modChan n (fun c =>
      discardUnit .tim codeRANGE (bar0Unit n 0x120144) (pathCode p) v.toNat (c.dropHeld 0x120140)) := by
  have hlt : padjLow (s.chan n) + 2 ^ 32 * v.toNat < 2 ^ 64 := by
    have := padjLow_lt (s.chan n)
    have := v.isLt
    omega
  have hcode : fieldsCode padjReg.fields padjReg.staged (padjLow (s.chan n) + 2 ^ 32 * v.toNat) = codeRANGE :=
    (fieldsCode_padj hlt).trans (if_neg (Nat.not_le.mpr h))
  rw [State.writeTo_padj hrun hopen, State.storeReg_badFields (by rfl) (by rw [hcode]; decide), hcode,
    State.discardAt_unit (by exact hrun) (by decide), State.modChan_modChan]
  rfl

end Padj

theorem timPhaseAdjust_step {c : Chan} {x : Int} (h : c.mode = 7) :
    timPhaseAdjust c x = c.modTim (fun t => { t with fine := (t.fine + x * 2 ^ 32).toNat }) := if_pos h

theorem timPhaseAdjust_spread {c : Chan} {x : Int} (h : c.mode ≠ 7) :
    timPhaseAdjust c x = c.modTim (fun t => { t with padj := t.padj + x * 2 ^ 32 }) := if_neg h

/-- Settles O44: contests and states are branches of their operations; the two writes come down to `timHostSample` and
`timPhaseAdjust`. -/
theorem timingStates : Obligations.TimingStates := by
  classical
  refine ⟨fun n a b fa fb s hl => ⟨fun h => ?_, fun h => ?_, fun fw => ⟨fun h => ?_, fun k h => ⟨fun hal => ?_,
      fun hal hw => ?_, fun win lose hal hw hdiff hwin => ?_⟩⟩, fun h => ⟨fun hany => ?_, fun hany => ?_⟩, fun h => ?_,
      fun h => ?_, fun h => ?_⟩,
    fun n error s hl => ⟨fun hst h => ?_, fun h => ?_, fun hst h => ?_, fun h => ?_, fun hst h => ?_, fun h => ?_⟩,
    fun n p v s hl => ⟨fun hopen => ⟨fun h => ?_, fun h => ?_⟩, fun hopen => ⟨fun h hm => ?_, fun h hm => ?_, fun h => ?_⟩⟩⟩
  · exact unitOp_completes (f := fun c => timContest c a b fa fb) rfl hl (timContest_opens h)
  · exact unitOp_completes (f := fun c => timContest c a b fa fb) rfl hl (timContest_not h)
  · exact unitOp_completes (f := fun c => timContestEnd c a b fa fb fw) rfl hl (timContestEnd_none h)
  · exact unitOp_completes (f := fun c => timContestEnd c a b fa fb fw) rfl hl (timContestEnd_alarmed h hal)
  · exact unitOp_completes (f := fun c => timContestEnd c a b fa fb fw) rfl hl (timContestEnd_left h hal hw)
  · exact unitOp_completes (f := fun c => timContestEnd c a b fa fb fw) rfl hl (timContestEnd_decided h hal hw hdiff hwin)
  · exact unitOp_completes (f := fun c => timPairAgree c a b fa fb) rfl hl ((timPairAgree_within h).trans (if_pos hany))
  · exact unitOp_completes (f := fun c => timPairAgree c a b fa fb) rfl hl
      ((timPairAgree_within h).trans (if_neg (Bool.eq_false_iff.mp hany)))
  · exact unitOp_completes (f := fun c => timPairAgree c a b fa fb) rfl hl (timPairAgree_not h)
  · exact unitOp_completes (f := fun c => timRevert c a) rfl hl (timRevert_eq.trans (if_pos h))
  · exact unitOp_completes (f := fun c => timRevert c a) rfl hl (timRevert_eq.trans (if_neg h))
  · exact unitOp_completes (f := opLockAchieved error) rfl hl (opLockAchieved_within hst h)
  · exact unitOp_completes (f := opLockAchieved error) rfl hl (opLockAchieved_not h)
  · exact unitOp_completes (f := opLockLost error) rfl hl (opLockLost_past hst h)
  · exact unitOp_completes (f := opLockLost error) rfl hl (opLockLost_not h)
  · exact unitOp_completes (f := opHoldoverExpiry) rfl hl (opHoldoverExpiry_over hst h)
  · exact unitOp_completes (f := opHoldoverExpiry) rfl hl (opHoldoverExpiry_not h)
  all_goals obtain ⟨hon, hrun⟩ := hl
  · refine run_completes (f := State.writeTo p (.unit n 0x120158) v) rfl hon ?_
    refine (State.writeTo_hostTime (s := s.quiet) hrun (State.quiet_opens hopen)).trans (State.modChan_congr _ _ _ _ ?_)
    exact timHostSample_valid h
  · refine run_completes (f := State.writeTo p (.unit n 0x120158) v) rfl hon ?_
    refine (State.writeTo_hostTime (s := s.quiet) hrun (State.quiet_opens hopen)).trans (State.modChan_congr _ _ _ _ ?_)
    exact timHostSample_rejected h
  · refine run_completes (f := State.writeTo p (.unit n 0x120144) v) rfl hon ?_
    refine (State.writeTo_padj_accept (s := s.quiet) hrun (State.quiet_opens hopen) h).trans (State.modChan_congr _ _ _ _ ?_)
    exact timPhaseAdjust_step hm
  · refine run_completes (f := State.writeTo p (.unit n 0x120144) v) rfl hon ?_
    refine (State.writeTo_padj_accept (s := s.quiet) hrun (State.quiet_opens hopen) h).trans (State.modChan_congr _ _ _ _ ?_)
    exact timPhaseAdjust_spread hm
  · refine run_completes (f := State.writeTo p (.unit n 0x120144) v) rfl hon ?_
    exact State.writeTo_padj_refuse (s := s.quiet) hrun (State.quiet_opens hopen) h

end Sys2Proof.Machine

/-! Thermal management, rails and scorecards (17_bench_and_substitution.md, 18_thermal_power_telemetry.md). -/

namespace Sys2Proof.Machine

/-! ### Scorecards (R427, R474) -/

section Cards

variable {s : State} {n : Nat} {f g : Cards → Cards}

theorem State.modCards_congr (h : f (s.card n) = g (s.card n)) : s.modCards n f = s.modCards n g := by
  have hlist : s.ump.cards.modify n f = s.ump.cards.modify n g := by
    apply List.ext_getElem?
    intro i
    simp only [List.getElem?_modify]
    by_cases hi : n = i
    · subst hi
      cases hu : s.ump.cards[n]? with
      | none => simp
      | some c =>
        have hc : s.card n = c := by simp [State.card, List.getD, hu]
        simp [← hc, h]
    · simp [hi]
  exact congrArg (fun l => s.modUmp (fun u => { u with cards := l })) hlist

theorem State.modCards_modCards : (s.modCards n f).modCards n g = s.modCards n (fun y => g (f y)) := by
  have hlist : (s.ump.cards.modify n f).modify n g = s.ump.cards.modify n (fun y => g (f y)) := List.modify_modify_eq ..
  exact congrArg (fun l => s.modUmp (fun u => { u with cards := l })) hlist

theorem opCardReceive_none (h : (s.card n).transfer = none) (ok : Bool) : opCardReceive n ok s = s := by
  simp only [opCardReceive, h]

theorem opCardReceive_bad (h : (s.card n).transfer.isSome = true) :
    opCardReceive n false s = s.modCards n (fun y => { y with transfer := none }) := by
  obtain ⟨k, hk⟩ := Option.isSome_iff_exists.mp h
  simp only [opCardReceive, hk]
  rfl

/-- A good transfer, with the copy to the host's ring where SUP_SC_HOST asks for it. -/
theorem opCardReceive_good {k : Scorecard} (h : (s.card n).transfer = some k) : opCardReceive n true s =
    let t := s.modCards n (fun y => { y with transfer := none, latest := some k, previous := y.latest })
    if bitAt (s.uget Reg.SUP_SC_HOST_HOST) n then t.ringRecord (32 * n + 30) (cardBytes k) else t := by
  simp only [opCardReceive, h]
  rw [State.modCards_modCards]
  rfl

end Cards

/-- Settles O42: a transfer is there or not, arrives whole or not, and the host's ring takes it or not. -/
theorem scorecards : Obligations.Scorecards := by
  intro n s hon
  refine ⟨fun k hk hhost => ?_, fun k hk hhost => ?_, fun hk => ?_, fun ok hk => ?_, ?_⟩
  · exact run_completes (f := opCardReceive n true) rfl hon
      ((opCardReceive_good (s := s.quiet) hk).trans (if_neg (by simp [hhost])))
  · exact run_completes (f := opCardReceive n true) rfl hon ((opCardReceive_good (s := s.quiet) hk).trans (if_pos hhost))
  · exact run_completes (f := opCardReceive n false) rfl hon (opCardReceive_bad (s := s.quiet) hk)
  · exact run_idle (f := opCardReceive n ok) rfl hon (opCardReceive_none (s := s.quiet) hk ok)
  · exact run_completes (f := State.modCards n (fun c => { c with transfer := none })) rfl hon rfl

/-! ### Dies (R444 to R449) -/

section Dies

variable (t : Int) (up : Bool) (x : Die)

/-- Without a counted neighbour there is nothing to be far from: the reading stands. -/
theorem judgeDie_reading : (judgeDie (some t) [] up x).temp = t ∧ (judgeDie (some t) [] up x).suspect = false := by
  cases hs : x.suspect <;> simp [judgeDie, hs]

theorem judgeDie_warn :
    (judgeDie (some t) [] up x).warn = if t ≥ 1080 then true else if t < 1030 then false else x.warn := by
  cases hs : x.suspect <;> simp [judgeDie, hs]

theorem judgeDie_hot (h : x.shut = false) :
    (judgeDie (some t) [] up x).hot = if 1320 ≤ t then x.hot + 1 else 0 := by
  cases hs : x.suspect <;> simp [judgeDie, hs, h]

theorem judgeDie_absent : (judgeDie none [] up x).temp = 1500 ∧ (judgeDie none [] up x).suspect = true ∧
    (judgeDie none [] up x).warn = true := by
  simp [judgeDie]

end Dies

section Ceiling

variable {c : Nat} {t : Int}

/-- The highest rung whose entry temperature is reached: rung k at 115.0 °C and 1.5 °C more for each rung after the first. -/
def reachedRung (t : Int) : Nat := if t ≥ 1150 then min 7 (1 + ((t - 1150) / 15).toNat) else 0

theorem le_reachedRung {k : Nat} (hk : 1 ≤ k) (hk7 : k ≤ 7) : k ≤ reachedRung t ↔ 1150 + 15 * ((k : Int) - 1) ≤ t := by
  unfold reachedRung
  split <;> omega

theorem reachedRung_le : reachedRung t ≤ 7 := by
  unfold reachedRung
  split <;> omega

theorem nextCeiling_eq : nextCeiling c t = if c < reachedRung t then reachedRung t
    else if 0 < c ∧ t ≤ 1150 + 15 * ((c : Int) - 1) - 10 then c - 1 else c := rfl

theorem nextCeiling_le (hc : c ≤ 7) : nextCeiling c t ≤ 7 := by
  have := reachedRung_le (t := t)
  rw [nextCeiling_eq]
  split
  · assumption
  · split <;> omega

/-- A rung above the present one is come to exactly where its entry temperature is reached. -/
theorem le_nextCeiling {k : Nat} (hk : 1 ≤ k) (hk7 : k ≤ 7) (hck : c < k) :
    k ≤ nextCeiling c t ↔ 1150 + 15 * ((k : Int) - 1) ≤ t := by
  rw [← le_reachedRung hk hk7, nextCeiling_eq]
  split
  · rfl
  · split <;> omega

theorem nextCeiling_falls (hc : 1 ≤ c) (hc7 : c ≤ 7) (ht : t ≤ 1150 + 15 * ((c : Int) - 1) - 10) :
    nextCeiling c t = c - 1 := by
  have hr : ¬ c < reachedRung t := fun h => by
    have := (le_reachedRung hc hc7).mp h.le
    omega
  rw [nextCeiling_eq, if_neg hr, if_pos ⟨hc, ht⟩]

theorem nextCeiling_stays (hc7 : c ≤ 7) (hlow : 1150 + 15 * ((c : Int) - 1) - 10 < t)
    (hhigh : t < 1150 + 15 * (c : Int)) : nextCeiling c t = c := by
  have hr : ¬ c < reachedRung t := fun h => by
    have hle := reachedRung_le (t := t)
    have := (le_reachedRung (t := t) (k := c + 1) (by omega) (by omega)).mp h
    omega
  rw [nextCeiling_eq, if_neg hr, if_neg (by omega)]

end Ceiling

/-- Settles O55: a reading that nothing contradicts stands, and the ceiling goes up to the rung that is reached. -/
theorem dieReadings : Obligations.DieReadings := by
  refine ⟨fun t up x => ⟨⟨(judgeDie_reading t up x).1, (judgeDie_reading t up x).2, ?_, judgeDie_hot t up x⟩,
    judgeDie_absent up x⟩, fun c t hc => ⟨nextCeiling_le hc, fun k hk hk7 hck => le_nextCeiling hk hk7 hck,
    fun h1 ht => nextCeiling_falls h1 hc ht, fun _ hlow hhigh => nextCeiling_stays hc hlow hhigh⟩⟩
  rw [judgeDie_warn]
  split_ifs <;> grind

/-! ### Rails (R50, R51, R454, R455) -/

section Rails

variable {s : State} {r : Nat} {f g : Rail → Rail}

theorem State.modRail_congr (h : f (s.rail r) = g (s.rail r)) : s.modRail r f = s.modRail r g := by
  have hlist : s.ump.rails.modify r f = s.ump.rails.modify r g := by
    apply List.ext_getElem?
    intro i
    simp only [List.getElem?_modify]
    by_cases hi : r = i
    · subst hi
      cases hu : s.ump.rails[r]? with
      | none => simp
      | some c =>
        have hc : s.rail r = c := by simp [State.rail, List.getD, hu]
        simp [← hc, h]
    · simp [hi]
  exact congrArg (fun l => s.modUmp (fun u => { u with rails := l })) hlist

theorem State.modRail_modRail : (s.modRail r f).modRail r g = s.modRail r (fun x => g (f x)) := by
  have hlist : (s.ump.rails.modify r f).modify r g = s.ump.rails.modify r (fun x => g (f x)) := List.modify_modify_eq ..
  exact congrArg (fun l => s.modUmp (fun u => { u with rails := l })) hlist

theorem State.modRail_rail (h : r < s.ump.rails.length) : (s.modRail r f).rail r = f (s.rail r) := by
  have hlist : (s.ump.rails.modify r f).getD r {} = f (s.ump.rails.getD r {}) := by simp [List.getD, h]
  exact hlist

theorem State.railStep_ends (h : (s.rail r).noresp = true ∨ (s.rail r).steps = 0 ∨
      0 < (s.rail r).steps ∧ 800 < (s.rail r).target + 10 ∨ (s.rail r).steps < 0 ∧ (s.rail r).target - 10 < 700) :
    s.railStep r = s.modRail r (fun x => { x with steps := 0 }) := by
  by_cases hstop : (s.rail r).noresp = true ∨ (s.rail r).steps = 0
  · exact if_pos hstop
  · refine (if_neg hstop).trans (if_pos ?_)
    grind

/-- A step within the limits, up or down. -/
theorem State.railStep_goes {mv : Nat} {d : Int} (hn : (s.rail r).noresp = false)
    (h : 0 < (s.rail r).steps ∧ mv = (s.rail r).target + 10 ∧ d = -1 ∨
      (s.rail r).steps < 0 ∧ mv = (s.rail r).target - 10 ∧ d = 1) (hlow : 700 ≤ mv) (hhigh : mv ≤ 800) :
    s.railStep r = (s.modRail r (fun x => { x with
      target := mv, steps := x.steps + d, last := some s.centre.xcount })).avsBegin r (.voltageWrite mv) := by
  have hrun : ¬ ((s.rail r).noresp = true ∨ (s.rail r).steps = 0) := by grind
  refine (if_neg hrun).trans ?_
  obtain ⟨hup, rfl, rfl⟩ | ⟨hdown, rfl, rfl⟩ := h
  · simp only [hup, decide_true, if_true]
    rw [if_neg (by omega)]
    exact congrArg (State.avsBegin r _) (State.modRail_congr rfl)
  · have hnot : ¬ 0 < (s.rail r).steps := by omega
    simp only [hnot, decide_false, Bool.false_eq_true, if_false]
    rw [if_neg (by omega)]

theorem State.stepDue_waits (h : s.railFree r = false) : s.stepDue r = s := if_neg (by simp [h])
theorem State.stepDue_free (h : s.railFree r = true) : s.stepDue r = s.railStep r := if_pos h

/-- Asking for steps does not change when the last one was. -/
theorem State.railFree_steps (n : Int) :
    (s.modRail r (fun x => { x with steps := n })).railFree r = s.railFree r := by
  by_cases h : r < s.ump.rails.length
  · simp only [State.railFree, State.modRail_rail h]
    rfl
  · have hsame : s.modRail r (fun x => { x with steps := n }) = s := by
      have hlist : s.ump.rails.modify r (fun x => { x with steps := n }) = s.ump.rails :=
        List.modify_eq_self (by omega)
      exact congrArg (fun l => s.modUmp (fun u => { u with rails := l })) hlist
    rw [hsame]

theorem State.railMove_waits {n : Int} (h : s.railFree r = false) :
    s.railMove r n = s.modRail r (fun x => { x with steps := n }) := if_neg (by simp [State.railFree_steps, h])

theorem State.railMove_free {n : Int} (h : s.railFree r = true) :
    s.railMove r n = (s.modRail r (fun x => { x with steps := n })).railStep r :=
  if_pos ((State.railFree_steps n).trans h)

theorem State.fastStep_stopped (h : (s.rail r).noresp = true) : s.fastStep r = s := if_pos (.inr h)

theorem State.fastStep_adds (hr : r < 6) (h : (s.rail r).noresp = false) :
    s.fastStep r = s.railMove r ((s.rail r).steps + 1) := if_neg (by simp [h, hr])

/-- Nothing is left to be done: the step down that waited is taken back, or the rail is at its limit. -/
theorem State.fastStep_ends (hr : r < 6) (hlen : r < s.ump.rails.length) (hn : (s.rail r).noresp = false)
    (hfree : s.railFree r = true) (h : (s.rail r).steps = -1 ∨ 0 ≤ (s.rail r).steps ∧ 800 < (s.rail r).target + 10) :
    s.fastStep r = s.modRail r (fun x => { x with steps := 0 }) := by
  rw [State.fastStep_adds hr hn, State.railMove_free hfree, State.railStep_ends, State.modRail_modRail]
  rw [State.modRail_rail hlen]
  simp only
  omega

/-- A step up at once. -/
theorem State.fastStep_goes (hr : r < 6) (hlen : r < s.ump.rails.length) (hn : (s.rail r).noresp = false)
    (hfree : s.railFree r = true) (hs : 0 ≤ (s.rail r).steps) (hhigh : (s.rail r).target + 10 ≤ 800)
    (hlow : 700 ≤ (s.rail r).target + 10) : s.fastStep r = (s.modRail r (fun x => { x with
      target := (s.rail r).target + 10, last := some s.centre.xcount })).avsBegin r
        (.voltageWrite ((s.rail r).target + 10)) := by
  rw [State.fastStep_adds hr hn, State.railMove_free hfree,
    State.railStep_goes (mv := (s.rail r).target + 10) (d := -1) (by rw [State.modRail_rail hlen]; exact hn)
      (.inl (by rw [State.modRail_rail hlen]; exact ⟨by simp only; omega, rfl, rfl⟩)) hlow hhigh, State.modRail_modRail]
  refine congrArg (State.avsBegin r _) (State.modRail_congr ?_)
  simp only [Int.add_neg_cancel_right]
  rfl

end Rails

/-- Settles O56: a step is asked for beside those due, and goes at once where the spacing allows it. -/
theorem marginSteps : Obligations.MarginSteps := by
  intro r x s hon hr hx
  have hrail : s.rail r = x := by simp [State.rail, List.getD, hx]
  have hlen : r < s.ump.rails.length := (List.getElem?_eq_some_iff.mp hx).1
  have hsame {f : Rail → Rail} {y : Rail} (h : f x = y) : s.quiet.modRail r f = s.quiet.modRail r (fun _ => y) :=
    State.modRail_congr (s := s.quiet) (by rw [show s.quiet.rail r = x from hrail, h])
  subst hrail
  refine ⟨fun hn hfree hs hhigh hlow => ?_, fun hn hfree h => ?_, fun hn hwait => ?_, fun hn => ?_⟩
  · refine run_completes (f := State.fastStep r) rfl hon
      ((State.fastStep_goes (s := s.quiet) hr hlen hn hfree hs hhigh hlow).trans ?_)
    exact congrArg (State.avsPut r _) (State.modRail_modRail.trans (hsame rfl))
  · exact run_completes (f := State.fastStep r) rfl hon
      ((State.fastStep_ends (s := s.quiet) hr hlen hn hfree h).trans (hsame rfl))
  · exact run_completes (f := State.fastStep r) rfl hon
      ((State.fastStep_adds (s := s.quiet) hr hn).trans
        ((State.railMove_waits (s := s.quiet) hwait).trans (hsame rfl)))
  · exact run_idle (f := State.fastStep r) rfl hon (State.fastStep_stopped (s := s.quiet) hn)

section Timeouts

variable {s : State} {r : Nat} {c : AvsCmd}

theorem State.railTimeout_again (hr : r < 6) (hn : (s.rail r).noresp = false) (hc : (s.rail r).cmd = some c)
    (ht : (s.rail r).tries < 2) :
    s.railTimeout r = (s.modRail r (fun x => { x with tries := x.tries + 1 })).avsPut r c := by
  simp only [State.railTimeout, hc]
  rw [if_neg (by simp [hn, hr]), if_pos ht]

theorem State.railTimeout_last (hr : r < 6) (hn : (s.rail r).noresp = false) (hc : (s.rail r).cmd = some c)
    (ht : 2 ≤ (s.rail r).tries) : s.railTimeout r = (s.modRail r (fun x => { x with
      noresp := true, steps := 0, cmd := none, tries := 0 })).post 0x0B05 .sup r 0 := by
  simp only [State.railTimeout, hc]
  rw [if_neg (by simp [hn, hr]), if_neg (by omega)]

theorem State.railTimeout_none (h : (s.rail r).noresp = true ∨ (s.rail r).cmd = none) : s.railTimeout r = s := by
  unfold State.railTimeout
  simp only
  split
  · next c hc => exact if_pos (.inr (h.resolve_right (by simp [hc])))
  · rfl

theorem State.benchCheck_idle (h : s.substBusy = false) : s.benchCheck = s := if_neg (by simp [h])

end Timeouts

/-- Settles O57: a step due goes where the spacing allows it, and an attempt that is not answered is the first, the second or
the last. -/
theorem railSteps : Obligations.RailSteps := by
  intro r s hon x
  have hdue {g : State → State} (h : s.quiet.stepDue r = g s.quiet) : Completes (.avsStepDue r) s g :=
    run_completes (f := State.stepDue r) rfl hon h
  have htimeout {g : State → State} (h : s.quiet.railTimeout r = g s.quiet) :
      Completes (.avsTimeout r) s (fun s => (g s).benchCheck) :=
    run_completes (f := fun s => (s.railTimeout r).benchCheck) rfl hon (congrArg State.benchCheck h)
  refine ⟨fun mv d hfree hn h hlow hhigh => ?_, fun hfree h => ?_, fun hwait => ?_, fun c hr hn hc ht => ?_,
    fun c hr hn hc ht => ?_, fun h => ?_, State.benchCheck_idle⟩
  · exact hdue ((State.stepDue_free (s := s.quiet) hfree).trans (State.railStep_goes (s := s.quiet) hn h hlow hhigh))
  · exact hdue ((State.stepDue_free (s := s.quiet) hfree).trans (State.railStep_ends (s := s.quiet) h))
  · exact hdue (g := id) (State.stepDue_waits (s := s.quiet) hwait)
  · exact htimeout (State.railTimeout_again (s := s.quiet) hr hn hc ht)
  · exact htimeout (State.railTimeout_last (s := s.quiet) hr hn hc ht)
  · exact htimeout (g := id) (State.railTimeout_none (s := s.quiet) h)

end Sys2Proof.Machine

/-! The bench (17_bench_and_substitution.md), housekeeping (18_thermal_power_telemetry.md) and the log
(19_faults_and_umpire.md). -/

namespace Sys2Proof.Machine

/-! ### The log (R464, R467, R469) -/

/-- SUP_LOG_CTL. -/
def logCtlReg : RegDef :=
  { name := "SUP_LOG_CTL", page := 1, pages := 1, off := 308, reps := 1, stride := 0, words := 1, staged := false
    cross := .none, act := .logCtl, fields := [{ name := "CLEAR", hi := 0, lo := 0, acc := .wo, reset := 0 }] }

theorem logCtl_isCommand : IsCommandReg 0x41134 .sup 1 0 logCtlReg := ⟨by decide +kernel, rfl, rfl, rfl⟩

theorem State.writeTo_logCtl {s : State} {p : Path} (hopen : s.opens p (.hub 0x41134)) :
    s.writeTo p (.hub 0x41134) 1 = s.logClear := by
  rw [State.writeTo_command logCtl_isCommand hopen (by decide) rfl rfl]
  rfl

section Suppressed

variable {src typ : Nat} {s : State}

theorem opSuppressed_none (h : s.ump.log.rates.find? (fun r => r.source == src && r.typ == typ) = none) :
    opSuppressed src typ s = s := by
  simp only [opSuppressed, h]

variable {r : LogRate} (h : s.ump.log.rates.find? (fun r => r.source == src && r.typ == typ) = some r)
include h

theorem opSuppressed_nothing (hr : s.centre.xcount / xSec ≤ r.second ∨ r.suppressed = 0) : opSuppressed src typ s = s := by
  simp only [opSuppressed, h, State.logSuppressed]
  split
  · rw [if_pos (by omega)]
  · rfl

theorem opSuppressed_some (hsec : r.second < s.centre.xcount / xSec) (hn : r.suppressed ≠ 0) :
    opSuppressed src typ s = (s.logRaw 0x0E03 0xF 7 0 (typ + src * 2 ^ 16) r.suppressed).modUmp (fun u =>
      { u with log := { u.log with rates := u.log.rates.map (fun x =>
        if x.source == src && x.typ == typ then { x with suppressed := 0 } else x) } }) := by
  simp only [opSuppressed, h, State.logSuppressed, if_pos hsec, if_neg hn]

end Suppressed

/-- SUP_STATUS0 to SUP_STATUS7. -/
def statusReg : RegDef :=
  { name := "SUP_STATUS", page := 4, pages := 1, off := 256, reps := 8, stride := 4, words := 1, staged := false
    cross := .none, act := .none, fields := [{ name := "BYTES", hi := 31, lo := 0, acc := .ro, reset := 0 }] }

theorem status_hit : hubHit 0x44100 = .reg .sup 4 0 0 statusReg := by decide +kernel

/-- The summary is kept for a path. -/
def State.latchSummary (p : Path) (s : State) : State :=
  s.modUmp (fun u => { u with status := (p, s.summary) :: u.status.filter (fun e => e.1 != p) })

theorem State.latchSummary_latch (s : State) (p : Path) : (s.latchSummary p).statusLatch p = s.summary := by
  simp [State.statusLatch, State.latchSummary, State.modUmp, State.ump]

theorem State.hubView_status (s : State) (p : Path) : s.hubView p 0x44100 = some (wordOfNats (s.statusLatch p) 0) := by
  simp only [State.hubView]
  norm_num

theorem State.regRead_status {s : State} {p : Path} : s.regRead .hub p .sup 4 0 0 statusReg 0x44100 =
    (wordOfNats s.summary 0 % 2 ^ 32, s.latchSummary p) := by
  have hlatch : s.modUmp (fun u => { u with status := (p, s.summary) :: u.status.filter (fun e => e.1 != p) }) =
      s.latchSummary p := rfl
  simp only [State.regRead, hlatch, State.readWord, State.hubView_status]
  simp [statusReg, nowHigh, readFields, State.latchSummary_latch]

theorem opStatusRead_opens {s : State} {p : Path} (hopen : s.opens p (.hub 0x44100)) : opStatusRead p s =
    (s.latchSummary p).put (.readData (BitVec.ofNat 32 (wordOfNats s.summary 0))) := by
  obtain ⟨-, harr, hreach⟩ := hopen
  have hread : s.readAt p (.hub 0x44100) = (wordOfNats s.summary 0 % 2 ^ 32, s.latchSummary p) := by
    simp only [State.readAt, State.regReadAt, Site.hit, status_hit]
    exact State.regRead_status
  have hword : BitVec.ofNat 32 (wordOfNats s.summary 0 % 2 ^ 32) = BitVec.ofNat 32 (wordOfNats s.summary 0) :=
    BitVec.eq_of_toNat_eq (by simp)
  simp only [opStatusRead, harr, hreach, Bool.and_self, if_true, hread, hword]

section Rates

variable {typ src cls due a0 a1 : Nat} {r : LogRate} {s : State}
  (h : s.ump.log.rates.find? (fun r => r.source == src && r.typ == typ && r.second == s.centre.xcount / xSec) = some r)
include h

/-- An entry within the limit. -/
theorem State.logAdd_within (hr : r.logged < 8) :
    (s.logAdd typ src cls due a0 a1).ump.log.entries = (s.logRaw typ src cls due a0 a1).ump.log.entries ∧
      { r with logged := r.logged + 1 } ∈ (s.logAdd typ src cls due a0 a1).ump.log.rates := by
  simp only [State.logAdd, h, if_pos hr]
  exact ⟨rfl, List.mem_append_right _ (List.mem_singleton.mpr rfl)⟩

/-- An entry beyond the limit is counted only. -/
theorem State.logAdd_beyond (hr : 8 ≤ r.logged) :
    (s.logAdd typ src cls due a0 a1).ump.log.entries = s.ump.log.entries ∧
      { r with suppressed := r.suppressed + 1 } ∈ (s.logAdd typ src cls due a0 a1).ump.log.rates := by
  simp only [State.logAdd, h, if_neg (Nat.not_lt.mpr hr)]
  exact ⟨rfl, List.mem_append_right _ (List.mem_singleton.mpr rfl)⟩

end Rates

/-- Settles O58: the two registers act where they are reached, and the count of a SOURCE and TYPE stands at its limit or
below it. -/
theorem logCommands : Obligations.LogCommands := by
  refine ⟨fun p src typ s hon => ⟨fun hopen => ?_, fun hr => ?_, fun r hr h => ?_, fun r hr hsec hn => ?_, fun hopen => ?_⟩,
    fun typ src cls due a0 a1 r s h => ⟨State.logAdd_within h, State.logAdd_beyond h⟩⟩
  · exact run_completes (f := State.writeTo p (.hub 0x41134) 1#32) rfl hon
      (State.writeTo_logCtl (s := s.quiet) (State.quiet_opens hopen))
  · exact run_idle (f := opSuppressed src typ) rfl hon (opSuppressed_none (s := s.quiet) hr)
  · exact run_idle (f := opSuppressed src typ) rfl hon (opSuppressed_nothing (s := s.quiet) hr h)
  · exact run_completes (f := opSuppressed src typ) rfl hon (opSuppressed_some (s := s.quiet) hr hsec hn)
  · exact run_completes (f := opStatusRead p) rfl hon (opStatusRead_opens (s := s.quiet) (State.quiet_opens hopen))

/-! ### SUP_BENCH and SUP_SUBST_CTL (R425, R432, R439) -/

/-- A value that the fields of a hub register do not allow. -/
theorem State.writeTo_hub_badFields {s : State} {p : Path} {off page rep : Nat} {v : Word} {b : Block} {d : RegDef}
    (hopen : s.opens p (.hub off)) (hh : hubHit off = .reg b page rep 0 d) (hw : d.words = 1) (hs : d.staged = false)
    (hc : fieldsCode d.fields false v.toNat ≠ 0) :
    s.writeTo p (.hub off) v = s.discardHub b (fieldsCode d.fields false v.toNat) off (pathCode p) v.toNat := by
  obtain ⟨-, harr, hreach⟩ := hopen
  rw [show s.writeTo p (.hub off) v = _ from State.writeTo_reg (x := .hub) harr hreach trivial hh hw,
    State.storeReg_badFields (by simp [hs]) (by rwa [hs]), State.discardAt_hub, hs]
  rfl

/-- SUP_BENCH. -/
def benchReg : RegDef :=
  { name := "SUP_BENCH", page := 3, pages := 1, off := 256, reps := 1, stride := 0, words := 1, staged := false
    cross := .none, act := .bench
    fields := [{ name := "BENCH", hi := 2, lo := 0, acc := .rw, reset := 4, chk := .enum [0, 1, 2, 3, 4, 7] }] }

theorem bench_hit : hubHit 0x43100 = .reg .sup 3 0 0 benchReg := by decide +kernel

/-- A unit, or none. -/
theorem fieldsCode_bench {v : Nat} (h : v ≤ 4 ∨ v = 7) : fieldsCode benchReg.fields false v = 0 := by
  obtain h | rfl := h
  · interval_cases v <;> decide
  · decide

theorem fieldsCode_noBench {v : Nat} (h4 : 4 < v) (h7 : v ≠ 7) : fieldsCode benchReg.fields false v = codeRANGE := by
  by_cases h8 : v < 8
  · interval_cases v
    · decide
    · decide
    · exact absurd rfl h7
  · refine if_pos (.inl ?_)
    simp only [benchReg, List.foldl_cons, List.foldl_nil, FieldDef.width, setBitsOf, bitsOf]
    omega

section Designate

variable {s : State} {p : Path} {v : Word} (hopen : s.opens p (.hub 0x43100))
include hopen

theorem State.writeTo_bench (hv : v.toNat ≤ 4 ∨ v.toNat = 7) (hcode : s.benchCode v.toNat = 0) :
    s.writeTo p (.hub 0x43100) v = (s.putWord .sup 0x43100 (BitVec.ofNat 32 (setBitsOf
      (storeGet hubReset s.ump.bank.regs 0x43100).toNat 0 3 v.toNat))).designate v.toNat := by
  obtain ⟨-, harr, hreach⟩ := hopen
  have hstores : benchReg.fields.any (fun f => f.acc == .rw || f.acc == .w1c) = true := rfl
  have hbits : bitsOf v.toNat 0 3 = v.toNat := by
    simp only [bitsOf]
    omega
  rw [State.writeTo_hub harr hreach bench_hit rfl rfl (fieldsCode_bench hv) rfl hcode, if_pos hstores]
  have hfields : ∀ old : Nat, storeFields benchReg.fields (fun _ => true) old v.toNat = setBitsOf old 0 3 v.toNat := by
    intro old
    simp [storeFields, benchReg, FieldDef.width, hbits]
  rw [hfields]
  rfl

theorem State.writeTo_bench_refuse (hv : v.toNat ≤ 4 ∨ v.toNat = 7) (hcode : s.benchCode v.toNat ≠ 0) :
    s.writeTo p (.hub 0x43100) v = s.discardHub .sup (s.benchCode v.toNat) 0x43100 (pathCode p) v.toNat := by
  obtain ⟨-, harr, hreach⟩ := hopen
  exact State.writeTo_hub_refuse harr hreach bench_hit rfl rfl (fieldsCode_bench hv) rfl hcode

theorem State.writeTo_bench_range (h4 : 4 < v.toNat) (h7 : v.toNat ≠ 7) :
    s.writeTo p (.hub 0x43100) v = s.discardHub .sup codeRANGE 0x43100 (pathCode p) v.toNat := by
  have hcode := fieldsCode_noBench h4 h7
  rw [State.writeTo_hub_badFields hopen bench_hit rfl rfl (by rw [hcode]; decide), hcode]

end Designate

/-- SUP_SUBST_CTL. -/
def substCtlReg : RegDef :=
  { name := "SUP_SUBST_CTL", page := 3, pages := 1, off := 264, reps := 1, stride := 0, words := 1, staged := false
    cross := .substCtl, act := .substCtl
    fields := [{ name := "UNIT", hi := 2, lo := 0, acc := .wo, reset := 0, chk := .range 0 4 },
      { name := "GO", hi := 8, lo := 8, acc := .wo, reset := 0 },
      { name := "RETURN", hi := 9, lo := 9, acc := .wo, reset := 0 }] }

theorem substCtl_isCommand : IsCommandReg 0x43108 .sup 3 0 substCtlReg := ⟨by decide +kernel, rfl, rfl, rfl⟩

/-- GO or RETURN of unit `u`: bit 8 or bit 9 of SUP_SUBST_CTL. -/
structure IsSubstWord (v : Word) (u bit : Nat) : Prop where
  value : v.toNat = u + 2 ^ bit
  go : bitAt v.toNat 8 = decide (bit = 8)
  return_ : bitAt v.toNat 9 = decide (bit = 9)
  unit : bitsOf v.toNat 0 3 = u
  fields : fieldsCode substCtlReg.fields false v.toNat = 0
  cross : crossOk substCtlReg.cross 3 0 v.toNat = true

theorem goWord {u : Nat} (hu : u ≤ 4) : IsSubstWord (BitVec.ofNat 32 (u % 8 + 2 ^ 8)) u 8 := by
  interval_cases u <;> exact ⟨by decide, by decide, by decide, by decide, by decide, by decide⟩

theorem returnWord {u : Nat} (hu : u ≤ 4) : IsSubstWord (BitVec.ofNat 32 (u % 8 + 2 ^ 9)) u 9 := by
  interval_cases u <;> exact ⟨by decide, by decide, by decide, by decide, by decide, by decide⟩

section SubstCtl

variable {s : State} {p : Path} {u : Nat} {v : Word} (hopen : s.opens p (.hub 0x43108))
include hopen

theorem State.writeTo_go (hv : IsSubstWord v u 8) (hcode : s.goCode u = 0) :
    s.writeTo p (.hub 0x43108) v = s.declare u 0 := by
  have howner : s.ownerCode .hub substCtlReg 3 0 v.toNat = s.goCode u := by
    simp [State.ownerCode, substCtlReg, hv.go, hv.unit]
  rw [State.writeTo_command substCtl_isCommand hopen hv.fields hv.cross (howner.trans hcode)]
  simp [State.act, substCtlReg, hv.go, hv.unit]

theorem State.writeTo_go_refuse (hv : IsSubstWord v u 8) (hcode : s.goCode u ≠ 0) :
    s.writeTo p (.hub 0x43108) v = (s.modSubst (fun y => { y with trigger := 0 })).discardHub .sup (s.goCode u) 0x43108
      (pathCode p) (u + 2 ^ 8) := by
  have howner : s.ownerCode .hub substCtlReg 3 0 v.toNat = s.goCode u := by
    simp [State.ownerCode, substCtlReg, hv.go, hv.unit]
  have hrefused : s.substRefused substCtlReg v.toNat = s.modSubst (fun y => { y with trigger := 0 }) := by
    simp [State.substRefused, substCtlReg, hv.go]
  rw [State.writeTo_command_refuse substCtl_isCommand hopen hv.fields hv.cross (by rwa [howner]), howner, hrefused, hv.value]

theorem State.writeTo_return (hv : IsSubstWord v u 9) (hcode : s.returnCode u = 0) :
    s.writeTo p (.hub 0x43108) v = s.giveBack u := by
  have howner : s.ownerCode .hub substCtlReg 3 0 v.toNat = s.returnCode u := by
    simp [State.ownerCode, substCtlReg, hv.go, hv.return_, hv.unit]
  rw [State.writeTo_command substCtl_isCommand hopen hv.fields hv.cross (howner.trans hcode)]
  simp [State.act, substCtlReg, hv.go, hv.return_, hv.unit]

theorem State.writeTo_return_refuse (hv : IsSubstWord v u 9) (hcode : s.returnCode u ≠ 0) :
    s.writeTo p (.hub 0x43108) v = (s.modSubst (fun y => { y with trigger := 6 })).discardHub .sup (s.returnCode u) 0x43108
      (pathCode p) (u + 2 ^ 9) := by
  have howner : s.ownerCode .hub substCtlReg 3 0 v.toNat = s.returnCode u := by
    simp [State.ownerCode, substCtlReg, hv.go, hv.return_, hv.unit]
  have hrefused : s.substRefused substCtlReg v.toNat = s.modSubst (fun y => { y with trigger := 6 }) := by
    simp [State.substRefused, substCtlReg, hv.go]
  rw [State.writeTo_command_refuse substCtl_isCommand hopen hv.fields hv.cross (by rwa [howner]), howner, hrefused, hv.value]

end SubstCtl

section Declare

variable {s : State} {n trig : Nat}

theorem State.declare_card {card : Scorecard} {cfg : ConfigRec} (h : s.pickCard n = some (card, cfg)) :
    s.declare n trig = s.substBegin 1 n s.subst.bench trig card cfg := by
  simp only [State.declare, h]

theorem State.declare_noCard (h : s.pickCard n = none) : s.declare n trig = s.substNoCard n s.subst.bench trig := by
  simp only [State.declare, h]

theorem State.giveBack_card {card : Scorecard} {cfg : ConfigRec} (h : s.pickCard s.subst.server = some (card, cfg)) :
    s.giveBack n = s.substBegin 3 s.subst.server n 6 card cfg := by
  simp only [State.giveBack, h]

theorem State.giveBack_noCard (h : s.pickCard s.subst.server = none) :
    s.giveBack n = s.substNoCard s.subst.server n 6 := by
  simp only [State.giveBack, h]

end Declare

section Watchdog

variable {s : State} {n k : Nat}

/-- The watchdog of programme `k` of unit `n` has run out on the air. -/
def State.watchdogFires (s : State) (n k : Nat) : Prop :=
  1 ≤ s.modeOf n ∧ s.modeOf n ≤ 5 ∧ k < 8 ∧ (s.chan n).flag (Reg.PKT_PSTAT_ONAIR k) = true ∧
    ∃ w ∈ s.ump.watches, w.unit = n ∧ w.prog = k ∧ w.at_ + w.span ≤ s.centre.xcount

theorem State.watchdogFires_iff : (1 ≤ s.modeOf n ∧ s.modeOf n ≤ 5 ∧ k < 8 ∧ (s.chan n).flag (Reg.PKT_PSTAT_ONAIR k) = true ∧
    s.ump.watches.any (fun w => w.unit == n && w.prog == k && decide (w.at_ + w.span ≤ s.centre.xcount)) = true) ↔
    s.watchdogFires n k := by
  simp [State.watchdogFires, and_assoc]

/-- What the umpire keeps does not put a programme on air. -/
theorem State.onAir_modUmp (f : Umpire → Umpire) : (s.modUmp f).onAir n = s.onAir n := rfl

theorem opWatchdog_fires (h : s.watchdogFires n k) : opWatchdog n k s =
    ((s.fault Reg.SUP_FAULT_STAT_WATCHDOG).modUmp (fun u =>
      { u with watches := u.watches.filter (fun w => !(w.unit == n && w.prog == k)) })).trigger n 2 (s.modeOf n)
        (s.onAir n) := by
  have hair : (s.fault Reg.SUP_FAULT_STAT_WATCHDOG).onAir n = s.onAir n := State.onAir_modUmp _
  refine (if_pos (State.watchdogFires_iff.mpr h)).trans ?_
  rw [State.onAir_modUmp, hair]

theorem opWatchdog_not (h : ¬ s.watchdogFires n k) : opWatchdog n k s = s :=
  if_neg (mt State.watchdogFires_iff.mp h)

theorem State.driveSel_due (hstate : s.subst.state = 1) (hstep : s.subst.step = 4) (hen : s.subst.benchEn = true) :
    s.driveSel = (s.modSubst (fun y => { y with step := 5, sel := y.src, bench := 7 })).startBench.benchCheck :=
  if_pos ⟨hstate, hstep, hen⟩

theorem State.driveSel_not (h : s.subst.state ≠ 1 ∨ s.subst.step ≠ 4 ∨ s.subst.benchEn = false) : s.driveSel = s := by
  refine if_neg ?_
  rintro ⟨hstate, hstep, hen⟩
  exact h.elim (· hstate) (·.elim (· hstep) (by simp [hen]))

end Watchdog

/-- Settles O53: each write meets a value or a check that forbids it, or acts; a watchdog and the drive of BENCH_SEL have
their moment or not. -/
theorem bench : Obligations.Bench := by
  refine ⟨fun p u s hu => ⟨fun hopen v => ⟨fun hv => ⟨fun hcode => ?_, fun hcode => ?_⟩, fun h4 h7 => ?_⟩, fun hopen => ?_⟩,
    fun n k s hon => ⟨fun h => ?_, fun h => ?_, fun hstate hstep hen => ?_, fun h => ?_⟩⟩
  · exact run_completes (f := State.writeTo p (.hub 0x43100) v) rfl hopen.1
      (State.writeTo_bench (s := s.quiet) (State.quiet_opens hopen) hv hcode)
  · exact run_completes (f := State.writeTo p (.hub 0x43100) v) rfl hopen.1
      (State.writeTo_bench_refuse (s := s.quiet) (State.quiet_opens hopen) hv hcode)
  · exact run_completes (f := State.writeTo p (.hub 0x43100) v) rfl hopen.1
      (State.writeTo_bench_range (s := s.quiet) (State.quiet_opens hopen) h4 h7)
  · have hq := State.quiet_opens hopen
    have hgo {g : State → State} (h : s.quiet.writeTo p (.hub 0x43108) (BitVec.ofNat 32 (u % 8 + 2 ^ 8)) = g s.quiet) :
        Completes (.substGo p u) s g :=
      run_completes (f := State.writeTo p (.hub 0x43108) (BitVec.ofNat 32 (u % 8 + 2 ^ 8))) rfl hopen.1 h
    have hreturn {g : State → State} (h : s.quiet.writeTo p (.hub 0x43108) (BitVec.ofNat 32 (u % 8 + 2 ^ 9)) = g s.quiet) :
        Completes (.substReturn p u) s g :=
      run_completes (f := State.writeTo p (.hub 0x43108) (BitVec.ofNat 32 (u % 8 + 2 ^ 9))) rfl hopen.1 h
    refine ⟨fun card cfg hcode hcard => ?_, fun hcode hcard => ?_, fun hcode => ?_, fun card cfg hcode hcard => ?_,
      fun hcode hcard => ?_, fun hcode => ?_⟩
    · exact hgo ((State.writeTo_go hq (goWord hu) hcode).trans (State.declare_card (s := s.quiet) hcard))
    · exact hgo ((State.writeTo_go hq (goWord hu) hcode).trans (State.declare_noCard (s := s.quiet) hcard))
    · exact hgo (State.writeTo_go_refuse hq (goWord hu) hcode)
    · exact hreturn ((State.writeTo_return hq (returnWord hu) hcode).trans (State.giveBack_card (s := s.quiet) hcard))
    · exact hreturn ((State.writeTo_return hq (returnWord hu) hcode).trans (State.giveBack_noCard (s := s.quiet) hcard))
    · exact hreturn (State.writeTo_return_refuse hq (returnWord hu) hcode)
  · exact run_completes (f := opWatchdog n k) rfl hon (opWatchdog_fires (s := s.quiet) h)
  · exact run_idle (f := opWatchdog n k) rfl hon (opWatchdog_not (s := s.quiet) h)
  · exact run_completes (f := State.driveSel) rfl hon (State.driveSel_due (s := s.quiet) hstate hstep hen)
  · exact run_idle (f := State.driveSel) rfl hon (State.driveSel_not (s := s.quiet) h)

/-! ### Housekeeping (R441 to R461) -/

theorem State.railRead_stopped {s : State} {r : Nat} {v : Option Nat} (h : (s.rail r).noresp = true) : s.railRead r v = s :=
  if_pos h

theorem State.railRead_asks {s : State} {r : Nat} {v : Option Nat} (h : (s.rail r).noresp = false) :
    s.railRead r v = match v with
      | some v => (((s.avsPut r .statusRead).avsBegin r .voltageRead).modRail r (fun x =>
          { x with measured := v % 1024 })).avsAnswer r
      | none => (s.avsPut r .statusRead).avsBegin r .voltageRead :=
  if_neg (by simp [h])

theorem State.tripRelease_due {s : State} (hshut : s.ump.dies.any (·.shut) = false)
    (hlong : s.ump.tripAt + 2500000 ≤ s.centre.xcount) : s.tripRelease = s.modUmp (fun u => { u with trip := false }) :=
  if_pos (by simp [hshut, hlong])

theorem State.tripRelease_not {s : State} (h : s.ump.dies.any (·.shut) = true ∨ s.centre.xcount < s.ump.tripAt + 2500000) :
    s.tripRelease = s := by
  refine if_neg ?_
  rw [Bool.and_eq_true, not_and_or]
  exact h.imp (fun h => by simp [h]) (fun h => by simp [h])

/-- SUP_THERM_CTL. -/
def thermCtlReg : RegDef :=
  { name := "SUP_THERM_CTL", page := 5, pages := 1, off := 384, reps := 1, stride := 0, words := 1, staged := false
    cross := .none, act := .thermCtl, fields := [{ name := "FORCE", hi := 4, lo := 0, acc := .wo, reset := 0 }] }

theorem thermCtl_isCommand : IsCommandReg 0x45180 .sup 5 0 thermCtlReg := ⟨by decide +kernel, rfl, rfl, rfl⟩

theorem fieldsCode_force {v : Nat} (h : v < 32) : fieldsCode thermCtlReg.fields false v = 0 := by
  interval_cases v <;> decide

/-- A reserved bit is set. -/
theorem fieldsCode_force_range {v : Nat} (h : 32 ≤ v) : fieldsCode thermCtlReg.fields false v = codeRANGE := by
  refine if_pos (.inl ?_)
  simp only [thermCtlReg, List.foldl_cons, List.foldl_nil, FieldDef.width, setBitsOf, bitsOf]
  omega

section Force

variable {s : State} {p : Path} {v : Word} (hopen : s.opens p (.hub 0x45180))
include hopen

theorem State.writeTo_force (hv : v.toNat < 32) : s.writeTo p (.hub 0x45180) v = s.forceDies v.toNat := by
  rw [State.writeTo_command thermCtl_isCommand hopen (fieldsCode_force hv) rfl rfl]
  rfl

theorem State.writeTo_force_range (hv : 32 ≤ v.toNat) :
    s.writeTo p (.hub 0x45180) v = s.discardHub .sup codeRANGE 0x45180 (pathCode p) v.toNat := by
  have hcode := fieldsCode_force_range hv
  rw [State.writeTo_hub_badFields hopen thermCtl_isCommand.hit rfl rfl (by rw [hcode]; decide), hcode]

end Force

theorem energyPer_idle (free uj : Nat) : energyPer free uj 0 = 0xFFFF := rfl

theorem energyPer_coded {free uj luma : Nat} (h : luma ≠ 0) (hfits : uj * 100000 / luma < 65536) :
    energyPer free uj luma = uj * 100000 / luma := (if_neg h).trans (if_pos hfits)

/-- Settles O54: a round and a second are taken in the model's own order; a rail is read or has stopped, and THERM_TRIP# and
FORCE have their condition. -/
theorem housekeeping : Obligations.Housekeeping := by
  refine ⟨fun k s hon => ?_, fun r v s => ⟨State.railRead_stopped, fun hn => ⟨?_, ?_⟩⟩, fun p v s hon => ⟨fun hshut hlong => ?_,
    fun h => ?_, fun hopen => ⟨fun hv => ?_, fun hv => ?_⟩⟩, fun e s hon => ⟨?_, ?_, fun free => energyPer_coded⟩⟩
  · exact run_completes (f := State.round k) rfl hon rfl
  · rintro rfl
    exact State.railRead_asks hn
  · rintro mv rfl
    exact State.railRead_asks hn
  · exact run_completes (f := State.tripRelease) rfl hon (State.tripRelease_due (s := s.quiet) hshut hlong)
  · exact run_idle (f := State.tripRelease) rfl hon (State.tripRelease_not (s := s.quiet) h)
  · exact run_completes (f := State.writeTo p (.hub 0x45180) v) rfl hon
      (State.writeTo_force (s := s.quiet) (State.quiet_opens hopen) hv)
  · exact run_completes (f := State.writeTo p (.hub 0x45180) v) rfl hon
      (State.writeTo_force_range (s := s.quiet) (State.quiet_opens hopen) hv)
  · exact run_completes (f := State.energy e) rfl hon rfl
  · intro free hluma
    rw [hluma, energyPer_idle]

end Sys2Proof.Machine

/-! Commits and the scheduler (06_channel_modes.md, 07_line_time_and_scheduler.md). -/

namespace Sys2Proof.Machine

/-! ### Command registers of a unit -/

section UnitCommand

variable {s : State} {p : Path} {n off page rep : Nat} {v : Word} {b : Block} {d : RegDef}
  (hopen : s.opens p (.unit n off)) (hrun : s.running n = true) (hh : unitHit off = .reg b page rep 0 d)
  (hw : d.words = 1) (hs : d.staged = false) (hc : fieldsCode d.fields false v.toNat = 0)
  (hx : crossOk d.cross page rep v.toNat = true) (hlt : off < 2 ^ 32)
  (hstores : d.fields.any (fun f => f.acc == .rw || f.acc == .w1c) = false)
  (ho : s.ownerCode (.unit n) d page rep v.toNat = 0)
include hopen hrun hh hw hs hc hx hlt hstores ho

/-- A write that stores nothing and acts within the unit. -/
theorem State.writeTo_unitRun {f : Chan → Chan}
    (hact : State.act (.unit n) d page rep off v.toNat s = s.modRun n f) :
    s.writeTo p (.unit n off) v = s.modChan n f := by
  rw [State.writeTo_unitCommand hopen hrun hh hw hs hc hx hlt hstores ho, hact, State.modRun, if_pos hrun]

end UnitCommand

/-! ### GO of a commit (R144) -/

/-- SCH_COMMIT. -/
def commitReg : RegDef :=
  { name := "SCH_COMMIT", page := 0, pages := 1, off := 260, reps := 1, stride := 0, words := 1, staged := false
    cross := .commit, act := .commit
    fields := [{ name := "GO", hi := 0, lo := 0, acc := .wo, reset := 0 },
      { name := "AT_EN", hi := 1, lo := 1, acc := .wo, reset := 0 }] }

theorem unitHit_commit : unitHit 0x100104 = .reg .sch 0 0 0 commitReg := by decide +kernel

section Commit

variable {s : State} {p : Path} {n : Nat} {v : Word} (hopen : s.opens p (.unit n 0x100104)) (hrun : s.running n = true)
  (hv : v = 1#32 ∨ v = 3#32)
include hopen hrun hv

theorem State.writeTo_commit (hfree : (s.chan n).committing = false) :
    s.writeTo p (.unit n 0x100104) v = s.modChan n (actCommit v.toNat) := by
  have howner : s.ownerCode (.unit n) commitReg 0 0 v.toNat = 0 :=
    if_neg fun ⟨_, hbusy⟩ => absurd (hfree.symm.trans hbusy) (by decide)
  have hgo : bitAt v.toNat 0 = true := by obtain rfl | rfl := hv <;> rfl
  exact State.writeTo_unitRun hopen hrun unitHit_commit rfl rfl (by obtain rfl | rfl := hv <;> rfl)
    (by obtain rfl | rfl := hv <;> rfl) (by decide) rfl howner (if_pos hgo)

theorem State.writeTo_commit_busy (hbusy : (s.chan n).committing = true) : s.writeTo p (.unit n 0x100104) v =
    s.modChan n (discardUnit .sch codeBUSY (bar0Unit n 0x100104) (pathCode p) v.toNat) := by
  have hgo : bitAt v.toNat 0 = true := by obtain rfl | rfl := hv <;> rfl
  have howner : s.ownerCode (.unit n) commitReg 0 0 v.toNat = codeBUSY := if_pos ⟨hgo, hbusy⟩
  rw [State.writeTo_unit_refuse hopen hrun unitHit_commit rfl rfl (by obtain rfl | rfl := hv <;> rfl)
    (by obtain rfl | rfl := hv <;> rfl) rfl (by decide) (by rw [howner]; decide), howner]

end Commit

/-! ### The verdict (R146, R153, R155) -/

section Verdict

variable {c : Chan} {subst : Bool} {reached : Nat}

theorem opVerdict_none (h : c.get Reg.SCH_COMMIT_STAT_STATE ≠ 1) : opVerdict subst c = c := if_pos h

variable (h : c.get Reg.SCH_COMMIT_STAT_STATE = 1)
include h

theorem opVerdict_refused {v : Verdict} (ha : admission subst c = (some v, reached)) :
    opVerdict subst c = refuseCommit v (admissionFigures (candidate c) reached c) := by
  refine (if_neg (not_not_intro h)).trans ?_
  simp only [ha]

/-- The commit is accepted: what is shown of it, and word to the umpire of a commit of its own. -/
theorem opVerdict_accepted (ha : admission subst c = (none, reached)) : opVerdict subst c =
    let next := candidate c
    let shown := ((admissionFigures next reached c).set Reg.SCH_COMMIT_STAT_STATE 2).set Reg.SCH_EFFECT_FRAME_FRAME
      (c.sched.at_.getD (effectFrame c next c.now))
    let d : Chan := { shown with sched := { shown.sched with verdictAt := c.now } }
    let d := if next.mode = 7 then d else forN 8 (fun p d =>
      if progOn next p then
        (d.set (Reg.RCT_PFLOOR_VALUE p) (progFmax next p)).set (Reg.RCT_PKAPPA_VALUE p) (progKappa next p)
      else d) d
    if d.draw.sched.serving then d.draw.emit (.verdict 0) else d.draw := by
  refine (if_neg (not_not_intro h)).trans ?_
  simp only [ha]
  cases c.sched.at_ <;> rfl

end Verdict

/-- Settles O36: GO finds a commit in progress or not, and the verdict is the admission's. -/
theorem commitChecks : Obligations.CommitChecks := by
  refine ⟨fun n p s hl hopen => ⟨fun hfree => ⟨?_, ?_⟩, fun hbusy => ⟨?_, ?_⟩⟩, fun n reached s hl =>
    ⟨fun h => ?_, fun v h ha => ?_, fun h ha => ?_⟩⟩
  · exact run_completes (f := State.writeTo p (.unit n 0x100104) 1#32) rfl hl.1
      (State.writeTo_commit (s := s.quiet) (State.quiet_opens hopen) hl.2 (.inl rfl) hfree)
  · exact run_completes (f := State.writeTo p (.unit n 0x100104) 3#32) rfl hl.1
      (State.writeTo_commit (s := s.quiet) (State.quiet_opens hopen) hl.2 (.inr rfl) hfree)
  · exact run_completes (f := State.writeTo p (.unit n 0x100104) 1#32) rfl hl.1
      (State.writeTo_commit_busy (s := s.quiet) (State.quiet_opens hopen) hl.2 (.inl rfl) hbusy)
  · exact run_completes (f := State.writeTo p (.unit n 0x100104) 3#32) rfl hl.1
      (State.writeTo_commit_busy (s := s.quiet) (State.quiet_opens hopen) hl.2 (.inr rfl) hbusy)
  all_goals
    have hverdict {g : Chan → Chan} (h : opVerdict (s.involved n) (s.chan n) = g (s.chan n)) :
        CompletesIn (.admissionVerdict n) n s g :=
      run_completes (f := fun s => s.modRun n (opVerdict (s.involved n))) rfl hl.1
        ((if_pos hl.2).trans (State.modChan_congr n _ g s.quiet h))
  · exact hverdict (g := id) (opVerdict_none h)
  · exact hverdict (opVerdict_refused h ha)
  · exact hverdict (opVerdict_accepted h ha)

/-! ### The line tick (R145, R176) -/

section Tick

variable {c : Chan}

/-- A boundary of the raster in force that an accepted commit may take comes with the next tick. -/
def commitFirst (c : Chan) : Prop := beforeBoundary c = true ∧ laysRaster c (incoming c) = false

theorem commitFirst_iff : (beforeBoundary c = true ∧ ¬ laysRaster c (incoming c) = true) ↔ commitFirst c := by
  simp [commitFirst]

/-- A tick of the raster in force, if there is one. -/
def tickInForce (c : Chan) : Chan := c.sched.raster.elim c (tickNow c)

theorem tickInForce_none (h : c.sched.raster = none) : tickInForce c = c := by rw [tickInForce, h, Option.elim_none]

theorem tickInForce_some {r : Raster} (h : c.sched.raster = some r) : tickInForce c = tickNow c r := by
  rw [tickInForce, h, Option.elim_some]

theorem opLineTick_first (h : commitFirst c) : opLineTick 0 c = tickInForce (opSlipPending (opCommitDone c)) := by
  simp only [opLineTick, if_true, if_pos (commitFirst_iff.mpr h), tickInForce]
  cases (opSlipPending (opCommitDone c)).sched.raster <;> rfl

theorem opLineTick_plain (h : ¬ commitFirst c) : opLineTick 0 c = tickInForce c := by
  simp only [opLineTick, if_true, if_neg (mt commitFirst_iff.mp h), tickInForce]
  cases c.sched.raster <;> rfl

theorem opLineTick_old (k : Nat) : opLineTick (k + 1) c = c.sched.old[k]?.elim c (tickOld c) := by
  simp only [opLineTick, Nat.add_eq_zero_iff, Nat.one_ne_zero, and_false, if_false, Nat.add_sub_cancel]
  cases c.sched.old[k]? <;> rfl

end Tick

/-! ### Tasks (R174, R177, R178) -/

/-- What the end of a task does of its kind. -/
def taskWork (r : TaskResult) (x : Ctx) (c : Chan) : Chan :=
  let k := x.key
  if k.kind = 0 then composeRow c k.prog k.pic k.row r.lut
  else if k.kind = 1 then forN x.count (fun j c => codeCtu c k.prog x j (r.ctus.getD j {})) c
  else if k.kind = 3 then packRow c x
  else if k.kind = 4 then verifyRow c k.prog k.pic k.row r
  else c

section Task

variable {c : Chan} {e i : Nat} {x : Ctx} {r : TaskResult}

theorem opTaskComplete_engineIdle (he : e < 16) (h : (c.sched.engines.getD e {}).run = none) : opTaskComplete e r c = c := by
  simp only [opTaskComplete, if_pos he, h]

theorem opTaskComplete_otherIdle (he : 16 ≤ e) (h : c.sched.others.find? (fun y => y.1 == e) = none) :
    opTaskComplete e r c = c := by
  simp only [opTaskComplete, if_neg (Nat.not_lt.mpr he), h, Option.map_none]

theorem opTaskComplete_engine (he : e < 16) (h : (c.sched.engines.getD e {}).run = some i) (hx : c.ctx? i = some x) :
    opTaskComplete e r c =
      startNext ((finishCtx (taskWork r x (memFind c r.beats)) i x).modEngine e (fun y => { y with run := none })) e := by
  simp only [opTaskComplete, if_pos he, h, hx, taskWork]

theorem opTaskComplete_other {j : Nat} (he : 16 ≤ e) (h : c.sched.others.find? (fun y => y.1 == e) = some (j, i))
    (hx : c.ctx? i = some x) : opTaskComplete e r c =
      let d := finishCtx (taskWork r x (memFind c r.beats)) i x
      { d with sched := { d.sched with others := d.sched.others.filter (fun y => y.1 != e) } } := by
  simp only [opTaskComplete, if_neg (Nat.not_lt.mpr he), h, Option.map_some, hx, taskWork]

theorem taskWork_compose (h : x.key.kind = 0) : taskWork r x c = composeRow c x.key.prog x.key.pic x.key.row r.lut := if_pos h

theorem taskWork_segment (h : x.key.kind = 1) :
    taskWork r x c = forN x.count (fun j c => codeCtu c x.key.prog x j (r.ctus.getD j {})) c := by simp [taskWork, h]

theorem taskWork_pack (h : x.key.kind = 3) : taskWork r x c = packRow c x := by simp [taskWork, h]

theorem taskWork_verify (h : x.key.kind = 4) : taskWork r x c = verifyRow c x.key.prog x.key.pic x.key.row r := by
  simp [taskWork, h]

theorem taskWork_none (h : x.key.kind = 2 ∨ x.key.kind = 5) : taskWork r x c = c := by
  obtain h | h := h <;> simp [taskWork, h]

end Task

/-! ### Freed contexts (R174) -/

section Freed

variable {c : Chan} {p g k : Nat} {rest : List (Nat × Nat × Nat)} {q : PicSt} {w : RowSt}

theorem opContextFreed_none (h : c.sched.waiting = []) : opContextFreed c = c := by
  simp only [opContextFreed, h]

theorem opContextFreed_row (h : c.sched.waiting = (p, g, k) :: rest) (hq : (c.prog p).pic? g = some q)
    (hw : (c.prog p).row? g k = some w) : opContextFreed c =
      (allocRow { c with sched := { c.sched with waiting := rest } } p q w).getD c := by
  simp only [opContextFreed, h, hq, hw]
  cases allocRow { c with sched := { c.sched with waiting := rest } } p q w <;> rfl

end Freed

/-- Settles O38: a tick is of the raster in force, behind what its boundary brings, or of an old one; a task ends on an
executor that runs one, and a release waits or does not. -/
theorem scheduler : Obligations.Scheduler := by
  refine ⟨fun n s hl => ?_, fun n e i x r s hl => ⟨fun he h => ?_, fun he h => ?_, fun he h hx hkind => ?_,
    fun j he h hx => ⟨fun hkind => ?_, fun hkind => ?_, fun hkind => ?_, fun hkind => ?_⟩⟩, fun n s hl => ⟨fun h => ?_,
    fun p g k rest q w h hq hw => ⟨fun d hd => ?_, fun hnone => ?_⟩⟩⟩
  · have htick {k : Nat} {g : Chan → Chan} (h : opLineTick k (s.chan n) = g (s.chan n)) :
        CompletesIn (.lineTick n k) n s g := unitOp_completes (f := opLineTick k) rfl hl h
    refine ⟨fun hdue hr => ?_, fun r0 hdue hr => ?_, fun r0 hdue hr => ?_, fun hdue hr => ?_, fun k hk => ?_,
      fun k r0 hk => ?_⟩
    · exact htick (g := id) ((opLineTick_plain hdue).trans (tickInForce_none hr))
    · exact htick ((opLineTick_plain hdue).trans (tickInForce_some hr))
    · exact htick ((opLineTick_first hdue).trans (tickInForce_some hr))
    · exact htick ((opLineTick_first hdue).trans (tickInForce_none hr))
    · exact htick (g := id) ((opLineTick_old k).trans (by rw [hk]; rfl))
    · exact htick ((opLineTick_old k).trans (by rw [hk]; rfl))
  · exact unitOp_completes (f := opTaskComplete e r) rfl hl (opTaskComplete_engineIdle he h)
  · exact unitOp_completes (f := opTaskComplete e r) rfl hl (opTaskComplete_otherIdle he h)
  · exact unitOp_completes (f := opTaskComplete e r) rfl hl
      ((opTaskComplete_engine he h hx).trans (by rw [taskWork_segment hkind]))
  · exact unitOp_completes (f := opTaskComplete e r) rfl hl
      ((opTaskComplete_other he h hx).trans (by rw [taskWork_compose hkind]))
  · exact unitOp_completes (f := opTaskComplete e r) rfl hl
      ((opTaskComplete_other he h hx).trans (by rw [taskWork_none hkind]))
  · exact unitOp_completes (f := opTaskComplete e r) rfl hl
      ((opTaskComplete_other he h hx).trans (by rw [taskWork_pack hkind]))
  · exact unitOp_completes (f := opTaskComplete e r) rfl hl
      ((opTaskComplete_other he h hx).trans (by rw [taskWork_verify hkind]))
  · exact unitOp_completes (f := opContextFreed) rfl hl (opContextFreed_none h)
  · exact unitOp_completes (f := opContextFreed) rfl hl ((opContextFreed_row h hq hw).trans (by rw [hd]; rfl))
  · exact unitOp_completes (f := opContextFreed) rfl hl ((opContextFreed_row h hq hw).trans (by rw [hnone]; rfl))

end Sys2Proof.Machine

/-! Line packets, flips, streams and the decoder (08_capture_and_composition.md, 09_encoder.md, 11_stream_output.md,
12_decoder_and_statistics.md). -/

namespace Sys2Proof.Machine

/-! ### Line packets (R196, R197, R367) -/

section LinePacket

variable {c d : Chan} {g a : Nat} {k : RxBody} {r : Raster}

theorem lineBody_ignored (hd : hearPacket c g k = d)
    (h : srcOfGroup d g = none ∨ d.sched.raster = none ∨ groupUp d g = false) : lineBody g k c = d := by
  simp only [lineBody, hd]
  split
  · next ha hr =>
    obtain h | h | h := h
    · exact absurd (ha.symm.trans h) (by simp)
    · exact absurd (hr.symm.trans h) (by simp)
    · exact if_pos (by simp [h])
  · rfl

/-- The line that a packet carries, by its header, and its tick with the time by which it leads. -/
def RxBody.line (k : RxBody) : Nat := ofBytesBE ((k.bytes.drop 6).take 2)

/-- The line is noted as the source's last. -/
def lineTaken (a : Nat) (k : RxBody) (c : Chan) : Chan :=
  c.modSource a (fun x => { x with prev := some { line := k.line, frame := ofBytesBE ((k.bytes.drop 4).take 2) } })

/-- A line that is not retired: it is counted under its check, and its tick is noted if it lies within the frame. -/
def lineLost (a bad line : Nat) (at_ : Nat × Int) (c : Chan) : Chan :=
  let d := lineFails c a bad line
  if line < d.active ∧ 0 ≤ at_.2 then d.modSource a (fun x => { x with failed := x.failed ++ [at_.1] }) else d

variable (hd : hearPacket c g k = d) (ha : srcOfGroup d g = some a) (hr : d.sched.raster = some r)
  (hup : groupUp d g = true)
include hd ha hr hup

/-- The packet passes every check and completes in its window. -/
theorem lineBody_passes (hcheck : lineCheck d a (groupLanes d g).length k = 0) (hhead : k.headerOk = true)
    (hwin : r.inWindow (nearestTick d r k.line).2 = true) : lineBody g k c =
      let e := genlockPacket (lineTaken a k d) a r (nearestTick d r k.line).2
      let f := e.get (Reg.CAP_SRC_CFG_FORMAT a)
      (writeLine e a (tickFrame (nearestTick d r k.line).1) k.line
        (expandLine f (srcWidth e a) true ((k.bytes.drop 16).take (lineBytes f (srcWidth e a))))).modSource a
          (fun x => { x with arrived := x.arrived ++ [(nearestTick d r k.line).1] }) := by
  have hno : ¬ (True ∧ ¬ r.inWindow (nearestTick d r k.line).2 = true) := by simp [hwin]
  have hknown : (k.headerOk && (0 : Nat) != 1) = true := by simp [hhead]
  simp only [RxBody.line] at hno ⊢
  simp only [lineBody, hd, ha, hr, hup, hcheck, hknown, Bool.not_true, Bool.false_eq_true, if_false, if_true, hno]
  rfl

/-- It passes every check but completes outside its window. -/
theorem lineBody_outside (hcheck : lineCheck d a (groupLanes d g).length k = 0) (hhead : k.headerOk = true)
    (hwin : r.inWindow (nearestTick d r k.line).2 = false) : lineBody g k c =
      lineLost a 9 k.line (nearestTick d r k.line)
        (genlockPacket (lineTaken a k d) a r (nearestTick d r k.line).2) := by
  have hout : (True ∧ ¬ r.inWindow (nearestTick d r k.line).2 = true) := by simp [hwin]
  have hknown : (k.headerOk && (0 : Nat) != 1) = true := by simp [hhead]
  simp only [RxBody.line] at hout ⊢
  simp only [lineBody, hd, ha, hr, hup, hcheck, hknown, Bool.not_true, Bool.false_eq_true, if_false, if_true, if_pos hout,
    Nat.reduceEqDiff]
  rfl

/-- Its header stands, but a check fails. -/
theorem lineBody_fails {check : Nat} (hcheck : lineCheck d a (groupLanes d g).length k = check) (h2 : 2 ≤ check)
    (hhead : k.headerOk = true) : lineBody g k c =
      lineLost a check k.line (nearestTick d r k.line) (lineTaken a k d) := by
  have h0 : check ≠ 0 := by omega
  have hknown : (k.headerOk && check != 1) = true := by
    rw [hhead, Bool.true_and, bne_iff_ne]
    omega
  simp only [lineBody, hd, ha, hr, hup, hcheck, hknown, h0, Bool.not_true, Bool.false_eq_true, if_false, if_true, false_and]
  rfl

/-- Its header does not stand: the line is the one that was expected. -/
theorem lineBody_unknown (hcheck : lineCheck d a (groupLanes d g).length k = 1) : lineBody g k c =
    lineLost a 1 (expectLine d a) (nearestTick d r (expectLine d a)) d := by
  have hknown : (k.headerOk && (1 : Nat) != 1) = false := by simp
  simp only [lineBody, hd, ha, hr, hup, hcheck, hknown, Bool.not_true, Bool.not_false, Bool.false_eq_true, if_false, if_true,
    Nat.one_ne_zero, false_and]
  rfl

end LinePacket

theorem opLinePacket_none {c : Chan} {k : ColumnRun} (h : runBody c k = none) : opLinePacket k c = countViolations k c := by
  simp only [opLinePacket, h]

theorem opLinePacket_some {c : Chan} {k : ColumnRun} {b : RxBody} (h : runBody c k = some b) :
    opLinePacket k c = lineBody k.group b (countViolations k c) := by
  simp only [opLinePacket, h]

/-! ### Flips (R208, R209) -/

/-- CMP_LFLIP. -/
def flipReg : RegDef :=
  { name := "CMP_LFLIP", page := 8, pages := 32, off := 288, reps := 1, stride := 0, words := 1, staged := false
    cross := .none, act := .flip, fields := [{ name := "ARM", hi := 0, lo := 0, acc := .wo, reset := 0 }] }

theorem unitHit_flip {i : Nat} (hi : i < 32) : unitHit (0x48120 + 0x1000 * i) = .reg .cmp (i + 8) 0 0 flipReg := by
  have hall : ∀ i < 32, unitHit (0x48120 + 0x1000 * i) = .reg .cmp (i + 8) 0 0 flipReg := by decide +kernel
  exact hall i hi

section Flip

variable {c : Chan} {x l : Nat}

/-- What stands in the NEXT registers of a layer. -/
def Chan.nextSurface (c : Chan) (i : Nat) : Surface :=
  { addr := c.get (Reg.CMP_LNEXT_ADDR_ADDR i) * 64, x := c.geti (Reg.CMP_LNEXT_POS_X i)
    y := c.geti (Reg.CMP_LNEXT_POS_Y i), alpha := c.get (Reg.CMP_LNEXT_ALPHA_GALPHA i) }

theorem actFlip_arm (hl : l < 8) : actFlip (8 * x + l) 1 c = (c.modLayer x l (fun y => { y with
    pending := some (c.nextSurface (8 * x + l)), mark := c.sink.received, armed := c.ticks })).set
      (Reg.CMP_LSTAT_PENDING (8 * x + l)) 1 := by
  have hx : (8 * x + l) / 8 = x := by omega
  have hmod : (8 * x + l) % 8 = l := by omega
  refine (if_pos rfl).trans ?_
  rw [hx, hmod]
  rfl

theorem State.writeTo_flip {s : State} {p : Path} {n : Nat} (hx : x < 4) (hl : l < 8)
    (hopen : s.opens p (.unit n (0x48120 + 0x1000 * (8 * x + l)))) (hrun : s.running n = true) :
    s.writeTo p (.unit n (0x48120 + 0x1000 * (8 * x + l))) 1#32 = s.modChan n (actFlip (8 * x + l) 1) := by
  have hact : State.act (.unit n) flipReg (8 * x + l + 8) 0 (0x48120 + 0x1000 * (8 * x + l)) 1 s =
      s.modRun n (actFlip (8 * x + l + 8 - 8) 1) := rfl
  rw [Nat.add_sub_cancel] at hact
  exact State.writeTo_unitRun hopen hrun (unitHit_flip (by omega)) rfl rfl (by decide) rfl (by omega) rfl rfl hact

theorem opFlipApply_not (h : flipDrained c (c.layer x l) = false ∨ c.sched.raster = none ∨
    (∃ r, c.sched.raster = some r ∧ tickLine r.tick + 1 ≠ r.total)) : opFlipApply x l c = c := by
  unfold opFlipApply
  split
  · next r hr =>
    refine if_neg ?_
    rintro ⟨-, -, hdrained, hlast⟩
    obtain h | h | ⟨r', hr', hnot⟩ := h
    · exact absurd (hdrained.symm.trans h) (by decide)
    · exact absurd (hr.symm.trans h) (by simp)
    · obtain rfl : r = r' := Option.some.inj (hr.symm.trans hr')
      exact hnot hlast
  · rfl

theorem opFlipApply_applies {r : Raster} (hx : x < 4) (hl : l < 8) (hr : c.sched.raster = some r)
    (hdrained : flipDrained c (c.layer x l) = true) (hlast : tickLine r.tick + 1 = r.total) :
    opFlipApply x l c = flipApply c x l ((tickFrame r.tick + 1) % 65536) := by
  simp only [opFlipApply, hr]
  exact if_pos ⟨hx, hl, hdrained, hlast⟩

theorem flipApply_pending {z : Surface} {f : Nat} (hz : (c.layer x l).pending = some z) : flipApply c x l f =
    let wait := composing c x ((f + 65535) % 65536)
    let d := c.modLayer x l (fun y => { y with
      past := if wait then (f, y.cur) :: y.past else y.past, cur := some z, pending := none, applied := true })
    let d := ((d.set (Reg.CMP_LSTAT_PENDING (8 * x + l)) 0).set (Reg.CMP_LSTAT_LOADED (8 * x + l)) 1).set
      (Reg.CMP_LSTAT_FRAME (8 * x + l)) f
    (showBusy d x l).set (Reg.CMP_LCUR_ADDR_ADDR (8 * x + l)) z.addr := by
  simp only [flipApply, hz]

end Flip

/-- Settles O39: a packet is judged by the check it fails, if any; a flip is armed, and applied at its moment alone. -/
theorem linesAndFlips : Obligations.LinesAndFlips := by
  refine ⟨fun n k s hl => ⟨fun hb => ?_, fun b hb => ?_⟩, fun n x l s hl hx hl8 => ⟨fun p hopen => ?_,
    fun r z hr hdrained hz hlast => ?_, fun h => ?_⟩⟩
  · exact unitOp_completes (f := opLinePacket k) rfl hl (opLinePacket_none hb)
  · have hpacket {f : Chan → Chan} (h : lineBody k.group b (countViolations k (s.chan n)) = f (s.chan n)) :
        CompletesIn (.linePacket n k) n s f :=
      unitOp_completes (f := opLinePacket k) rfl hl ((opLinePacket_some hb).trans h)
    refine ⟨fun h => hpacket (lineBody_ignored rfl h), fun a r ha hr hup => ⟨fun hcheck hhead hwin => ?_,
      fun hcheck hhead hwin => ?_, fun h2 hhead => ?_, fun hcheck => ?_⟩⟩
    · exact hpacket (lineBody_passes rfl ha hr hup hcheck hhead hwin)
    · exact hpacket (lineBody_outside rfl ha hr hup hcheck hhead hwin)
    · exact hpacket (lineBody_fails rfl ha hr hup rfl h2 hhead)
    · exact hpacket (lineBody_unknown rfl ha hr hup hcheck)
  · refine run_completes (f := fun s => if x < 4 ∧ l < 8 then
      s.writeTo p (.unit n (0x48120 + 0x1000 * (8 * x + l))) 1#32 else s) rfl hl.1 ?_
    refine (if_pos ⟨hx, hl8⟩).trans ?_
    rw [State.writeTo_flip (s := s.quiet) hx hl8 (State.quiet_opens hopen) hl.2]
    exact State.modChan_congr n _ _ s.quiet (actFlip_arm hl8)
  · exact unitOp_completes (f := opFlipApply x l) rfl hl
      ((opFlipApply_applies hx hl8 hr hdrained hlast).trans (flipApply_pending hz))
  · exact unitOp_completes (f := opFlipApply x l) rfl hl (opFlipApply_not h)

/-! ### Streams (R238, R254, R292, R300) -/

/-- ENC_PCTL. -/
def encPctlReg : RegDef :=
  { name := "ENC_PCTL", page := 1, pages := 8, off := 288, reps := 1, stride := 0, words := 1, staged := false
    cross := .none, act := .encPctl
    fields := [{ name := "CYCLE", hi := 0, lo := 0, acc := .wo, reset := 0 },
      { name := "FREEZE", hi := 1, lo := 1, acc := .wo, reset := 0 }] }

theorem unitHit_encPctl {k : Nat} (hk : k < 8) :
    unitHit (0x81120 + 0x1000 * k) = .reg .enc (k + 1) 0 0 encPctlReg := by
  have hall : ∀ k < 8, unitHit (0x81120 + 0x1000 * k) = .reg .enc (k + 1) 0 0 encPctlReg := by decide +kernel
  exact hall k hk

section EncPctl

variable {c : Chan} {k : Nat}

theorem actEncPctl_off (h : (c.prog k).on = false ∨ (c.prog k).cfg.mode = 4) (v : Nat) : actEncPctl k v c = c := by
  refine if_neg ?_
  rintro ⟨hon, hmode⟩
  exact h.elim (fun h => absurd (hon.symm.trans h) (by decide)) hmode

variable (hon : (c.prog k).on = true) (hmode : (c.prog k).cfg.mode ≠ 4)
include hon hmode

theorem actEncPctl_cycle : actEncPctl k 1 c = c.modProg k (fun g => { g with cycleReq := true }) := by
  have hcycle : bitAt 1 0 = true := rfl
  have hfreeze : bitAt 1 1 = false := rfl
  refine (if_pos ⟨hon, hmode⟩).trans ?_
  simp only [hcycle, hfreeze, Bool.or_true, Bool.or_false, Bool.false_eq_true, if_false]

theorem actEncPctl_freeze : actEncPctl k 2 c =
    (c.modProg k (fun g => { g with freezeReq := true })).set (Reg.ENC_PSTAT_STARTING k) 1 := by
  have hcycle : bitAt 2 0 = false := rfl
  have hfreeze : bitAt 2 1 = true := rfl
  refine (if_pos ⟨hon, hmode⟩).trans ?_
  simp only [hcycle, hfreeze, Bool.or_true, Bool.or_false, if_true]

end EncPctl

section EncPctlWrite

variable {s : State} {p : Path} {n : Fin 5} {k : Nat} {v : Word}

theorem encPctl_eq (hk : k < 8) (hopen : s.opens p (.unit n (0x81120 + 0x1000 * k))) (hrun : s.running n = true)
    (hv : v = 1#32 ∨ v = 2#32) : encPctl p n k v s = s.modChan n (actEncPctl k v.toNat) := by
  have hact : State.act (.unit n) encPctlReg (k + 1) 0 (0x81120 + 0x1000 * k) v.toNat s =
      s.modRun n (actEncPctl (k + 1 - 1) v.toNat) := rfl
  rw [Nat.add_sub_cancel] at hact
  refine (if_pos hk).trans ?_
  exact State.writeTo_unitRun hopen hrun (unitHit_encPctl hk) rfl rfl (by obtain rfl | rfl := hv <;> rfl) rfl (by omega) rfl
    rfl hact

end EncPctlWrite

section Packer

variable {c : Chan} {k x : Nat}

theorem opPcrOnly_none (h : (c.prog k).streams = []) : opPcrOnly k c = c := by
  simp only [opPcrOnly, h]

/-- No video packet of the programme's stream `a` has been released for 20 ms. -/
def Chan.pcrDue (c : Chan) (k : Nat) (a : Stream) : Prop :=
  k < 8 ∧ (c.prog k).on = true ∧ (c.prog k).cfg.form = 1 ∧ a.sent = true ∧ a.lastVideo + secUnits / 50 ≤ c.now

variable {a : Stream} {rest : List Stream}

theorem opPcrOnly_due (hs : (c.prog k).streams = a :: rest) (h : c.pcrDue k a) : opPcrOnly k c =
    let g := c.prog k
    let t := ({ cap := 1, video := g.cfg.video, cc := a.cc, disc := a.discPids } : Ts).put g.cfg.video false []
    let d := c.modProg k (fun g => g.modStream a.id (fun y => { y with discPids := t.disc, lastVideo := c.now }))
    (releasePacket d k a.id g.cfg 2 0 a.lastPic d.tick t.pkts.flatten).1 := by
  simp only [opPcrOnly, hs]
  exact if_pos h

theorem opPcrOnly_not (hs : (c.prog k).streams = a :: rest) (h : ¬ c.pcrDue k a) : opPcrOnly k c = c := by
  simp only [opPcrOnly, hs]
  exact if_neg h

theorem opPathUnderrun_none (h : (c.paths.getD x {}).queue = []) : opPathUnderrun x c = c := by
  simp only [opPathUnderrun, h]

variable {y : Sending} {queue : List Sending}

/-- The path stands inside the packet. -/
def Chan.insidePacket (c : Chan) (x : Nat) (y : Sending) : Prop :=
  y.first ≤ c.now ∧ c.now < y.last ∧ pathUp c x = true

theorem opPathUnderrun_inside (hq : (c.paths.getD x {}).queue = y :: queue) (h : c.insidePacket x y) :
    opPathUnderrun x c =
      let d := ((c.bump (Reg.PKT_PATHSTAT_UNDERRUN x)).post 0x0502 .pkt x 0).emit
        (.out (.abort c.num x y.pkt.seq (y.columnsBy c.now ++ [[symAbort, symAbort]])))
      { d.set (Reg.PKT_PATHSTAT_ACTIVE x) (b2n !queue.isEmpty) with
        paths := d.paths.modify x (fun z => { z with queue := queue }) } := by
  simp only [opPathUnderrun, hq]
  exact if_pos h

theorem opPathUnderrun_not (hq : (c.paths.getD x {}).queue = y :: queue) (h : ¬ c.insidePacket x y) :
    opPathUnderrun x c = c := by
  simp only [opPathUnderrun, hq]
  exact if_neg h

end Packer

/-- Settles O40: a programme is on outside M4 or not, a packet is due or not, and a path stands inside a packet or not. -/
theorem streams : Obligations.Streams := by
  refine ⟨fun n k p s hl hk hopen => ⟨fun hon hmode => ⟨?_, ?_⟩, fun h => ⟨?_, ?_⟩⟩, fun n k s hl => ⟨fun h => ?_,
    fun a rest hs => ⟨fun h => ?_, fun h => ?_⟩⟩, fun n x s hl => ⟨fun h => ?_, fun y queue hq => ⟨fun h => ?_, fun h => ?_⟩⟩⟩
  · refine run_completes (f := encPctl p n k 1#32) rfl hl.1 ?_
    rw [encPctl_eq (s := s.quiet) hk (State.quiet_opens hopen) hl.2 (.inl rfl)]
    exact State.modChan_congr n _ _ s.quiet (actEncPctl_cycle hon hmode)
  · refine run_completes (f := encPctl p n k 2#32) rfl hl.1 ?_
    rw [encPctl_eq (s := s.quiet) hk (State.quiet_opens hopen) hl.2 (.inr rfl)]
    exact State.modChan_congr n _ _ s.quiet (actEncPctl_freeze hon hmode)
  · refine run_completes (f := encPctl p n k 1#32) rfl hl.1 ?_
    rw [encPctl_eq (s := s.quiet) hk (State.quiet_opens hopen) hl.2 (.inl rfl)]
    exact State.modChan_congr n _ id s.quiet (actEncPctl_off h 1)
  · refine run_completes (f := encPctl p n k 2#32) rfl hl.1 ?_
    rw [encPctl_eq (s := s.quiet) hk (State.quiet_opens hopen) hl.2 (.inr rfl)]
    exact State.modChan_congr n _ id s.quiet (actEncPctl_off h 2)
  · exact unitOp_completes (f := opPcrOnly k) rfl hl (opPcrOnly_none h)
  · exact unitOp_completes (f := opPcrOnly k) rfl hl (opPcrOnly_due hs h)
  · exact unitOp_completes (f := opPcrOnly k) rfl hl (opPcrOnly_not hs h)
  · exact unitOp_completes (f := opPathUnderrun x) rfl hl (opPathUnderrun_none h)
  · exact unitOp_completes (f := opPathUnderrun x) rfl hl (opPathUnderrun_inside hq h)
  · exact unitOp_completes (f := opPathUnderrun x) rfl hl (opPathUnderrun_not hq h)

/-! ### The decoder's input (R306, R307) -/

section Receiver

variable {c : Chan} {k : ColumnRun} {bs : List Byte}

/-- The columns come in on one of the two groups of an active decoder's path. -/
def Chan.hearsGroup (c : Chan) (g : Nat) : Prop :=
  decActive c = true ∧ c.flag Reg.DEC_CFG_INPATH = true ∧ g < 4 ∧ groupUp c g = true ∧
    (c.get Reg.DEC_LANES_GROUPA = g ∨ c.get Reg.DEC_LANES_GROUPB = g)

theorem opUbnenS_taken (hb : (runBody c k).bind laneBytes = some bs) (h : (countViolations k c).hearsGroup k.group) :
    opUbnenS k c = rxTake (countViolations k c) bs (ofBytesBE ((bs.drop 4).take 4)) true := by
  simp only [opUbnenS, hb]
  exact if_pos h

theorem opUbnenS_not (h : (runBody c k).bind laneBytes = none ∨ ¬ (countViolations k c).hearsGroup k.group) :
    opUbnenS k c = countViolations k c := by
  simp only [opUbnenS]
  split
  · next bs hb => exact if_neg (h.resolve_left (by simp [hb]))
  · rfl

variable {i j t : Nat} {rest : List (Nat × Nat × Nat)}

theorem opHoldExpiry_none (h : decActive c = false ∨ c.rx.missing = []) : opHoldExpiry c = c := by
  obtain h | h := h
  · exact if_neg (by simp [h])
  · simp only [opHoldExpiry, h, List.length_nil, rxExpire, ite_self]

theorem opHoldExpiry_over (hact : decActive c = true) (hm : c.rx.missing = (i, j, t) :: rest)
    (h : t + c.get Reg.DEC_HOLD * 65536000 ≤ c.now) : opHoldExpiry c =
      rxExpire rest.length (rxSkip c (c.flag Reg.DEC_CFG_INPATH)) (c.flag Reg.DEC_CFG_INPATH) := by
  simp only [opHoldExpiry, hact, hm, if_true, List.length_cons, rxExpire, if_pos h]

theorem opHoldExpiry_waits (hact : decActive c = true) (hm : c.rx.missing = (i, j, t) :: rest)
    (h : c.now < t + c.get Reg.DEC_HOLD * 65536000) : opHoldExpiry c = c := by
  simp only [opHoldExpiry, hact, hm, if_true, List.length_cons, rxExpire, if_neg (Nat.not_le.mpr h)]

end Receiver

/-! ### Access units (R323 to R328) -/

section AccessUnit

variable {c : Chan} {r : DecodeResult} {u : AccessUnit} {rest : List AccessUnit}

/-- The queue of a decoder in M5 takes no further picture. -/
def Chan.decFull (c : Chan) : Prop := c.mode = 5 ∧ (4 ≤ c.dec.queue.length ∨ c.dec.outs.isEmpty = false)

/-- The access unit in front is taken. -/
def Chan.unitTaken (c : Chan) (rest : List AccessUnit) : Chan := { c with dec := { c.dec with units := rest } }

/-- Its parameter sets are kept, and the beats that its bytes and references take are checked. -/
def Chan.unitBegun (c : Chan) (z : Scan) (r : DecodeResult) : Chan :=
  memFind { c with dec := { c.dec with seqs := z.seqs, pics := z.pics } } r.beats

/-- What the decoding of the unit reads. -/
def decReads (c : Chan) (u : AccessUnit) (r : DecodeResult) : List (Nat × Nat) :=
  decPlaces c u.start u.bytes.length ++ r.reads

def decRead (c : Chan) (u : AccessUnit) (r : DecodeResult) : Chan :=
  (decReads c u r).foldl (fun c e => memRead c e.1 e.2 5) c

def decReadFails (c : Chan) (u : AccessUnit) (r : DecodeResult) : Bool :=
  (decReads c u r).any (fun e => memReadFails c e.1 e.2)

def gapStop (u : AccessUnit) (r : DecodeResult) : Option StopCause := u.gap.map (fun o => ⟨0x09, 0, r.reached, o⟩)

def parseStop (r : DecodeResult) : Option StopCause := r.stop.filter (fun e => e.cause != 0x0A)

/-- Why the decoder stops at a unit, if it does: a gap or a stop of its headers, a beat that cannot be read, what parsing
finds. -/
def unitStop (b : Chan) (z : Scan) (u : AccessUnit) (r : DecodeResult) : Option StopCause :=
  if decReadFails b u r then firstStop [gapStop u r, z.stop] <|> some ⟨0x0B, 7, r.reached, 0⟩
  else firstStop [gapStop u r, z.stop, parseStop r]

section UnitStop

variable {b : Chan} {z : Scan} {u : AccessUnit} {r : DecodeResult} {e : StopCause}

theorem unitStop_readable (h : ¬ decReadFails b u r = true) :
    unitStop b z u r = firstStop [gapStop u r, z.stop, parseStop r] := if_neg h

theorem unitStop_unreadable (h : decReadFails b u r = true) (hs : firstStop [gapStop u r, z.stop] = some e) :
    unitStop b z u r = some e := by
  rw [unitStop, if_pos h, hs]
  rfl

theorem unitStop_memory (h : decReadFails b u r = true) (hs : firstStop [gapStop u r, z.stop] = none) :
    unitStop b z u r = some ⟨0x0B, 7, r.reached, 0⟩ := by
  rw [unitStop, if_pos h, hs]
  rfl

end UnitStop

/-- The unit is passed over: before a resume point, or a leading picture that may not be decoded. -/
def Chan.unitPassed (c : Chan) (z : Scan) : Prop :=
  c.get Reg.DEC_STAT_STATE = 3 ∧ z.resume = false ∨ z.rasl = true ∧ c.dec.skipLeading = true

theorem opAccessUnit_idle (h : decActive c = false ∨ c.dec.units = [] ∨ c.get Reg.DEC_STAT_STATE = 2 ∨ c.decFull) :
    opAccessUnit r c = c := by
  simp only [opAccessUnit]
  split
  · rfl
  · next u rest hu =>
    refine if_pos ?_
    obtain h | h | h | ⟨h5, h⟩ := h
    · exact .inl (by simp [h])
    · exact absurd (hu.symm.trans h) (by simp)
    · exact .inr (.inl h)
    · exact .inr (.inr ⟨h5, h.imp_right (by simp [·])⟩)

variable (hu : c.dec.units = u :: rest) (hact : decActive c = true) (hst : c.get Reg.DEC_STAT_STATE ≠ 2)
  (hroom : ¬ c.decFull)
include hu hact hst hroom

/-- The unit is looked at. -/
theorem opAccessUnit_taken : opAccessUnit r c =
    let d := c.unitTaken rest
    let z := scanUnit d r.vvc u
    if c.get Reg.DEC_STAT_STATE = 3 ∧ ¬ z.resume then decRest d
    else if z.rasl ∧ d.dec.skipLeading then decRest d
    else
      let b := d.unitBegun z r
      match unitStop b z u r with
      | some e => decStop (decRead b u r) e u
      | none => decRest (if z.slice then decPicture r z u (c.get Reg.DEC_STAT_STATE == 3) (decRead b u r)
          else decRead b u r) := by
  have hgo : ¬ ((!decActive c) = true ∨ c.get Reg.DEC_STAT_STATE = 2 ∨
      (c.mode = 5 ∧ (4 ≤ c.dec.queue.length ∨ ¬ c.dec.outs.isEmpty = true))) := by
    rintro (h | h | ⟨h5, h⟩)
    · simp [hact] at h
    · exact hst h
    · exact hroom ⟨h5, h.imp_right (by simp [·])⟩
  simp only [opAccessUnit, hu]
  exact if_neg hgo

theorem opAccessUnit_passed (h : c.unitPassed (scanUnit (c.unitTaken rest) r.vvc u)) :
    opAccessUnit r c = decRest (c.unitTaken rest) := by
  refine (opAccessUnit_taken hu hact hst hroom).trans ?_
  obtain ⟨h3, hres⟩ | hlead := h
  · exact if_pos ⟨h3, by simp [hres]⟩
  · exact (congrArg (ite _ _) (if_pos hlead)).trans (ite_self _)

section Decoded

variable {z : Scan} (hz : scanUnit (c.unitTaken rest) r.vvc u = z) (h : ¬ c.unitPassed z)
include hz h

theorem opAccessUnit_decoded : opAccessUnit r c =
    let b := (c.unitTaken rest).unitBegun z r
    match unitStop b z u r with
    | some e => decStop (decRead b u r) e u
    | none => decRest (if z.slice then decPicture r z u (c.get Reg.DEC_STAT_STATE == 3) (decRead b u r)
        else decRead b u r) := by
  subst hz
  have hseek : ¬ (c.get Reg.DEC_STAT_STATE = 3 ∧ ¬ (scanUnit (c.unitTaken rest) r.vvc u).resume = true) :=
    fun ⟨h3, hres⟩ => h (.inl ⟨h3, by simpa using hres⟩)
  exact (opAccessUnit_taken hu hact hst hroom).trans ((if_neg hseek).trans (if_neg (fun hl => h (.inr hl))))

theorem opAccessUnit_stops {e : StopCause} (hstop : unitStop ((c.unitTaken rest).unitBegun z r) z u r = some e) :
    opAccessUnit r c = decStop (decRead ((c.unitTaken rest).unitBegun z r) u r) e u := by
  rw [opAccessUnit_decoded hu hact hst hroom hz h]
  simp only [hstop]

theorem opAccessUnit_goes (hstop : unitStop ((c.unitTaken rest).unitBegun z r) z u r = none) : opAccessUnit r c =
    let b := (c.unitTaken rest).unitBegun z r
    decRest (if z.slice then decPicture r z u (c.get Reg.DEC_STAT_STATE == 3) (decRead b u r) else decRead b u r) := by
  rw [opAccessUnit_decoded hu hact hst hroom hz h]
  simp only [hstop]

end Decoded

end AccessUnit

/-! ### RESUME and starvation (R323, R328) -/

/-- DEC_CTL. -/
def decCtlReg : RegDef :=
  { name := "DEC_CTL", page := 0, pages := 1, off := 260, reps := 1, stride := 0, words := 1, staged := false
    cross := .none, act := .decCtl, fields := [{ name := "RESUME", hi := 0, lo := 0, acc := .wo, reset := 0 }] }

theorem unitHit_decCtl : unitHit 0xE0104 = .reg .dec 0 0 0 decCtlReg := by decide +kernel

theorem State.writeTo_decCtl {s : State} {p : Path} {n : Nat} (hopen : s.opens p (.unit n 0xE0104))
    (hrun : s.running n = true) : s.writeTo p (.unit n 0xE0104) 1#32 = s.modChan n (actDecCtl 1) :=
  State.writeTo_unitRun hopen hrun unitHit_decCtl rfl rfl rfl rfl (by decide) rfl rfl rfl

theorem actDecCtl_stopped {c : Chan} (h : c.get Reg.DEC_STAT_STATE = 2) : actDecCtl 1 c =
    let d := (c.set Reg.DEC_STAT_STATE 3).set Reg.DEC_STAT_QUEUE 0
    { d with dec := { d.dec with queue := [], outs := [], dpb := [], leadMet := false, recoverAt := none } } :=
  if_pos ⟨rfl, h⟩

theorem actDecCtl_not {c : Chan} (h : c.get Reg.DEC_STAT_STATE ≠ 2) : actDecCtl 1 c = c := if_neg fun hs => h hs.2

theorem opDecoderStarved_stops {c : Chan} {u : AccessUnit} (hact : decActive c = true) (hu : c.dec.open_ = some u)
    (hst : c.get Reg.DEC_STAT_STATE ≠ 2) (hnone : c.dec.units = []) :
    opDecoderStarved c = (decStop c ⟨0x0C, 7, ofBytesLE (c.freeBytes 2), 0⟩ u).draw := by
  simp only [opDecoderStarved, hu]
  exact if_pos ⟨hact, hst, by simp [hnone]⟩

theorem opDecoderStarved_not {c : Chan} (h : decActive c = false ∨ c.dec.open_ = none ∨ c.get Reg.DEC_STAT_STATE = 2 ∨
    c.dec.units ≠ []) : opDecoderStarved c = c := by
  simp only [opDecoderStarved]
  split
  · next u hu =>
    refine if_neg ?_
    rintro ⟨hact, hst, hnone⟩
    obtain h | h | h | h := h
    · exact absurd (hact.symm.trans h) (by decide)
    · exact absurd (hu.symm.trans h) (by simp)
    · exact hst h
    · exact h (List.isEmpty_iff.mp hnone)
  · rfl

/-- Settles O41: what comes in is for this decoder or not, a hold time is over or not, and a unit is passed over, stops the
decoder or is decoded. -/
theorem decoderEvents : Obligations.DecoderEvents := by
  intro n s hl
  refine ⟨fun k => ⟨fun bs hb h => ?_, fun h => ?_⟩, fun hact i j t rest hm => ⟨fun h => ?_, fun h => ?_⟩, fun h => ?_,
    fun r => ⟨fun h => ?_, fun u rest hu hact hst hroom => ?_⟩, fun p hopen => ⟨fun h => ?_, fun h => ?_⟩,
    fun u hact hu hst hnone => ?_, fun h => ?_⟩
  · exact unitOp_completes (f := opUbnenS k) rfl hl (opUbnenS_taken hb h)
  · exact unitOp_completes (f := opUbnenS k) rfl hl (opUbnenS_not h)
  · exact unitOp_completes (f := opHoldExpiry) rfl hl (opHoldExpiry_over hact hm h)
  · exact unitOp_completes (f := opHoldExpiry) rfl hl (opHoldExpiry_waits hact hm h)
  · exact unitOp_completes (f := opHoldExpiry) rfl hl (opHoldExpiry_none h)
  · exact unitOp_completes (f := opAccessUnit r) rfl hl (opAccessUnit_idle h)
  · have hunit {g : Chan → Chan} (h : opAccessUnit r (s.chan n) = g (s.chan n)) :
        CompletesIn (.accessUnitDecode n r) n s g := unitOp_completes (f := opAccessUnit r) rfl hl h
    refine ⟨fun h => hunit (opAccessUnit_passed hu hact hst hroom h), fun e h hreads hstop => ?_, fun e h hreads hstop => ?_,
      fun h hreads hstop => ?_, fun h hreads hstop => ?_⟩
    · exact hunit (opAccessUnit_stops hu hact hst hroom rfl h ((unitStop_readable hreads).trans hstop))
    · exact hunit (opAccessUnit_stops hu hact hst hroom rfl h (unitStop_unreadable hreads hstop))
    · exact hunit (opAccessUnit_stops hu hact hst hroom rfl h (unitStop_memory hreads hstop))
    · exact hunit (opAccessUnit_goes hu hact hst hroom rfl h ((unitStop_readable hreads).trans hstop))
  · refine run_completes (f := State.writeTo p (.unit n 0xE0104) 1#32) rfl hl.1 ?_
    rw [State.writeTo_decCtl (s := s.quiet) (State.quiet_opens hopen) hl.2]
    exact State.modChan_congr n _ _ s.quiet (actDecCtl_stopped h)
  · refine run_completes (f := State.writeTo p (.unit n 0xE0104) 1#32) rfl hl.1 ?_
    rw [State.writeTo_decCtl (s := s.quiet) (State.quiet_opens hopen) hl.2]
    exact State.modChan_congr n _ id s.quiet (actDecCtl_not h)
  · exact unitOp_completes (f := opDecoderStarved) rfl hl (opDecoderStarved_stops hact hu hst hnone)
  · exact unitOp_completes (f := opDecoderStarved) rfl hl (opDecoderStarved_not h)

end Sys2Proof.Machine

/-! Audio ports and the memory controller (15_audio_ports.md, 16_memory.md). -/

namespace Sys2Proof.Machine

/-! ### AUD_xCTL (R393, R399) -/

/-- AUD_xCTL of a port's two sides. -/
def audCtlReg : RegDef :=
  { name := "AUD_CTL", page := 1, pages := 4, off := 284, reps := 2, stride := 64, words := 1, staged := false
    cross := .none, act := .audCtl
    fields := [{ name := "ARM", hi := 0, lo := 0, acc := .wo, reset := 0 },
      { name := "RESTART", hi := 1, lo := 1, acc := .wo, reset := 0 }] }

theorem unitHit_audCtl {j x : Nat} (hj : j < 4) (hx : x < 2) :
    unitHit (0x14111C + 0x1000 * j + 0x40 * x) = .reg .aud (j + 1) x 0 audCtlReg := by
  have hall : ∀ j < 4, ∀ x < 2, unitHit (0x14111C + 0x1000 * j + 0x40 * x) = .reg .aud (j + 1) x 0 audCtlReg := by
    decide +kernel
  exact hall j hj x hx

section AudCtl

variable {s : State} {p : Path} {n : Fin 5} {j x : Nat} {v : Word} (hj : j < 4) (hx : x < 2)
  (hopen : s.opens p (.unit n (0x14111C + 0x1000 * j + 0x40 * x))) (hrun : s.running n = true)
  (hv : v = 1#32 ∨ v = 2#32)
include hj hx hopen hrun hv

theorem audCtl_accept (hcode : audCtlCode (s.chan n) j x v.toNat = 0) :
    audCtl p n j x v s = s.modChan n (actAudCtl j x v.toNat) := by
  have howner : s.ownerCode (.unit n) audCtlReg (j + 1) x v.toNat = audCtlCode (s.chan n) (j + 1 - 1) x v.toNat := rfl
  have hact : State.act (.unit n) audCtlReg (j + 1) x (0x14111C + 0x1000 * j + 0x40 * x) v.toNat s =
      s.modRun n (actAudCtl (j + 1 - 1) x v.toNat) := rfl
  rw [Nat.add_sub_cancel] at howner hact
  refine (if_pos ⟨hj, hx⟩).trans ?_
  exact State.writeTo_unitRun hopen hrun (unitHit_audCtl hj hx) rfl rfl (by obtain rfl | rfl := hv <;> rfl) rfl (by omega)
    rfl (howner.trans hcode) hact

theorem audCtl_refuse (hcode : audCtlCode (s.chan n) j x v.toNat ≠ 0) : audCtl p n j x v s =
    s.modChan n (discardUnit .aud (audCtlCode (s.chan n) j x v.toNat) (bar0Unit n (0x14111C + 0x1000 * j + 0x40 * x))
      (pathCode p) v.toNat) := by
  have howner : s.ownerCode (.unit n) audCtlReg (j + 1) x v.toNat = audCtlCode (s.chan n) (j + 1 - 1) x v.toNat := rfl
  rw [Nat.add_sub_cancel] at howner
  refine (if_pos ⟨hj, hx⟩).trans ?_
  rw [State.writeTo_unit_refuse hopen hrun (unitHit_audCtl hj hx) rfl rfl (by obtain rfl | rfl := hv <;> rfl) rfl rfl
    (by decide) (by rwa [howner]), howner]

end AudCtl

section ActAudCtl

variable {c : Chan} {j x : Nat}

theorem audCtlCode_zeroMask (h : c.get (Reg.AUD_MASK_NEXT j x) = 0) : audCtlCode c j x 1 = codeZERO_FIELD :=
  (if_pos rfl).trans (if_pos h)

/-- A restart has no check. -/
theorem audCtlCode_restart : audCtlCode c j x 2 = 0 := if_neg (by decide)

theorem actAudCtl_arm : actAudCtl j x 1 c = (c.modSide j x (fun a => { a with
    pendingMask := some (c.get (Reg.AUD_MASK_NEXT j x)) })).set (Reg.AUD_STAT_PENDING j x) 1 := by
  have harm : bitAt 1 0 = true := rfl
  have hrestart : bitAt 1 1 = false := rfl
  simp only [actAudCtl, harm, hrestart, Bool.false_eq_true, false_and, if_false, if_true]

theorem actAudCtl_restart (h : c.get (Reg.AUD_STAT_STATE j x) ≠ 0) :
    actAudCtl j x 2 c = c.modSide j x (fun a => { a with restart := true }) := if_pos ⟨rfl, h⟩

theorem actAudCtl_off (h : c.get (Reg.AUD_STAT_STATE j x) = 0) : actAudCtl j x 2 c = c := if_neg (fun hs => hs.2 h)

end ActAudCtl

/-! ### Frame syncs (R388, R389) -/

section Filter

variable {c : Chan} {j x m : Nat} {rising inRate : Bool} {sync : AudSync}

/-- What a sync that begins a frame does to the one in progress. -/
def Chan.audEnds (c : Chan) (j x : Nat) : AudCut := if (c.side j x).open_.isSome then .whole else .begins

theorem audFilter_off (h : c.get (Reg.AUD_STAT_STATE j x) = 0) : audFilter c j x sync = (c, .none) := if_pos h

section On

variable (hon : c.get (Reg.AUD_STAT_STATE j x) ≠ 0)
include hon

theorem audFilter_master (hm : c.flag (Reg.AUD_CFG_MASTER j x) = true) : audFilter c j x sync =
    (c, if audSyncs c j x = (c.side j x).syncs then .none else c.audEnds j x) := by
  refine (if_neg hon).trans ((if_pos hm).trans ?_)
  rw [ite_not]
  rfl

variable (hs : c.flag (Reg.AUD_CFG_MASTER j x) = false)
include hs

theorem audFilter_absent : audFilter c j x .absent =
    if c.get (Reg.AUD_STAT_STATE j x) = 1 then (c.modSide j x (fun s => { s with good := 0 }), .none)
    else (c, c.audEnds j x) :=
  (if_neg hon).trans (if_neg (by simp [hs]))

theorem audFilter_otherEdge (hp : rising = c.flag (Reg.AUD_CFG_FSPOL j x)) :
    audFilter c j x (.edge rising m inRate) = (c, .none) :=
  (if_neg hon).trans ((if_neg (by simp [hs])).trans (if_pos (by simp [hp])))

end On

section Seeking

/-- The good syncs in a row of a slave that seeks, with an edge `m` bit clocks after the last. -/
def goodSyncs (good m : Nat) (inRate : Bool) : Nat := if !inRate then 0 else if m = 512 then good + 1 else 1

variable (h1 : c.get (Reg.AUD_STAT_STATE j x) = 1) (hs : c.flag (Reg.AUD_CFG_MASTER j x) = false)
  (hp : rising ≠ c.flag (Reg.AUD_CFG_FSPOL j x))
include h1 hs hp

theorem audFilter_seeking : audFilter c j x (.edge rising m inRate) =
    if 3 ≤ goodSyncs (c.side j x).good m inRate then
      ((c.modSide j x (fun s => { s with good := 0, wrong := 0 })).set (Reg.AUD_STAT_STATE j x)
        (if (c.side j x).lag = 0 then 2 else 3), .begins)
    else (c.modSide j x (fun s => { s with good := goodSyncs (c.side j x).good m inRate }), .none) :=
  (if_neg (by omega)).trans ((if_neg (by simp [hs])).trans ((if_neg (by simpa using hp)).trans (if_pos h1)))

theorem audFilter_seeks {g : Nat} (hg : goodSyncs (c.side j x).good m inRate = g) (hlt : g < 3) :
    audFilter c j x (.edge rising m inRate) = (c.modSide j x (fun a => { a with good := g }), .none) := by
  rw [audFilter_seeking h1 hs hp, hg, if_neg (by omega)]

theorem audFilter_locks (hg : 3 ≤ goodSyncs (c.side j x).good m inRate) : audFilter c j x (.edge rising m inRate) =
    ((c.modSide j x (fun a => { a with good := 0, wrong := 0 })).set (Reg.AUD_STAT_STATE j x)
      (if (c.side j x).lag = 0 then 2 else 3), .begins) := by
  rw [audFilter_seeking h1 hs hp, if_pos hg]

end Seeking

section Locked

variable (h2 : 2 ≤ c.get (Reg.AUD_STAT_STATE j x)) (hs : c.flag (Reg.AUD_CFG_MASTER j x) = false)
include h2 hs

theorem audFilter_missing : audFilter c j x .absent = (c, c.audEnds j x) :=
  (audFilter_absent (by omega) hs).trans (if_neg (by omega))

variable (hp : rising ≠ c.flag (Reg.AUD_CFG_FSPOL j x))
include hp

theorem audFilter_inPlace : audFilter c j x (.edge rising 512 inRate) =
    (c.modSide j x (fun a => { a with wrong := 0 }), c.audEnds j x) :=
  (if_neg (by omega)).trans ((if_neg (by simp [hs])).trans ((if_neg (by simpa using hp)).trans
    ((if_neg (by omega)).trans (if_pos rfl))))

theorem audFilter_wrong (hm : m ≠ 512) :
    let w := if (c.side j x).wrongAt = m then (c.side j x).wrong + 1 else 1
    audFilter c j x (.edge rising m inRate) = (((c.bump (Reg.AUD_COUNT_FSERR j x)).input .aud).modSide j x (fun a =>
      { a with fserr := true, wrongAt := m, wrong := if 3 ≤ w then 0 else w }), if 3 ≤ w then .begins else .none) :=
  (if_neg (by omega)).trans ((if_neg (by simp [hs])).trans ((if_neg (by simpa using hp)).trans
    ((if_neg (by omega)).trans (if_neg hm))))

end Locked

end Filter

/-! ### Frames (R390 to R398) -/

section Frames

variable {c : Chan} {j : Nat} {sync : AudSync} {line : TdmLine} {errs : List Nat} {beats : List (Nat × BeatCheck)}
  (hj : j < 4)
include hj

theorem opTdmFrame_none (h : (audFilter c j 0 sync).2 = .none) :
    opTdmFrame j sync line errs c = (audFilter c j 0 sync).1 := by
  simp only [opTdmFrame, if_pos hj, h]

theorem opTdmFrame_begins (h : (audFilter c j 0 sync).2 = .begins) :
    opTdmFrame j sync line errs c = audBegin (audFilter c j 0 sync).1 j 0 := by
  simp only [opTdmFrame, if_pos hj, h]

theorem opTdmFrame_whole (h : (audFilter c j 0 sync).2 = .whole) : opTdmFrame j sync line errs c =
    audBegin (audReceive (audFilter c j 0 sync).1 j (slotWords (audFilter c j 0 sync).1 j line) errs) j 0 := by
  simp only [opTdmFrame, if_pos hj, h]

theorem opTdmFrameTransmit_none (h : (audFilter c j 1 sync).2 = .none) :
    opTdmFrameTransmit j sync beats c = (audFilter c j 1 sync).1 := by
  simp only [opTdmFrameTransmit, if_pos hj, h, if_true]

theorem opTdmFrameTransmit_plays (h : (audFilter c j 1 sync).2 ≠ .none) :
    opTdmFrameTransmit j sync beats c = audPlay (memFind (audFilter c j 1 sync).1 beats) j := by
  simp only [opTdmFrameTransmit, if_pos hj, if_neg h]

end Frames

theorem audReceive_open {c : Chan} {j : Nat} {f : AudEdge} {words errs : List Nat} (h : (c.side j 0).open_ = some f) :
    audReceive c j words errs =
      let d := audStamp (audDrain j 64 c) j 0 f
      let act := maskSlots (d.get (Reg.AUD_MASK_CUR j 0))
      let r := (List.range act.length).foldl (fun (p : Chan × Nat) i =>
        let t := audTake p.1 j (BitVec.ofNat 32 (words.getD (act.getD i 0) 0)) (errs.contains i)
        (t.1, if t.2 then p.2 + 1 else p.2)) (d, 0)
      audCheck r.1 j 0 r.2 act.length := by
  simp only [audReceive, h]

/-- Settles O49: the writes of AUD_xCTL by their code, the filter by the state of its side, and a sync by what it does to the
frame in progress. -/
theorem audioPorts : Obligations.AudioPorts := by
  refine ⟨fun n j x p s hl hj hx hopen => ?_, fun n j x s hl hj hx => ⟨fun h2 hs => ?_, fun h => ?_⟩,
    fun c j x m rising inRate sync => ?_, fun n j sync line errs beats s hl hj => ?_⟩
  · have hq := State.quiet_opens hopen
    refine ⟨fun hcode => ?_, fun hcode => ?_, audCtlCode_zeroMask, fun hon => ?_, fun hoff => ?_⟩
    · refine run_completes (f := audCtl p n j x 1#32) rfl hl.1 ?_
      rw [audCtl_accept (s := s.quiet) hj hx hq hl.2 (.inl rfl) hcode]
      exact State.modChan_congr n _ _ s.quiet actAudCtl_arm
    · exact run_completes (f := audCtl p n j x 1#32) rfl hl.1
        (audCtl_refuse (s := s.quiet) hj hx hq hl.2 (.inl rfl) hcode)
    · refine run_completes (f := audCtl p n j x 2#32) rfl hl.1 ?_
      rw [audCtl_accept (s := s.quiet) hj hx hq hl.2 (.inr rfl) audCtlCode_restart]
      exact State.modChan_congr n _ _ s.quiet (actAudCtl_restart hon)
    · refine run_completes (f := audCtl p n j x 2#32) rfl hl.1 ?_
      rw [audCtl_accept (s := s.quiet) hj hx hq hl.2 (.inr rfl) audCtlCode_restart]
      exact State.modChan_congr n _ id s.quiet (actAudCtl_off hoff)
  · exact unitOp_completes (f := opBitClockLoss j x) rfl hl (if_pos ⟨hj, hx, h2, by simp [hs]⟩)
  · refine unitOp_completes (f := opBitClockLoss j x) rfl hl (if_neg ?_)
    rintro ⟨-, -, h2, hs⟩
    exact h.elim (Nat.not_lt.mpr h2) hs
  · refine ⟨audFilter_off, fun hon hm => audFilter_master hon (by simpa using hm),
      fun hon hs hp => audFilter_otherEdge hon hs (not_not.mp hp), fun h1 hs hp hr hm hg => ?_, fun h1 hs hp hr hm hg => ?_,
      fun h1 hs hp hr hm => ?_, fun h1 hs hp hr => ?_, fun h1 hs => ?_, audFilter_missing, fun h2 hs hp hm => ?_,
      audFilter_wrong⟩
    · exact audFilter_seeks h1 hs hp (by simp [goodSyncs, hr, hm]) (by omega)
    · refine audFilter_locks h1 hs hp ?_
      simpa [goodSyncs, hr, hm] using hg
    · exact audFilter_seeks h1 hs hp (by simp [goodSyncs, hr, hm]) (by omega)
    · exact audFilter_seeks h1 hs hp (by simp [goodSyncs, hr]) (by omega)
    · exact (audFilter_absent (by omega) hs).trans (if_pos h1)
    · rw [hm]
      exact audFilter_inPlace h2 hs hp
  · refine ⟨fun h => ?_, fun h => ?_, fun f h hf => ?_, fun h => ?_, fun h => ?_⟩
    · exact unitOp_completes (f := opTdmFrame j sync line errs) rfl hl (opTdmFrame_none hj h)
    · exact unitOp_completes (f := opTdmFrame j sync line errs) rfl hl (opTdmFrame_begins hj h)
    · exact unitOp_completes (f := opTdmFrame j sync line errs) rfl hl
        ((opTdmFrame_whole hj h).trans (congrArg (audBegin · j 0) (audReceive_open hf)))
    · exact unitOp_completes (f := opTdmFrameTransmit j sync beats) rfl hl (opTdmFrameTransmit_none hj h)
    · exact unitOp_completes (f := opTdmFrameTransmit j sync beats) rfl hl (opTdmFrameTransmit_plays hj h)

/-! ### The memory controller (R406 to R420) -/

section Memory

variable {c : Chan}

theorem opInitDone_over (h : c.mem.initialising = true) : opInitDone c =
    ({ c.set Reg.MEM_STAT_INITDONE 1 with mem := { c.mem with initialising := false } } : Chan).emit .initDone := if_pos h

theorem opInitDone_not (h : c.mem.initialising = false) : opInitDone c = c := if_neg (by simp [h])

theorem opScrubBeat_not {k : BeatCheck} (h : c.mem.initialising = true ∨ scrubDue c = false) : opScrubBeat k c = c :=
  if_pos (h.imp_right (by simp [·]))

/-- No correction leaves the pass's count. -/
theorem passCorr_add (n : Nat) : (if n = 0 then c else { c with mem := { c.mem with passCorr := c.mem.passCorr + n } }) =
    { c with mem := { c.mem with passCorr := c.mem.passCorr + n } } := by
  split
  · next h => rw [h, Nat.add_zero]
  · rfl

theorem opScrubBeat_due {k : BeatCheck} (hinit : c.mem.initialising = false) (hdue : scrubDue c = true) : opScrubBeat k c =
    let a := c.get Reg.MEM_SCRUB_POS_ADDR
    let d := memMoved (memBeat c a k) 7 a 32
    let fixed := memSoft d a 32
    let e := memCorrect d true fixed
    let e : Chan := { e with mem := { e.mem with passCorr := e.mem.passCorr + (fixed.length + b2n k.stackCorrected) } }
    scrubNext ((memBad e a 32).foldl (fun c x => memFail c x.1 7 x.2) e) a := by
  refine (if_neg (by simp [hinit, hdue])).trans ?_
  simp only [passCorr_add]
  rfl

/-- RECAL has passed since the pseudo-channel before. -/
def Chan.recalDue (c : Chan) : Prop := c.mem.recalAt + c.get Reg.MEM_RECAL * 25000 ≤ c.tim.age

/-- The results are to be copied to the umpire. -/
def Chan.copyDue (c : Chan) (t : Int) : Prop :=
  5 ≤ (t - c.mem.copyTemp).natAbs ∨ c.mem.copyTime + 60000 * 25000 ≤ c.tim.age

/-- A pseudo-channel is recalibrated at temperature `t`. -/
def recalibrated (t : Int) (c : Chan) : Chan :=
  let d := memTemp (t * 10) c
  { d with mem := { d.mem with nextPc := (d.mem.nextPc + 1) % 32, recalAt := d.tim.age } }

variable {t : Int}

theorem opRecalibration_not (h : ¬ c.recalDue) : opRecalibration t c = c := if_pos (Nat.not_le.mp h)

theorem opRecalibration_copies (h : c.recalDue) (hc : c.copyDue t) : opRecalibration t c =
    ({ recalibrated t c with mem := { (recalibrated t c).mem with copyTemp := t, copyTime := c.tim.age } } : Chan).emit
      (.training t) := (if_neg (Nat.not_lt.mpr h)).trans (if_pos hc)

theorem opRecalibration_keeps (h : c.recalDue) (hc : ¬ c.copyDue t) : opRecalibration t c = recalibrated t c :=
  (if_neg (Nat.not_lt.mpr h)).trans (if_neg hc)

/-- The storm is over: the count has stayed below STORMN at every moment of a window at which it could have risen. -/
def Chan.stormOver (c : Chan) : Prop :=
  let window := c.get Reg.MEM_STORMCFG_STORMWIN * 65536000000
  let below (t : Nat) : Prop := stormCount window t c.mem.errTimes < c.get Reg.MEM_STORMCFG_STORMN
  c.flag Reg.MEM_STAT_STORM = true ∧ below (c.now - window) ∧ ∀ t ∈ c.mem.errTimes, c.now < t + window → below t

theorem Chan.stormOver_iff : (c.flag Reg.MEM_STAT_STORM = true ∧
    ((c.now - c.get Reg.MEM_STORMCFG_STORMWIN * msUnits) :: c.mem.errTimes.filter (fun t =>
      decide (c.now < t + c.get Reg.MEM_STORMCFG_STORMWIN * msUnits))).all (fun t =>
        decide (stormCount (c.get Reg.MEM_STORMCFG_STORMWIN * msUnits) t c.mem.errTimes <
          c.get Reg.MEM_STORMCFG_STORMN)) = true) ↔ c.stormOver := by
  simp only [List.all_cons, List.all_filter, Bool.and_eq_true, decide_eq_true_eq, List.all_eq_true, Bool.or_eq_true,
    Bool.not_eq_true', decide_eq_false_iff_not, ← imp_iff_not_or]
  rfl

theorem opStormClear_over (h : c.stormOver) : opStormClear c = c.set Reg.MEM_STAT_STORM 0 :=
  if_pos (Chan.stormOver_iff.mpr h)

theorem opStormClear_not (h : ¬ c.stormOver) : opStormClear c = c := if_neg (mt Chan.stormOver_iff.mp h)

variable {a : Nat} {bs : List Byte} {rest : List (Nat × List Byte)}

theorem opSinkDrain_none (h : c.sink.writes = [] ∨ c.mem.initialising = true) : opSinkDrain c = c := by
  obtain h | h := h
  · simp only [opSinkDrain, h, ite_self]
  · exact if_pos h

variable (hinit : c.mem.initialising = false) (hw : c.sink.writes = (a, bs) :: rest)
include hinit hw

theorem opSinkDrain_granted (hg : memGrants c 6 a bs.length = true) : opSinkDrain c =
    let d := memWrite c a 6 bs
    { d with sink := { d.sink with writes := rest, held := d.sink.held - bs.length, drained := d.sink.drained + 1 } } := by
  simp only [opSinkDrain, hinit, hw, hg, Bool.false_eq_true, if_false, if_true]

theorem opSinkDrain_waits (hg : memGrants c 6 a bs.length = false) : opSinkDrain c = c := by
  simp only [opSinkDrain, hinit, hw, hg, Bool.false_eq_true, if_false]

end Memory

/-- Settles O51: each event of the controller has its moment or not. -/
theorem memoryEvents : Obligations.MemoryEvents := by
  refine ⟨fun n s hl => ⟨fun h => ?_, fun h => ?_, fun k => ⟨fun h => ?_, fun hinit hdue => ?_⟩, fun t => ⟨fun h => ?_,
    fun h hc => ?_, fun h hc => ?_⟩, fun h => ?_, fun h => ?_⟩, fun n s hl => ⟨fun a bs rest hinit hw => ⟨fun hg => ?_,
    fun hg => ?_⟩, fun h => ?_⟩⟩
  · exact unitOp_completes (f := opInitDone) rfl hl (opInitDone_over h)
  · exact unitOp_completes (f := opInitDone) rfl hl (opInitDone_not h)
  · exact unitOp_completes (f := opScrubBeat k) rfl hl (opScrubBeat_not h)
  · exact unitOp_completes (f := opScrubBeat k) rfl hl (opScrubBeat_due hinit hdue)
  · exact unitOp_completes (f := opRecalibration t) rfl hl (opRecalibration_not h)
  · exact unitOp_completes (f := opRecalibration t) rfl hl (opRecalibration_copies h hc)
  · exact unitOp_completes (f := opRecalibration t) rfl hl (opRecalibration_keeps h hc)
  · exact unitOp_completes (f := opStormClear) rfl hl (opStormClear_over h)
  · exact unitOp_completes (f := opStormClear) rfl hl (opStormClear_not h)
  · exact unitOp_completes (f := opSinkDrain) rfl hl (opSinkDrain_granted hinit hw hg)
  · exact unitOp_completes (f := opSinkDrain) rfl hl (opSinkDrain_waits hinit hw hg)
  · exact unitOp_completes (f := opSinkDrain) rfl hl (opSinkDrain_none h)

end Sys2Proof.Machine

/-! The PTP port (13_timing_unit.md, R342 and R355 to R358). -/

namespace Sys2Proof.Machine

/-! ### Received messages (R356) -/

section Take

variable {c : Chan} {f : List Byte} {typ : Nat} {g : PtpMsg → Chan → Chan} {m : PtpMsg}

/-- A message is rejected: counted in DROPS, and an input of reference 0 that was refused. -/
def ptpReject (c : Chan) : Chan := timReject (c.bump Reg.TIM_PTP_STAT_DROPS) 0

theorem ptpTake_down (h : ptpUp c = false) : ptpTake c f typ g = c := if_pos (by simp [h])

variable (hup : ptpUp c = true)
include hup

theorem ptpTake_failed (hf : readFrame c f = .failed) : ptpTake c f typ g = ptpReject c := by
  simp only [ptpTake, hup, hf, Bool.not_true, Bool.false_eq_true, if_false]
  rfl

theorem ptpTake_bad (hf : readFrame c f = .ptp m) (hok : ptpOk c m = false) : ptpTake c f typ g = ptpReject c := by
  simp only [ptpTake, hup, hf, hok, Bool.not_true, Bool.not_false, Bool.false_eq_true, if_false, if_true]
  rfl

theorem ptpTake_good (hf : readFrame c f = .ptp m) (hok : ptpOk c m = true) (ht : m.typ = typ) :
    ptpTake c f typ g = g m c := by
  simp only [ptpTake, hup, hf, hok, ht, Bool.not_true, Bool.false_eq_true, if_false, if_true]

end Take

section Messages

variable {c : Chan} {f : List Byte} {m : PtpMsg} (hup : ptpUp c = true) (hf : readFrame c f = .ptp m) (hok : ptpOk c m = true)
include hup hf hok

theorem opPtpSync_other (ht : m.typ = 0) (h : ptpFollows c m = false) : opPtpSync f c = c :=
  (ptpTake_good hup hf hok ht).trans (if_pos (by simp [h]))

/-- A Sync of the present master. -/
theorem opPtpSync_follows (ht : m.typ = 0) (h : ptpFollows c m = true) : opPtpSync f c =
    let d := c.modPtp (fun p => { p with lastSync := some c.tim.age })
    ptpPresence (if m.twoStep then d.modPtp (fun p => { p with sync := some (m.seq, ptpRx c, m.correction + ptpAsym c) })
      else ptpOffset (d.modPtp (fun p => { p with
        t12 := some (m.time + (m.correction + ptpAsym c), ptpRx c), sync := none }))) :=
  (ptpTake_good hup hf hok ht).trans (if_neg (by simp [h]))

theorem opPtpSync_twoStep (ht : m.typ = 0) (h : ptpFollows c m = true) (h2 : m.twoStep = true) : opPtpSync f c =
    ptpPresence (c.modPtp (fun q => { q with
      lastSync := some c.tim.age, sync := some (m.seq, ptpRx c, m.correction + ptpAsym c) })) :=
  (opPtpSync_follows hup hf hok ht h).trans (congrArg ptpPresence (if_pos h2))

theorem opPtpSync_oneStep (ht : m.typ = 0) (h : ptpFollows c m = true) (h2 : m.twoStep = false) : opPtpSync f c =
    ptpPresence (ptpOffset (c.modPtp (fun q => { q with
      lastSync := some c.tim.age, t12 := some (m.time + (m.correction + ptpAsym c), ptpRx c), sync := none }))) :=
  (opPtpSync_follows hup hf hok ht h).trans (congrArg ptpPresence (if_neg (by simp [h2])))

theorem opPtpFollowUp_matches {t2 corr : Int} (ht : m.typ = 8) (h : ptpFollows c m = true)
    (hs : c.ptp.sync = some (m.seq, t2, corr)) : opPtpFollowUp f c = ptpOffset (c.modPtp (fun q => { q with
      t12 := some (m.time + corr + m.correction, t2), sync := none })) := by
  refine (ptpTake_good hup hf hok ht).trans ?_
  simp only [hs, h, and_self, if_true]

theorem opPtpDelayResp_matches {t3 t1 t2 : Int} (ht : m.typ = 9) (h : ptpFollows c m = true)
    (hd : c.ptp.dreq = some (m.seq, t3)) (h12 : c.ptp.t12 = some (t1, t2)) : opPtpDelayResp f c =
      let mpd := ((t2 - t3) + (m.time - m.correction - t1)) / 2
      ptpPresence ((((c.seti Reg.TIM_PTP_MPD_MPD (mpd / 4096)).modPtp (fun q => { q with
        dreq := none, lastResp := some c.tim.age })).seti Reg.TIM_PTP_OFM_OFM (t2 - t1 - mpd)).set
          Reg.TIM_PTP_STAT_PORT 9) := by
  refine (ptpTake_good hup hf hok ht).trans ?_
  simp only [hd, h12, h, and_self, if_true]
  rfl

theorem opPtpDelayReqReceive_master (ht : m.typ = 1) (h : c.get Reg.TIM_PTP_STAT_PORT = 6) :
    opPtpDelayReqReceive f c = c.emit (.out (.frame c.num (delayRespFrame c m (ptpRx c)))) :=
  (ptpTake_good hup hf hok ht).trans (if_pos h)

theorem opPtpDelayReqReceive_not (ht : m.typ = 1) (h : c.get Reg.TIM_PTP_STAT_PORT ≠ 6) : opPtpDelayReqReceive f c = c :=
  (ptpTake_good hup hf hok ht).trans (if_neg h)

variable (ht : m.typ = 11)
include ht

theorem opPtpAnnounce_ignored (h : m.source / 2 ^ 16 = clockId c ∨ 255 ≤ m.master.steps) : opPtpAnnounce f c = c :=
  (ptpTake_good hup hf hok ht).trans (if_pos h)

section Counted

variable (hown : m.source / 2 ^ 16 ≠ clockId c) (hsteps : m.master.steps < 255)
include hown hsteps

/-- The first Announce of the only master heard decides nothing. -/
theorem opPtpAnnounce_first (hnone : c.ptp.foreign = []) : opPtpAnnounce f c = c.modPtp (fun q => { q with
    foreign := [(m.master, 1, c.tim.age)], stations := [(m.source, m.mac, m.ip)] }) := by
  refine (ptpTake_good hup hf hok ht).trans ((if_neg (by omega)).trans ?_)
  simp only [hnone, List.find?_nil, List.filter_nil, List.any_nil, List.filter_false]
  rfl

/-- Another Announce within the window of the only master heard. -/
theorem opPtpAnnounce_again {d : PtpMaster} {k t : Nat} (hone : c.ptp.foreign = [(d, k, t)]) (hd : d.port = m.source)
    (hfresh : c.tim.age ≤ t + 4 * annPeriod c) : opPtpAnnounce f c = ptpDecide (c.modPtp (fun q => { q with
      foreign := [(m.master, k + 1, c.tim.age)], stations := [(m.source, m.mac, m.ip)] })) := by
  refine (ptpTake_good hup hf hok ht).trans ((if_neg (by omega)).trans ?_)
  have hfound : [(d, k, t)].find? (fun e => e.1.port == m.source) = some (d, k, t) := by simp [hd]
  have hrest : [(d, k, t)].filter (fun e => e.1.port != m.source && decide (c.tim.age ≤ e.2.2 + 4 * annPeriod c)) = [] := by
    simp [hd]
  simp only [hone, hfound, hrest, if_pos hfresh, List.any_nil, List.filter_false]

end Counted

end Messages

/-- A master heard twice, better than the port or heard by one that is a slave only, is followed. -/
theorem ptpDecide_follows {c : Chan} {d : PtpMaster} {k t : Nat} (hf : c.ptp.foreign = [(d, k, t)]) (hk : 2 ≤ k)
    (hp : c.ptp.parent = none) (h : c.flag Reg.TIM_PTP_CFG_SLAVEONLY = true ∨ ptpBetter d (ptpOwn c) = true) :
    ptpDecide c = (c.modPtp (fun p => { p with
      parent := some d, sync := none, t12 := none, dreq := none })).set Reg.TIM_PTP_STAT_PORT 8 := by
  have hbest : ptpBest [(d, k, t)] = some d := by
    simp only [ptpBest, List.foldl_cons, List.foldl_nil, if_neg (Nat.not_lt.mpr hk)]
  have hbetter : (c.flag Reg.TIM_PTP_CFG_SLAVEONLY || ptpBetter d (ptpOwn c)) = true := by simpa using h
  simp only [ptpDecide, hf, hbest, hbetter, hp, Bool.false_and, Bool.false_eq_true, if_true, if_false]
  rfl

/-! ### Other frames (R355) -/

section OtherFrames

variable {c : Chan} {f : List Byte} {mac ip target : Nat} {body : List Byte}

theorem opArpRequest_down (h : ptpUp c = false) : opArpRequest f c = c := if_pos (by simp [h])
theorem opIcmpEcho_down (h : ptpUp c = false) : opIcmpEcho f c = c := if_pos (by simp [h])
theorem opDiscardedFrame_down (h : ptpUp c = false) : opDiscardedFrame f c = c := if_pos (by simp [h])

variable (hup : ptpUp c = true)
include hup

theorem opArpRequest_own (hf : readFrame c f = .arp mac ip target) (ht : target = portIp c) :
    opArpRequest f c = c.emit (.out (.frame c.num (arpReplyFrame c mac ip))) := by
  simp only [opArpRequest, hup, hf, Bool.not_true, Bool.false_eq_true, if_false, if_pos ht]

theorem opArpRequest_other (hf : readFrame c f = .arp mac ip target) (ht : target ≠ portIp c) :
    opArpRequest f c = c.bump Reg.TIM_PTP_STAT_DROPS := by
  simp only [opArpRequest, hup, hf, Bool.not_true, Bool.false_eq_true, if_false, if_neg ht]
  rfl

theorem opIcmpEcho_answers (hf : readFrame c f = .echo mac ip body) :
    opIcmpEcho f c = c.emit (.out (.frame c.num (echoReplyFrame c mac ip body))) := by
  simp only [opIcmpEcho, hup, hf, Bool.not_true, Bool.false_eq_true, if_false]

theorem opDiscardedFrame_drops (hf : readFrame c f = .failed ∨ readFrame c f = .other ∨
    ∃ mac ip target, readFrame c f = .arp mac ip target ∧ target ≠ portIp c) :
    opDiscardedFrame f c = c.bump Reg.TIM_PTP_STAT_DROPS := by
  obtain hf | hf | ⟨mac, ip, target, hf, ht⟩ := hf
  · simp only [opDiscardedFrame, hup, hf, Bool.not_true, Bool.false_eq_true, if_false]
    rfl
  · simp only [opDiscardedFrame, hup, hf, Bool.not_true, Bool.false_eq_true, if_false]
    rfl
  · simp only [opDiscardedFrame, hup, hf, Bool.not_true, Bool.false_eq_true, if_false, if_neg ht]
    rfl

theorem opDiscardedFrame_bad {m : PtpMsg} (hf : readFrame c f = .ptp m) (hok : ptpOk c m = false) :
    opDiscardedFrame f c = ptpReject c := by
  simp only [opDiscardedFrame, hup, hf, hok, Bool.not_true, Bool.false_eq_true, if_false, false_and]
  rfl

theorem opDiscardedFrame_query (hf : readFrame c f = .query) :
    opDiscardedFrame f c = c.emit (.out (.frame c.num (reportFrame c))) := by
  simp only [opDiscardedFrame, hup, hf, Bool.not_true, Bool.false_eq_true, if_false]

end OtherFrames

/-! ### What the port sends (R355, R358) -/

section Sends

variable {c : Chan}

theorem opPtpSyncTransmit_not (h : ptpUp c = false ∨ c.get Reg.TIM_PTP_STAT_PORT ≠ 6) : opPtpSyncTransmit c = c :=
  if_neg fun ⟨hup, hport⟩ => h.elim (fun h => absurd (hup.symm.trans h) (by decide)) (· hport)

theorem opAnnounceTransmit_not (h : ptpUp c = false ∨ c.get Reg.TIM_PTP_STAT_PORT ≠ 6) : opAnnounceTransmit c = c :=
  if_neg fun ⟨hup, hport⟩ => h.elim (fun h => absurd (hup.symm.trans h) (by decide)) (· hport)

theorem opPtpDelayReqTransmit_not
    (h : ptpUp c = false ∨ c.get Reg.TIM_PTP_STAT_PORT ≠ 8 ∧ c.get Reg.TIM_PTP_STAT_PORT ≠ 9) :
    opPtpDelayReqTransmit c = c :=
  if_neg fun ⟨hup, hport⟩ => h.elim (fun h => absurd (hup.symm.trans h) (by decide)) (fun ⟨h8, h9⟩ => hport.elim h8 h9)

variable (hup : ptpUp c = true)
include hup

theorem opPtpSyncTransmit_oneStep (hport : c.get Reg.TIM_PTP_STAT_PORT = 6)
    (h1 : c.flag Reg.TIM_PTP_CFG_ONESTEP = true) : opPtpSyncTransmit c =
      let d := c.modPtp (fun q => { q with seqSync := (q.seqSync + 1) % 65536 })
      d.emit (.out (.frame c.num (syncFrame d c.ptp.seqSync false (ptpTx c)))) :=
  (if_pos ⟨hup, hport⟩).trans (if_pos h1)

theorem opPtpSyncTransmit_twoStep (hport : c.get Reg.TIM_PTP_STAT_PORT = 6)
    (h1 : c.flag Reg.TIM_PTP_CFG_ONESTEP = false) : opPtpSyncTransmit c =
      let d := c.modPtp (fun q => { q with seqSync := (q.seqSync + 1) % 65536 })
      (d.emit (.out (.frame c.num (syncFrame d c.ptp.seqSync true (ptpTx c))))).emit
        (.out (.frame c.num (followUpFrame d c.ptp.seqSync (ptpTx c)))) :=
  (if_pos ⟨hup, hport⟩).trans (if_neg (Bool.eq_false_iff.mp h1))

theorem opPtpDelayReqTransmit_sends (hport : c.get Reg.TIM_PTP_STAT_PORT = 8 ∨ c.get Reg.TIM_PTP_STAT_PORT = 9) :
    opPtpDelayReqTransmit c =
      let d := c.modPtp (fun q => { q with seqDreq := (q.seqDreq + 1) % 65536, dreq := some (q.seqDreq, ptpTx c) })
      let station := c.ptp.parent.bind (fun p => c.ptp.stations.find? (fun e => e.1 == p.port))
      let one := if c.flag Reg.TIM_PTP_CFG_UNICAST_DR then station.map (·.2) else none
      d.emit (.out (.frame c.num (delayReqFrame d one c.ptp.seqDreq (-(ptpAsym c))))) :=
  if_pos ⟨hup, hport⟩

theorem opAnnounceTransmit_sends (hport : c.get Reg.TIM_PTP_STAT_PORT = 6) : opAnnounceTransmit c =
    let d := c.modPtp (fun q => { q with seqAnn := (q.seqAnn + 1) % 65536 })
    d.emit (.out (.frame c.num (announceFrame d c.ptp.seqAnn (ptpOwn d)))) := if_pos ⟨hup, hport⟩

end Sends

/-! ### Timeouts (R342) -/

section Timeouts

variable {c : Chan}

/-- An Announce of the master, or of any while the port has none, came within the announce receipt timeout. -/
def ptpHeard (c : Chan) : Bool :=
  match c.ptp.parent with
  | some p => ptpFresh c ((c.ptp.foreign.find? (fun e => e.1.port == p.port)).map (·.2.2))
  | none => ptpFresh c (some c.ptp.listen)

/-- A Sync and a Delay_Resp were accepted within it. -/
def ptpSynced (c : Chan) : Bool := ptpFresh c c.ptp.lastSync && ptpFresh c c.ptp.lastResp

/-- The port begins to listen anew. -/
def ptpForget (c : Chan) : Chan := c.modPtp (fun q => { q with
  foreign := [], stations := [], parent := none, sync := none, t12 := none, dreq := none, listen := c.tim.age })

theorem opAnnounceTimeout_eq : opAnnounceTimeout c =
    if !c.flag Reg.TIM_PTP_CFG_EN then c
    else if !ptpHeard c then
      timAbsent (if ptpUp c ∧ c.get Reg.TIM_PTP_STAT_PORT ≠ 6 then
        (ptpForget c).set Reg.TIM_PTP_STAT_PORT (if c.flag Reg.TIM_PTP_CFG_SLAVEONLY then 4 else 6)
      else ptpForget c) 0
    else if c.flag (Reg.TIM_REFSTAT_PRESENT 0) && !ptpSynced c then timAbsent c 0
    else c := rfl

theorem opAnnounceTimeout_disabled (h : c.flag Reg.TIM_PTP_CFG_EN = false) : opAnnounceTimeout c = c := if_pos (by simp [h])

variable (hon : c.flag Reg.TIM_PTP_CFG_EN = true)
include hon

theorem opAnnounceTimeout_takesOver (hheard : ptpHeard c = false) (hup : ptpUp c = true)
    (hport : c.get Reg.TIM_PTP_STAT_PORT ≠ 6) : opAnnounceTimeout c = timAbsent ((ptpForget c).set
      Reg.TIM_PTP_STAT_PORT (if c.flag Reg.TIM_PTP_CFG_SLAVEONLY then 4 else 6)) 0 := by
  rw [opAnnounceTimeout_eq, if_neg (by simp [hon]), if_pos (by simp [hheard]), if_pos ⟨hup, hport⟩]

theorem opAnnounceTimeout_forgets (hheard : ptpHeard c = false)
    (h : ptpUp c = false ∨ c.get Reg.TIM_PTP_STAT_PORT = 6) : opAnnounceTimeout c = timAbsent (ptpForget c) 0 := by
  have hnot : ¬ (ptpUp c = true ∧ c.get Reg.TIM_PTP_STAT_PORT ≠ 6) :=
    fun ⟨hup, hport⟩ => h.elim (fun h => absurd (hup.symm.trans h) (by decide)) hport
  rw [opAnnounceTimeout_eq, if_neg (by simp [hon]), if_pos (by simp [hheard]), if_neg hnot]

variable (hheard : ptpHeard c = true)
include hheard

theorem opAnnounceTimeout_unsynced (hpresent : c.flag (Reg.TIM_REFSTAT_PRESENT 0) = true) (hsync : ptpSynced c = false) :
    opAnnounceTimeout c = timAbsent c 0 := by
  rw [opAnnounceTimeout_eq, if_neg (by simp [hon]), if_neg (by simp [hheard]), if_pos (by simp [hpresent, hsync])]

theorem opAnnounceTimeout_not (h : c.flag (Reg.TIM_REFSTAT_PRESENT 0) = false ∨ ptpSynced c = true) :
    opAnnounceTimeout c = c := by
  have hnot : ¬ (c.flag (Reg.TIM_REFSTAT_PRESENT 0) && !ptpSynced c) = true := by
    obtain h | h := h <;> simp [h]
  rw [opAnnounceTimeout_eq, if_neg (by simp [hon]), if_neg (by simp [hheard]), if_neg hnot]

end Timeouts

theorem ptpUp_enabled {c : Chan} (h : ptpUp c = true) : c.flag Reg.TIM_PTP_CFG_EN = true :=
  (Bool.and_eq_true_iff.mp h).1

/-- Settles O45: a frame is judged whole before it is read, a message by its type, and what is sent by the state of the
port. -/
theorem ptpMessages : Obligations.PtpMessages := by
  refine ⟨fun n h i b s hl => ?_, fun n s hl => ?_, fun n s hl => ?_⟩
  · intro f
    have hsync {g : Chan → Chan} (e : opPtpSync f (s.chan n) = g (s.chan n)) : CompletesIn (.ptpSync n f) n s g :=
      unitOp_completes (f := opPtpSync f) rfl hl e
    have hfollow {g : Chan → Chan} (e : opPtpFollowUp f (s.chan n) = g (s.chan n)) :
        CompletesIn (.ptpFollowUp n f) n s g := unitOp_completes (f := opPtpFollowUp f) rfl hl e
    have hresp {g : Chan → Chan} (e : opPtpDelayResp f (s.chan n) = g (s.chan n)) :
        CompletesIn (.ptpDelayResp n f) n s g := unitOp_completes (f := opPtpDelayResp f) rfl hl e
    have hreq {g : Chan → Chan} (e : opPtpDelayReqReceive f (s.chan n) = g (s.chan n)) :
        CompletesIn (.ptpDelayReqReceive n f) n s g := unitOp_completes (f := opPtpDelayReqReceive f) rfl hl e
    have hann {g : Chan → Chan} (e : opPtpAnnounce f (s.chan n) = g (s.chan n)) :
        CompletesIn (.ptpAnnounce n h (i ++ b)) n s g := unitOp_completes (f := opPtpAnnounce f) rfl hl e
    have harp {g : Chan → Chan} (e : opArpRequest f (s.chan n) = g (s.chan n)) :
        CompletesIn (.arpRequest n h (i ++ b)) n s g := unitOp_completes (f := opArpRequest f) rfl hl e
    have hecho {g : Chan → Chan} (e : opIcmpEcho f (s.chan n) = g (s.chan n)) :
        CompletesIn (.icmpEcho n h i b) n s g := unitOp_completes (f := opIcmpEcho f) rfl hl e
    have hother {g : Chan → Chan} (e : opDiscardedFrame f (s.chan n) = g (s.chan n)) :
        CompletesIn (.discardedFrame ⟨n, f⟩) n s g := unitOp_completes (f := opDiscardedFrame f) rfl hl e
    refine ⟨fun hdown => ⟨hsync (ptpTake_down hdown), hfollow (ptpTake_down hdown), hresp (ptpTake_down hdown),
        hreq (ptpTake_down hdown), hann (ptpTake_down hdown), harp (opArpRequest_down hdown), hecho (opIcmpEcho_down hdown),
        hother (opDiscardedFrame_down hdown)⟩,
      fun hup hf => ⟨hsync (ptpTake_failed hup hf), hfollow (ptpTake_failed hup hf), hresp (ptpTake_failed hup hf),
        hreq (ptpTake_failed hup hf), hann (ptpTake_failed hup hf), hother (opDiscardedFrame_drops hup (.inl hf))⟩,
      fun m hup hf hok => ⟨hsync (ptpTake_bad hup hf hok), hfollow (ptpTake_bad hup hf hok),
        hresp (ptpTake_bad hup hf hok), hreq (ptpTake_bad hup hf hok), hann (ptpTake_bad hup hf hok),
        hother (opDiscardedFrame_bad hup hf hok)⟩,
      fun m hup hf hok => ⟨fun ht hfol => ⟨fun h2 => hsync (opPtpSync_twoStep hup hf hok ht hfol h2),
          fun h2 => hsync (opPtpSync_oneStep hup hf hok ht hfol h2)⟩,
        fun ht hfol => hsync (opPtpSync_other hup hf hok ht hfol),
        fun t2 corr ht hfol hs => hfollow (opPtpFollowUp_matches hup hf hok ht hfol hs),
        fun t3 t1 t2 ht hfol hd h12 => hresp (opPtpDelayResp_matches hup hf hok ht hfol hd h12),
        fun ht hport => hreq (opPtpDelayReqReceive_master hup hf hok ht hport),
        fun ht hport => hreq (opPtpDelayReqReceive_not hup hf hok ht hport),
        fun ht hskip => hann (opPtpAnnounce_ignored hup hf hok ht hskip),
        fun ht hown hsteps => ⟨fun hnone => hann (opPtpAnnounce_first hup hf hok ht hown hsteps hnone),
          fun d k t hone hd hk hfresh hp hbetter => hann ?_⟩⟩,
      fun mac ip target hup hf => ⟨fun ht => harp (opArpRequest_own hup hf ht),
        fun ht => ⟨harp (opArpRequest_other hup hf ht),
          hother (opDiscardedFrame_drops hup (.inr (.inr ⟨mac, ip, target, hf, ht⟩)))⟩⟩,
      fun mac ip body hup hf => hecho (opIcmpEcho_answers hup hf),
      fun hup hf => hother (opDiscardedFrame_query hup hf),
      fun hup hf => hother (opDiscardedFrame_drops hup (.inr (.inl hf)))⟩
    exact (opPtpAnnounce_again hup hf hok ht hown hsteps hone hd hfresh).trans
      (ptpDecide_follows rfl (by omega) hp hbetter)
  · refine ⟨fun hup hport h1 => ?_, fun hup hport h1 => ?_, fun hup hport => ?_, fun hup hport => ?_, fun h => ⟨?_, ?_⟩,
      fun h => ?_⟩
    · exact unitOp_completes (f := opPtpSyncTransmit) rfl hl (opPtpSyncTransmit_oneStep hup hport h1)
    · exact unitOp_completes (f := opPtpSyncTransmit) rfl hl (opPtpSyncTransmit_twoStep hup hport h1)
    · exact unitOp_completes (f := opPtpDelayReqTransmit) rfl hl (opPtpDelayReqTransmit_sends hup hport)
    · exact unitOp_completes (f := opAnnounceTransmit) rfl hl (opAnnounceTransmit_sends hup hport)
    · exact unitOp_completes (f := opPtpSyncTransmit) rfl hl (opPtpSyncTransmit_not h)
    · exact unitOp_completes (f := opAnnounceTransmit) rfl hl (opAnnounceTransmit_not h)
    · exact unitOp_completes (f := opPtpDelayReqTransmit) rfl hl (opPtpDelayReqTransmit_not h)
  · refine ⟨fun hoff => ?_, fun hup hheard hport => ?_, fun hon hheard h => ?_, fun hon hheard hpresent hsync => ?_,
      fun hon hheard h => ?_⟩
    · exact unitOp_completes (f := opAnnounceTimeout) rfl hl (opAnnounceTimeout_disabled hoff)
    · exact unitOp_completes (f := opAnnounceTimeout) rfl hl
        (opAnnounceTimeout_takesOver (ptpUp_enabled hup) hheard hup hport)
    · exact unitOp_completes (f := opAnnounceTimeout) rfl hl (opAnnounceTimeout_forgets hon hheard h)
    · exact unitOp_completes (f := opAnnounceTimeout) rfl hl (opAnnounceTimeout_unsynced hon hheard hpresent hsync)
    · exact unitOp_completes (f := opAnnounceTimeout) rfl hl (opAnnounceTimeout_not hon hheard h)

end Sys2Proof.Machine

/-! What the engines do with a descriptor in progress: completions, the ends of reads, moderation (05_host_port.md, R113 to R122). -/

namespace Sys2Proof.Machine

section Engine

variable {s : State} {i l : Nat} {d : Descr} {got : List Byte} {bad : Bool}

/-! ### Ends of transfers -/

theorem State.completeNext_ready {st len : Nat} {bytes : List Byte} (h : (s.ring i).stage = .ready d st len bytes)
    (hring : s.ringOn i = true) (hlink : s.dlUp = true) (he : s.engineWaits (ringEngine i) = false) :
    s.completeNext i = s.ringComplete i d st len bytes := by
  simp [State.completeNext, h, hring, hlink, he]

theorem State.completeNext_idle (h : (s.ring i).stage = .idle) : s.completeNext i = s := by
  simp [State.completeNext, h]

/-! ### Completions of a ring's reads -/

section Reply

variable (hi : i ≠ imgRing)
include hi

theorem State.readReply_fetch_data (h : (s.ring i).stage = .fetch) (bs : List Byte) :
    s.readReply i (.data bs) = (s.modRing i (fun r => { r with stage := .hold (parseDescr bs) })).serve i := by
  simp only [State.readReply, hi, if_false, h]

theorem State.readReply_fetch_error (h : (s.ring i).stage = .fetch) :
    s.readReply i (.error bad) = (if bad then s.aer (s.ringFn i) 1 else s).fetchFailed i := by
  cases bad
  · simp only [State.readReply, hi, if_false, h]
    rfl
  · have hs : ((s.aer (s.ringFn i) 1).ring i).stage = .fetch := h
    simp only [State.readReply, hi, if_false, hs, if_true]

theorem State.readReply_read_data (h : (s.ring i).stage = .read d l got) (bs : List Byte) :
    s.readReply i (.data bs) = s.readData i d l got bs := by
  simp only [State.readReply, hi, if_false, h]

theorem State.readReply_read_error (h : (s.ring i).stage = .read d l got) : s.readReply i (.error bad) =
    (if bad then s.aer (s.ringFn i) 1 else s).ringReadyWith i d 4 (s.moved i l) [] := by
  cases bad
  · simp only [State.readReply, hi, if_false, h]
    rfl
  · have hs : ((s.aer (s.ringFn i) 1).ring i).stage = .read d l got := h
    simp only [State.readReply, hi, if_false, hs, if_true]
    rfl

/-- Late data (R101): no read is outstanding. -/
theorem State.readReply_idle_data (h : (s.ring i).stage = .idle) (bs : List Byte) :
    s.readReply i (.data bs) = s.aer (s.ringFn i) 2 := by
  simp only [State.readReply, hi, if_false, h]

theorem State.readTimeout_early (h : s.centre.xcount < (s.ring i).limit) : s.readTimeout i = s := by
  simp only [State.readTimeout, hi, if_false, h, if_true]

theorem State.readTimeout_idle (h : (s.ring i).stage = .idle) : s.readTimeout i = s := by
  simp only [State.readTimeout, hi, if_false, h, ite_self]

variable (ht : (s.ring i).limit ≤ s.centre.xcount)
include ht

theorem State.readTimeout_fetch (h : (s.ring i).stage = .fetch) :
    s.readTimeout i = (s.fetchFailed i).aer (s.ringFn i) 0 := by
  simp only [State.readTimeout, hi, if_false, Nat.not_lt.mpr ht, h]

theorem State.readTimeout_read (h : (s.ring i).stage = .read d l got) :
    s.readTimeout i = (s.ringReadyWith i d 5 (s.moved i l) []).aer (s.ringFn i) 0 := by
  simp only [State.readTimeout, hi, if_false, Nat.not_lt.mpr ht, h]

end Reply

/-- The last data of a decoder's input (ring 4 of a unit) go to the decoder whole. -/
theorem State.readData_decoder (hi : i % 32 = 4) {bs : List Byte} (h : d.length ≤ (got ++ fit (s.askedOf i d got) bs).length) :
    s.readData i d l got bs =
      let p := (d.param.headD 0#8).toNat
      (s.modRun (i / 32) (decRing (got ++ fit (s.askedOf i d got) bs) (bitAt p 0) (bitAt p 1) (s.ring i).rseq)).ringReadyWith
        i d 0 d.length [] := by
  have hline : ¬ i % 32 ≤ 3 := by omega
  simp only [State.readData, hline, if_false, Nat.not_lt.mpr h]

end Engine

/-! ### Engine 41 -/

section Image

variable {s : State} {l : ImgLoad} (h : s.ump.loading = some l) (hl : l.asked ≠ 0)
include h hl

theorem State.imgReply_data (bs : List Byte) : s.imgReply (.data bs) =
    (s.modUmp (fun u => { u with loading := some { l with got := l.got ++ fit l.asked bs, asked := 0 } })).hset
      (Reg.DMA_BYTES 41) (s.hget (Reg.DMA_BYTES 41) + l.asked) := by
  simp only [State.imgReply, h, hl, if_false]

theorem State.imgReply_error : s.imgReply (.error false) =
    s.modUmp (fun u => { u with loading := some { l with asked := 0, failed := true } }) := by
  simp only [State.imgReply, h, hl, if_false]
  rfl

theorem State.readTimeout_image (ht : l.limit ≤ s.centre.xcount) : s.readTimeout imgRing =
    (s.modUmp (fun u => { u with loading := some { l with asked := 0, failed := true } })).aer 0 0 := by
  simp only [State.readTimeout, if_true, h, hl, Nat.not_lt.mpr ht, or_self, if_false, State.imgReply_error h hl]

end Image

/-! ### Moderation -/

theorem opModerationTimeout_gathered {s : State} {i : Nat} (h : 0 < (s.ring i).gathered) :
    opModerationTimeout i s = (s.modRing i (fun r => { r with gathered := 0 })).signalRing i := if_pos h

theorem opModerationTimeout_none {s : State} {i : Nat} (h : (s.ring i).gathered = 0) : opModerationTimeout i s = s :=
  if_neg (by omega)

/-! ### The commands -/

section Commands

variable {s : State} (hon : s.ump.on = true) {i : Nat}
include hon

theorem descriptorComplete_ready_completes {d : Descr} {st len : Nat} {bytes : List Byte}
    (h : (s.ring i).stage = .ready d st len bytes) (hring : s.ringOn i = true) (hlink : s.dlUp = true)
    (he : s.engineWaits (ringEngine i) = false) :
    Completes (.descriptorComplete i) s (fun s => s.ringComplete i d st len bytes) :=
  run_completes (f := State.completeNext i) rfl hon (State.completeNext_ready (s := s.quiet) h hring hlink he)

/-- A ring with no read outstanding (R101). -/
theorem ring_idle_completes (hi : i ≠ imgRing) (h : (s.ring i).stage = .idle) :
    Completes (.descriptorComplete i) s id ∧ Completes (.dmaReadTimeout i) s id ∧
      ∀ bs, Completes (.pcieCompletion i (.data bs)) s (fun s => s.aer (s.ringFn i) 2) :=
  ⟨run_completes (f := State.completeNext i) rfl hon (State.completeNext_idle (s := s.quiet) h),
    run_completes (f := State.readTimeout i) rfl hon (State.readTimeout_idle (s := s.quiet) hi h),
    fun bs => run_completes (f := State.readReply i (.data bs)) rfl hon (State.readReply_idle_data (s := s.quiet) hi h bs)⟩

/-- The read of a descriptor's data fails, or goes unanswered (R120). -/
theorem ring_read_completes {d : Descr} {l : Nat} {got : List Byte} (hi : i ≠ imgRing) (h : (s.ring i).stage = .read d l got) :
    (∀ bad, Completes (.pcieCompletion i (.error bad)) s (fun s =>
      (if bad then s.aer (s.ringFn i) 1 else s).modRing i (fun r => { r with stage := .ready d 4 (s.moved i l) [] }))) ∧
    ((s.ring i).limit ≤ s.centre.xcount → Completes (.dmaReadTimeout i) s (fun s =>
      (s.modRing i (fun r => { r with stage := .ready d 5 (s.moved i l) [] })).aer (s.ringFn i) 0)) ∧
    (s.centre.xcount < (s.ring i).limit → Completes (.dmaReadTimeout i) s id) :=
  ⟨fun bad => run_completes (f := State.readReply i (.error bad)) rfl hon (State.readReply_read_error (s := s.quiet) hi h),
    fun ht => run_completes (f := State.readTimeout i) rfl hon (State.readTimeout_read (s := s.quiet) hi ht h),
    fun ht => run_completes (f := State.readTimeout i) rfl hon (State.readTimeout_early (s := s.quiet) hi ht)⟩

/-- The reads of an image load (R68). -/
theorem image_read_completes {l : ImgLoad} (h : s.ump.loading = some l) (hl : l.asked ≠ 0) :
    (∀ bs, Completes (.pcieCompletion imgRing (.data bs)) s (fun s =>
      (s.modUmp (fun u => { u with loading := some { l with got := l.got ++ fit l.asked bs, asked := 0 } })).hset
        (Reg.DMA_BYTES 41) (s.hget (Reg.DMA_BYTES 41) + l.asked))) ∧
    Completes (.pcieCompletion imgRing (.error false)) s (State.modUmp (fun u => { u with
      loading := some { l with asked := 0, failed := true } })) ∧
    (l.limit ≤ s.centre.xcount → Completes (.dmaReadTimeout imgRing) s (fun s =>
      (s.modUmp (fun u => { u with loading := some { l with asked := 0, failed := true } })).aer 0 0)) :=
  ⟨fun bs => run_completes (f := State.readReply imgRing (.data bs)) rfl hon (State.imgReply_data (s := s.quiet) h hl bs),
    run_completes (f := State.readReply imgRing (.error false)) rfl hon (State.imgReply_error (s := s.quiet) h hl),
    fun ht => run_completes (f := State.readTimeout imgRing) rfl hon (State.readTimeout_image (s := s.quiet) h hl ht)⟩

end Commands

end Sys2Proof.Machine

/-! The ring tables of HST: what their words and doorbells read as after each operation of a ring (05_host_port.md, R113, R116). -/

namespace Sys2Proof.Machine

/-! ### Words of the hub's bank -/

section Words

variable {s : State} {b : Block} {k j : Nat}

/-- The words of a table lie above every register. -/
theorem two_pow_le_entryKey (k e j : Nat) : 2 ^ 32 ≤ entryKey k e j := by
  simp only [entryKey, Nat.reducePow]
  omega

theorem entryKey_inj {k e j j' : Nat} : entryKey k e j = entryKey k e j' ↔ j = j' := by
  simp only [entryKey]
  omega

/-- A field is held by its word, and the next one if it is wider than a word. -/
theorem storeGet_rfSet_ne {rst : Nat → Word} {l : RegFile} {f : Fld} (v : Nat) (h : j ≠ f.key) (h4 : j ≠ f.key + 4) :
    storeGet rst (rfSet rst l f v) j = storeGet rst l j := by
  unfold rfSet
  split
  · exact storeGet_set_ne _ h _
  · exact (storeGet_set_ne _ h4 _).trans (storeGet_set_ne _ h _)

theorem State.copyAt_hub (s : State) (b : Block) (k : Nat) (active : Bool) :
    s.copyAt .hub b k active = storeGet hubReset (s.bankOf b).regs k := by
  simp [State.copyAt, Site.mask, State.bankAt, Site.rst]

theorem State.putAt_hub (s : State) (b : Block) (k v : Nat) : s.putAt .hub b k v = s.putWord b k (BitVec.ofNat 32 v) := by
  simp only [State.putAt, Site.mask, if_true, mergeBits_zero, State.modBankAt, Site.rst, State.putWord]

theorem State.linkUp_putWord (h : k ≠ 0x100) (w : Word) : (s.putWord .hst k w).linkUp = s.linkUp := by
  have hltssm : (s.putWord .hst k w).hget Reg.HST_LINK_STAT_LTSSM = s.hget Reg.HST_LINK_STAT_LTSSM := by
    simp only [State.hget, rfGet, Reg.HST_LINK_STAT_LTSSM, Nat.reduceAdd, Nat.reduceLeDiff, if_true]
    exact congrArg (fun w : Word => bitsOf w.toNat 0 4) (storeGet_set_ne w (Ne.symm h) _)
  exact congrArg (fun n => s.hub.ready && s.hub.perst && s.hub.link && n == 3) hltssm

theorem State.arrives_putWord (h : k ≠ 0x100) (w : Word) (p : Path) : (s.putWord .hst k w).arrives p = s.arrives p := by
  cases p
  · exact congrArg (· && _) (State.linkUp_putWord h w)
  · exact congrArg (· && _ && _) (State.linkUp_putWord h w)
  · rfl

end Words

/-! ### Words and doorbell of a ring -/

section Ring

variable {s : State} {i : Nat}

theorem ringKey_lt (i : Nat) : 0x2000 < ringKey i ∧ ringKey i < 0x10000 := by
  unfold ringKey
  split <;> omega

theorem ringDb_key (i : Nat) : 0x2000 < (ringDb i).key ∧ (ringDb i).key < 0x10000 ∧ (ringDb i).key ≠ ringKey i := by
  unfold ringDb ringKey
  split
  · simp only [Reg.HST_DB_PI]
    omega
  · simp only [Reg.HST_HDB_PI]
    omega

theorem ringDb_lo (i : Nat) : (ringDb i).lo = 0 := by
  unfold ringDb
  split <;> rfl

theorem ringDb_w (i : Nat) : (ringDb i).w = 32 := by
  unfold ringDb
  split <;> rfl

/-- The bank's words are in canonical form. -/
def State.bankWf (s : State) : Bool := storeWf hubReset s.hub.bank.regs

theorem State.bankWf_setRingWord (h : s.bankWf = true) (j v : Nat) : (s.setRingWord i j v).bankWf = true :=
  storeWf_set h _ _

theorem State.ringWord_setRingWord (h : s.bankWf = true) (j v j' : Nat) :
    (s.setRingWord i j v).ringWord i j' = if j' = j then v % 2 ^ 32 else s.ringWord i j' := by
  have hget := storeGet_set (d := hubReset) h (entryKey (ringKey i) (ringEntry i) j) (entryKey (ringKey i) (ringEntry i) j')
    (BitVec.ofNat 32 v)
  refine (congrArg BitVec.toNat hget).trans ?_
  simp only [entryKey_inj]
  split
  · exact BitVec.toNat_ofNat ..
  · rfl

theorem State.ringWord_setRingWord_ne {j j' : Nat} (h : j' ≠ j) (v : Nat) :
    (s.setRingWord i j v).ringWord i j' = s.ringWord i j' :=
  congrArg BitVec.toNat (storeGet_set_ne _ (mt entryKey_inj.mp h) _)

theorem State.ringWord_hset {f : Fld} (hf : f.key < 0x100000) (v j : Nat) : (s.hset f v).ringWord i j = s.ringWord i j := by
  have hbig := two_pow_le_entryKey (ringKey i) (ringEntry i) j
  exact congrArg BitVec.toNat (storeGet_rfSet_ne v (by omega) (by omega))

theorem State.ringPi_hset (h : s.bankWf = true) (v : Nat) : (s.hset (ringDb i) v).ringPi i = v % 2 ^ 32 := by
  have hget := rfGet_rfSet_same (rst := hubReset) (f := ringDb i) h (by simp [ringDb_lo, ringDb_w]) v
  rw [ringDb_w] at hget
  exact hget

theorem State.ring_modRing (s : State) (i : Nat) (f : Ring → Ring) :
    (s.modRing i f).ring i = if i < s.hub.rings.length then f (s.ring i) else {} := by
  change (s.hub.rings.modify i f).getD i {} = if i < s.hub.rings.length then f (s.hub.rings.getD i {}) else {}
  by_cases hi : i < s.hub.rings.length
  · simp [hi, List.getD_eq_getElem?_getD]
  · simp [hi, List.getD_eq_getElem?_getD]

@[simp] theorem State.ringWord_modRing (k : Nat) (f : Ring → Ring) (j : Nat) :
    (s.modRing k f).ringWord i j = s.ringWord i j := rfl

theorem State.ringPi_modRing (k : Nat) (f : Ring → Ring) : (s.modRing k f).ringPi i = s.ringPi i := rfl

theorem State.hub_modHub (f : Hub → Hub) : (s.modHub f).hub = f s.hub := rfl

theorem State.rings_setRingWord (j v : Nat) : (s.setRingWord i j v).hub.rings = s.hub.rings := by
  unfold State.setRingWord State.setEntry
  rw [State.hub_modHub]

theorem State.rings_hset (f : Fld) (v : Nat) : (s.hset f v).hub.rings = s.hub.rings := by
  unfold State.hset
  rw [State.hub_modHub]

/-- A ring that starts (R113). -/
theorem State.ringStart_spec (h : s.bankWf = true) (hi : i < s.hub.rings.length) :
    (s.ringStart i).ringOn i = s.ringOn i ∧ (s.ringStart i).ringCi i = 0 ∧ (s.ringStart i).ringPi i = 0 ∧
      (s.ringStart i).ring i = {} := by
  have hdb := ringDb_key i
  have hstart : s.ringStart i = (((s.setRingWord i 0 0).setRingWord i 1 0).hset (ringDb i) 0).modRing i (fun _ => {}) := rfl
  have hci : (s.setRingWord i 0 0).ringWord i 0 = 0 := (State.ringWord_setRingWord h 0 0 0).trans (if_pos rfl)
  have hword (j : Nat) (hj : j ≠ 1) : (s.ringStart i).ringWord i j = (s.setRingWord i 0 0).ringWord i j := by
    rw [hstart, State.ringWord_modRing, State.ringWord_hset (f := ringDb i) (by omega), State.ringWord_setRingWord_ne hj]
  have hpi : (s.ringStart i).ringPi i = 0 := by
    rw [hstart, State.ringPi_modRing, State.ringPi_hset (State.bankWf_setRingWord (State.bankWf_setRingWord h 0 0) 1 0),
      Nat.zero_mod]
  have hring : (s.ringStart i).ring i = {} := by
    rw [hstart, State.ring_modRing, State.rings_hset, State.rings_setRingWord, State.rings_setRingWord, if_pos hi]
  exact ⟨congrArg (bitAt · 17) ((hword 5 (by decide)).trans (State.ringWord_setRingWord_ne (by decide) 0)),
    (hword 0 (by decide)).trans hci, hpi, hring⟩

/-! ### What a descriptor's end leaves alone -/

@[simp] theorem State.ringOn_put (o : Output) : (s.put o).ringOn i = s.ringOn i := rfl
@[simp] theorem State.ringOn_modRing (k : Nat) (f : Ring → Ring) : (s.modRing k f).ringOn i = s.ringOn i := rfl

@[simp] theorem State.hub_modRun (n : Nat) (f : Chan → Chan) : (s.modRun n f).hub = s.hub := by
  unfold State.modRun
  split <;> rfl

@[simp] theorem State.ringOn_modRun (n : Nat) (f : Chan → Chan) : (s.modRun n f).ringOn i = s.ringOn i := by
  simp only [State.ringOn, State.ringWord, State.entry, State.hub_modRun]

theorem State.ringOn_setRingWord_ne {j : Nat} (h : 5 ≠ j) (v : Nat) : (s.setRingWord i j v).ringOn i = s.ringOn i :=
  congrArg (bitAt · 17) (State.ringWord_setRingWord_ne h v)

theorem State.ringOn_hset {f : Fld} (hf : f.key < 0x100000) (v : Nat) : (s.hset f v).ringOn i = s.ringOn i :=
  congrArg (bitAt · 17) (State.ringWord_hset hf v 5)

@[simp] theorem State.ringOn_signalVec (f v : Nat) : (s.signalVec f v).ringOn i = s.ringOn i := by
  unfold State.signalVec
  dsimp only
  split
  · rfl
  · split
    · split <;> rfl
    · rfl

@[simp] theorem State.ringOn_signal (n : Option Nat) (v : Nat) : (s.signal n v).ringOn i = s.ringOn i := by
  cases n <;> simp [State.signal, apply_ite (State.ringOn · i)]

@[simp] theorem State.ringOn_signalRing (k : Nat) : (s.signalRing k).ringOn i = s.ringOn i := by
  unfold State.signalRing
  split <;> simp

@[simp] theorem State.ringOn_moderate (k : Nat) : (s.moderate k).ringOn i = s.ringOn i := by
  simp [State.moderate, apply_ite (State.ringOn · i)]

@[simp] theorem State.ringOn_dmaData (k addr : Nat) (bytes : List Byte) : (s.dmaData k addr bytes).ringOn i = s.ringOn i := by
  unfold State.dmaData
  exact foldl_frame (π := (State.ringOn · i)) (fun s _ => State.ringOn_put (s := s) _) _ s

theorem ringEngine_lt (i : Nat) : ringEngine i < 41 := by
  unfold ringEngine
  dsimp only
  repeat' split
  all_goals omega

@[simp] theorem State.ringOn_ringComplete (d : Descr) (status len : Nat) (bytes : List Byte) :
    (s.ringComplete i d status len bytes).ringOn i = s.ringOn i := by
  have hbytes : (Reg.DMA_BYTES (ringEngine i)).key < 0x100000 := by
    have := ringEngine_lt i
    simp only [Reg.DMA_BYTES]
    omega
  unfold State.ringComplete
  extract_lets head ci sent moved phase completed ended
  have hsent : sent.ringOn i = s.ringOn i := by simp [sent, apply_ite (State.ringOn · i)]
  have hended : ended.ringOn i = s.ringOn i := by
    rw [State.ringOn_modRing, State.ringOn_setRingWord_ne (by decide), State.ringOn_put, State.ringOn_hset hbytes, hsent]
  split
  · rw [State.ringOn_moderate, hended]
  · exact hended

@[simp] theorem State.ringOn_ringDrop (bytes : List Byte) : (s.ringDrop i bytes).ringOn i = s.ringOn i := by
  unfold State.ringDrop
  dsimp only
  repeat' split
  all_goals simp [State.ringOn_setRingWord_ne (show 5 ≠ 1 by decide)]

@[simp] theorem State.rings_ringDrop (bytes : List Byte) : (s.ringDrop i bytes).hub.rings = s.hub.rings := by
  unfold State.ringDrop
  dsimp only
  repeat' split
  all_goals simp only [State.hub_modRun, State.rings_setRingWord]

@[simp] theorem State.ringOn_dropWaiting : (s.dropWaiting i).ringOn i = s.ringOn i :=
  foldl_frame (π := (State.ringOn · i)) (fun _ _ => State.ringOn_ringDrop _) _ _

/-- No record stays bound. -/
theorem State.waiting_dropWaiting (s : State) (i : Nat) : ((s.dropWaiting i).ring i).waiting = [] := by
  have hrings : (s.dropWaiting i).hub.rings = (s.modRing i (fun r => { r with waiting := [] })).hub.rings :=
    foldl_frame (π := fun s : State => s.hub.rings) (fun _ _ => State.rings_ringDrop _) _ _
  have hring : (s.dropWaiting i).ring i = (s.modRing i (fun r => { r with waiting := [] })).ring i :=
    congrArg (·.getD i {}) hrings
  rw [hring, State.ring_modRing]
  split <;> rfl

@[simp] theorem State.ringOn_ringStop (status : Nat) : (s.ringStop i status).ringOn i = s.ringOn i := by
  unfold State.ringStop
  dsimp only
  repeat' split
  all_goals simp

/-- A ring that is stopped (R116). -/
theorem State.ringHalt_spec (s : State) (i : Nat) : (s.ringHalt i).ringOn i = s.ringOn i ∧
    ((s.ringHalt i).ring i).stage = .idle ∧ ((s.ringHalt i).ring i).waiting = [] := by
  have hwaiting : ((s.ringStop i 7).ring i).waiting = [] := State.waiting_dropWaiting _ i
  refine ⟨State.ringOn_ringStop 7, ?_⟩
  rw [State.ringHalt, State.ring_modRing]
  split
  · exact ⟨rfl, hwaiting⟩
  · exact ⟨rfl, rfl⟩

/-- With ENABLE at 0 after the store, a ring that was enabled halts, and is left idle. -/
theorem State.ringStored_halt (h : s.ringOn i = false) : s.ringStored i true = s.ringHalt i := by
  simp [State.ringStored, h]

theorem State.ringStored_start (h : s.ringOn i = true) : s.ringStored i false = s.ringStart i := by
  simp [State.ringStored, h]

end Ring

end Sys2Proof.Machine

/-! The store of a ring's entry with another ENABLE, by its index and its last data register (R88, R113, R116). -/

namespace Sys2Proof.Machine

/-! ### The tables HST_RING and HST_HRING -/

/-- The fields of an entry, by their words. -/
def ringFields : List (Nat × FieldDef) :=
  [(0, { name := "CI", hi := 31, lo := 0, acc := .ro, reset := 0 }),
    (1, { name := "DROPS", hi := 31, lo := 0, acc := .ro, reset := 0 }),
    (2, { name := "BASE_LO", hi := 31, lo := 6, acc := .rw, reset := 0 }),
    (3, { name := "BASE_HI", hi := 31, lo := 0, acc := .rw, reset := 0 }),
    (4, { name := "LOG2SIZE", hi := 4, lo := 0, acc := .rw, reset := 4, chk := .range 4 16 }),
    (4, { name := "IMOD_TIME", hi := 31, lo := 16, acc := .rw, reset := 8, zero := true }),
    (5, { name := "IMOD_COUNT", hi := 15, lo := 0, acc := .rw, reset := 1, zero := true }),
    (5, { name := "IMOD_EN", hi := 16, lo := 16, acc := .rw, reset := 0 }),
    (5, { name := "ENABLE", hi := 17, lo := 17, acc := .rw, reset := 0 })]

/-- The fields of word `j` of an entry. -/
def ringFieldsOf (j : Nat) : List FieldDef := (ringFields.filter (fun f => f.1 == j)).map (·.2)

/-- HST_RING of the units' pages, and HST_HRING. -/
def ringTable : Option (Fin 5) → TableDef
  | some _ => { name := "HST_RING", page := 2, pages := 5, idxOff := 272, dataOff := 288, words := 6, entries := 32,
                staged := false, cross := .ring, fields := ringFields }
  | none => { name := "HST_HRING", page := 7, pages := 1, idxOff := 272, dataOff := 288, words := 6, entries := 1,
              staged := false, cross := .ring, fields := ringFields }

@[simp] theorem ringTable_words (u : Option (Fin 5)) : (ringTable u).words = 6 := by cases u <;> rfl
@[simp] theorem ringTable_staged (u : Option (Fin 5)) : (ringTable u).staged = false := by cases u <;> rfl
@[simp] theorem ringTable_cross (u : Option (Fin 5)) : (ringTable u).cross = .ring := by cases u <;> rfl
@[simp] theorem ringTable_fields (u : Option (Fin 5)) : (ringTable u).fields = ringFields := by cases u <;> rfl

theorem hubHit_ringIdx (u : Option (Fin 5)) : hubHit (ringPage u + 0x110) = .idx .hst (doorbellPage u) (ringTable u) := by
  cases u with
  | some n =>
    revert n
    decide +kernel
  | none => decide +kernel

theorem hubHit_ringData (u : Option (Fin 5)) :
    hubHit (ringPage u + 0x134) = .data .hst (doorbellPage u) 5 (ringTable u) := by
  cases u with
  | some n =>
    revert n
    decide +kernel
  | none => decide +kernel

theorem idxKey_ringTable (u : Option (Fin 5)) : idxKey .hst (doorbellPage u) (ringTable u) = ringPage u + 0x110 := by
  cases u with
  | some n =>
    revert n
    decide +kernel
  | none => decide +kernel

section RingIx

variable {u : Option (Fin 5)} {r : Nat} (h : ringOk u r = true)
include h

theorem ringOk_lt : r < 32 ∧ r < (ringTable u).entries := by
  cases u with
  | some n =>
    have hr : r < 32 := by simpa [ringOk] using h
    exact ⟨hr, hr⟩
  | none =>
    obtain rfl : r = 0 := by simpa [ringOk] using h
    decide

theorem ringKey_ringIx : ringKey (ringIx u r) = ringPage u + 0x110 := by
  cases u with
  | some n =>
    have hr : r < 32 := (ringOk_lt h).1
    have := n.isLt
    simp only [ringKey, ringIx, ringPage, show 32 * n.val + r < 160 by omega, if_true]
    omega
  | none => rfl

theorem ringEntry_ringIx : ringEntry (ringIx u r) = r := by
  obtain ⟨hr, hone⟩ := ringOk_lt h
  cases u with
  | some n =>
    have := n.isLt
    simp only [ringEntry, ringIx, show 32 * n.val + r < 160 by omega, if_true]
    omega
  | none =>
    exact (Nat.lt_one_iff.mp hone).symm

end RingIx

/-! ### The words of an entry -/

theorem bitAt_setBitsOf (x n v : Nat) : bitAt (setBitsOf x n 1 v) n = (v % 2 == 1) := by
  rw [bitAt, bitsOf_setBitsOf_same, pow_one]

/-- ENABLE is stored as it is written, whatever stood there. -/
theorem bitAt_storeFields_enable {old : Nat} (hold : old < 2 ^ 32) (v : Nat) :
    bitAt (storeFields (ringFieldsOf 5) (fun _ => true) old v % 2 ^ 32) 17 = bitAt v 17 := by
  have hstore : storeFields (ringFieldsOf 5) (fun _ => true) old v =
      setBitsOf (setBitsOf (setBitsOf old 0 16 (bitsOf v 0 16)) 16 1 (bitsOf v 16 1)) 17 1 (bitsOf v 17 1) := rfl
  have hlt : setBitsOf (setBitsOf (setBitsOf old 0 16 (bitsOf v 0 16)) 16 1 (bitsOf v 16 1)) 17 1 (bitsOf v 17 1) < 2 ^ 32 :=
    setBitsOf_lt (setBitsOf_lt (setBitsOf_lt hold (by omega)) (by omega)) (by omega)
  rw [hstore, Nat.mod_eq_of_lt hlt, bitAt_setBitsOf]
  have hbit : bitsOf v 17 1 < 2 := Nat.mod_lt _ (by decide)
  simp only [bitAt]
  rw [Nat.mod_eq_of_lt hbit]

/-- The words of ring `i`'s entry. -/
def State.ringWords (i : Nat) (s : State) : List Word :=
  (List.range 6).map (fun j => storeGet hubReset s.hub.bank.regs (entryKey (ringKey i) (ringEntry i) j))

/-- The words that a store with the last one at `v` writes. -/
def State.ringWordsWith (i : Nat) (v : Word) (s : State) : List Nat := ((s.ringWords i).set 5 v).map BitVec.toNat

theorem State.ringWordsWith_getD (s : State) (i : Nat) (v : Word) {j : Nat} (hj : j < 6) :
    (s.ringWordsWith i v).getD j 0 = if j = 5 then v.toNat else s.ringWord i j := by
  have hlist : s.ringWordsWith i v =
      [s.ringWord i 0, s.ringWord i 1, s.ringWord i 2, s.ringWord i 3, s.ringWord i 4, v.toNat] := rfl
  rw [hlist]
  match j, hj with
  | 0, _ | 1, _ | 2, _ | 3, _ | 4, _ | 5, _ => rfl

/-! ### The index register -/

/-- The buffer of the table with key `k` is `buf`. -/
def State.setBuf (k : Nat) (buf : TableBuf) (s : State) : State :=
  s.modBank .hst (fun r => { r with bufs := (k, buf) :: r.bufs.filter (fun y => y.1 != k) })

/-- The entry of ring `i` is selected, and stands in the buffers of its table. -/
def State.ringSelected (i : Nat) (s : State) : State :=
  (s.putWord .hst (ringKey i) (BitVec.ofNat 32 (ringEntry i))).setBuf (ringKey i)
    { r := s.ringWords i, active := s.ringWords i, w := s.ringWords i }

/-- The last word of the write buffer is `v` besides. -/
def State.ringFilled (i : Nat) (v : Word) (s : State) : State :=
  (s.ringSelected i).setBuf (ringKey i) { r := s.ringWords i, active := s.ringWords i, w := (s.ringWords i).set 5 v }

theorem State.loadTable_hst {k : Nat} (hk : k < 0x10000) (s : State) (p : Path) (t : TableDef) (e : Nat) (ainc : Bool) :
    s.loadTable .hub p .hst t k e ainc =
      let words := (List.range t.words).map (fun j => storeGet hubReset s.hub.bank.regs (entryKey k e j))
      (s.putWord .hst k (BitVec.ofNat 32 (e + 2 ^ 31 * b2n ainc))).setBuf k { r := words, active := words, w := words } := by
  have hsnap : s.snapCard .hub p k e = s := if_neg (fun h => absurd h.2.1 (by omega))
  have hentry (j : Nat) (active : Bool) :
      s.entryAt .hub p .hst k e j active = storeGet hubReset s.hub.bank.regs (entryKey k e j) := by
    simp only [State.entryAt, show k ≠ 0x41100 by omega, show k ≠ 0x42140 by omega, show k ≠ 0x44140 by omega, if_false,
      State.copyAt_hub]
    rfl
  simp only [State.loadTable, hsnap, hentry]
  rfl

theorem State.regWriteAt_ringIdx {u : Option (Fin 5)} {r : Nat} (h : ringOk u r = true) (s : State) (p : Path) :
    s.regWriteAt .hub p (ringPage u + 0x110) (BitVec.ofNat 32 r).toNat = s.ringSelected (ringIx u r) := by
  obtain ⟨hr, hentries⟩ := ringOk_lt h
  have hhit : Site.hit .hub (ringPage u + 0x110) = .idx .hst (doorbellPage u) (ringTable u) := hubHit_ringIdx u
  have hword : (BitVec.ofNat 32 r).toNat = r := by
    rw [BitVec.toNat_ofNat]
    omega
  have hres : bitsOf r 16 15 = 0 := by
    simp only [bitsOf]
    omega
  have hidx : idxEntry r = r := by
    simp only [idxEntry]
    omega
  have hainc : idxAinc r = false := by
    simp only [idxAinc, bitAt, bitsOf]
    simp
    omega
  have hkey := ringKey_ringIx h
  have hlt := (ringKey_lt (ringIx u r)).2
  rw [hword, State.ringSelected, State.ringWords, hkey, ringEntry_ringIx h]
  simp only [State.regWriteAt, hhit, hres, hidx, hainc, Nat.not_le.mpr hentries, ne_eq, not_true_eq_false, or_self, if_false,
    idxKey_ringTable, State.loadTable_hst (show ringPage u + 0x110 < 0x10000 by omega), ringTable_words, b2n]
  rfl

theorem State.writeAt_ringIdx {u : Option (Fin 5)} {r : Nat} (h : ringOk u r = true) (s : State) (p : Path) :
    s.writeAt p (.hub (ringPage u + 0x110)) (BitVec.ofNat 32 r) 15#4 = s.ringSelected (ringIx u r) :=
  (State.writeAt_of_open (x := .hub) trivial p _ _).trans (State.regWriteAt_ringIdx h s p)

@[simp] theorem State.ringWord_ringSelected (s : State) (i k j : Nat) : (s.ringSelected k).ringWord i j = s.ringWord i j := by
  have hk := (ringKey_lt k).2
  have hbig := two_pow_le_entryKey (ringKey i) (ringEntry i) j
  exact congrArg BitVec.toNat (storeGet_set_ne _ (by omega) _)

theorem State.arrives_ringSelected (s : State) (i : Nat) (p : Path) : (s.ringSelected i).arrives p = s.arrives p := by
  have hsel : (s.ringSelected i).arrives p =
      (s.putWord .hst (ringKey i) (BitVec.ofNat 32 (ringEntry i))).arrives p := by cases p <;> rfl
  rw [hsel, State.arrives_putWord (by have := (ringKey_lt i).1; omega)]

/-! ### The last data register -/

theorem State.tableBuf_setBuf (s : State) (k : Nat) (buf : TableBuf) : (s.setBuf k buf).tableBuf .hub .hst k = buf := by
  have hbank : (s.setBuf k buf).bankAt .hub .hst =
      { s.hub.bank with bufs := (k, buf) :: s.hub.bank.bufs.filter (fun y => y.1 != k) } := rfl
  simp [State.tableBuf, hbank]

theorem State.tableReady_setBuf (s : State) (k : Nat) (buf : TableBuf) (p : Path) (t : TableDef) :
    (s.setBuf k buf).tableReady .hub p .hst t k = s.setBuf k buf := by
  have hbank : (s.setBuf k buf).bankAt .hub .hst =
      { s.hub.bank with bufs := (k, buf) :: s.hub.bank.bufs.filter (fun y => y.1 != k) } := rfl
  simp [State.tableReady, hbank]

theorem State.writeAt_ringData {u : Option (Fin 5)} {r : Nat} (h : ringOk u r = true) (s : State) (p : Path) (v : Word) :
    (s.ringSelected (ringIx u r)).writeAt p (.hub (ringPage u + 0x134)) v 15#4 =
      (s.ringFilled (ringIx u r) v).storeEntry .hub p .hst (doorbellPage u) (ringTable u) (ringPage u + 0x134) v.toNat := by
  have hhit : Site.hit .hub (ringPage u + 0x134) = .data .hst (doorbellPage u) 5 (ringTable u) := hubHit_ringData u
  have hready (t : TableDef) : (s.ringSelected (ringIx u r)).tableReady .hub p .hst t (ringPage u + 0x110) =
      s.ringSelected (ringIx u r) := by
    rw [← ringKey_ringIx h]
    exact State.tableReady_setBuf ..
  have hbuf : (s.ringSelected (ringIx u r)).tableBuf .hub .hst (ringPage u + 0x110) =
      { r := s.ringWords (ringIx u r), active := s.ringWords (ringIx u r), w := s.ringWords (ringIx u r) } := by
    rw [← ringKey_ringIx h]
    exact State.tableBuf_setBuf ..
  refine (State.writeAt_of_open (x := .hub) trivial p _ _).trans ?_
  simp only [State.regWriteAt, hhit, ringTable_staged, Bool.false_and, Bool.false_eq_true, if_false, idxKey_ringTable, hready,
    hbuf, ringTable_words, if_true, BitVec.ofNat_toNat, BitVec.setWidth_eq, State.ringFilled, ringKey_ringIx h]
  rfl

/-! ### The store of the entry -/

/-- Word `j` of the entry as a store of the words `ws` leaves it. -/
def State.ringFill (i : Nat) (ws : List Nat) (j : Nat) (s : State) : State :=
  s.setRingWord i j (storeFields (ringFieldsOf j) (fun _ => true) (s.ringWord i j) (ws.getD j 0))

/-- The entry of a ring that a store of the words `ws` leaves. -/
def State.ringWritten (i : Nat) (ws : List Nat) (s : State) : State := forN 6 (State.ringFill i ws) s

theorem State.bankWf_ringFill {s : State} (h : s.bankWf = true) (i : Nat) (ws : List Nat) (k : Nat) :
    (forN k (State.ringFill i ws) s).bankWf = true := by
  induction k with
  | zero => exact h
  | succ k ih =>
    rw [forN_succ]
    exact State.bankWf_setRingWord ih ..

theorem State.rings_ringWritten (s : State) (i : Nat) (ws : List Nat) : (s.ringWritten i ws).hub.rings = s.hub.rings :=
  forN_frame (π := fun s : State => s.hub.rings) (fun _ _ => State.rings_setRingWord ..) 6 s

theorem State.ringOn_ringWritten {s : State} (h : s.bankWf = true) (i : Nat) (ws : List Nat) :
    (s.ringWritten i ws).ringOn i = bitAt (ws.getD 5 0) 17 := by
  have hlast : s.ringWritten i ws = State.ringFill i ws 5 (forN 5 (State.ringFill i ws) s) := forN_succ 5 _ s
  have hword := State.ringWord_setRingWord (i := i) (State.bankWf_ringFill h i ws 5) 5 (storeFields (ringFieldsOf 5)
    (fun _ => true) ((forN 5 (State.ringFill i ws) s).ringWord i 5) (ws.getD 5 0)) 5
  rw [State.ringOn, hlast, State.ringFill, hword, if_pos rfl]
  exact bitAt_storeFields_enable (BitVec.isLt _) _

section Filled

variable {s : State} {i : Nat} {v : Word}

theorem State.ringWord_ringFilled (s : State) (i : Nat) (v : Word) (j : Nat) : (s.ringFilled i v).ringWord i j = s.ringWord i j :=
  State.ringWord_ringSelected s i i j

theorem State.rings_ringFilled (s : State) (i : Nat) (v : Word) : (s.ringFilled i v).hub.rings = s.hub.rings := by
  unfold State.ringFilled State.ringSelected
  rfl

theorem State.bankWf_ringFilled (h : s.bankWf = true) : (s.ringFilled i v).bankWf = true := storeWf_set h _ _

theorem ringEntry_lt (i : Nat) : ringEntry i < 32 := by
  unfold ringEntry
  split <;> omega

theorem State.idxAt_ringFilled (h : s.bankWf = true) : (s.ringFilled i v).idxAt .hub .hst (ringKey i) = ringEntry i := by
  have hget := storeGet_set (d := hubReset) h (ringKey i) (ringKey i) (BitVec.ofNat 32 (ringEntry i))
  have := ringEntry_lt i
  refine (congrArg BitVec.toNat (hget.trans (if_pos rfl))).trans ?_
  rw [BitVec.toNat_ofNat]
  omega

theorem State.tableBuf_ringFilled :
    ((s.ringFilled i v).tableBuf .hub .hst (ringKey i)).w.map BitVec.toNat = s.ringWordsWith i v := by
  rw [State.ringFilled, State.tableBuf_setBuf]
  rfl

/-- What base and size were, they are: a store of ENABLE alone is never BUSY (R113). -/
theorem State.entryCode_ring {t : TableDef} {page : Nat} (hcross : t.cross = .ring) (hkey : idxKey .hst page t = ringKey i) :
    (s.ringFilled i v).entryCode .hub .hst page t (ringEntry i) (s.ringWordsWith i v) = codeNONE := by
  have hword (j : Nat) : ((s.ringFilled i v).copyAt .hub .hst (entryKey (ringKey i) (ringEntry i) j) true).toNat =
      s.ringWord i j := by
    rw [State.copyAt_hub]
    exact State.ringWord_ringFilled s i v j
  have hnew (j : Nat) (hj : j < 5) : (s.ringWordsWith i v).getD j 0 = s.ringWord i j :=
    (s.ringWordsWith_getD i v (by omega)).trans (if_neg (by omega))
  simp only [State.entryCode, hcross, hkey, hword, hnew 2 (by decide), hnew 3 (by decide), hnew 4 (by decide),
    beq_self_eq_true, Bool.and_self, Bool.not_true, Bool.and_false, Bool.false_eq_true, if_false]

theorem State.storeEntry_ring {p : Path} {t : TableDef} {page off w : Nat} (hwf : s.bankWf = true) (hcross : t.cross = .ring)
    (hfields : t.fields = ringFields) (hwords : t.words = 6) (hkey : idxKey .hst page t = ringKey i)
    (hpage : ringOfPage page (ringEntry i) = i)
    (hcodes : ∀ j < 6, fieldsCode (ringFieldsOf j) t.staged (if j = 5 then v.toNat else s.ringWord i j) = 0) :
    (s.ringFilled i v).storeEntry .hub p .hst page t off w =
      (((s.ringFilled i v).ringWritten i (s.ringWordsWith i v)).ringStored i (s.ringOn i)).tableNext .hub p .hst t
        (ringKey i) := by
  have hentry : idxEntry ((s.ringFilled i v).idxAt .hub .hst (ringKey i)) = ringEntry i := by
    have := ringEntry_lt i
    rw [State.idxAt_ringFilled hwf, idxEntry]
    omega
  have hnone := entryCodes_nil (fields := ringFieldsOf) (staged := t.staged) (w := 6) (ws := s.ringWordsWith i v)
    (fun j hj => by rw [State.ringWordsWith_getD _ _ _ hj]; exact hcodes j hj)
  have hon : (s.ringFilled i v).ringOn i = s.ringOn i := congrArg (bitAt · 17) (State.ringWord_ringFilled s i v 5)
  have hput (j : Nat) (t : State) : t.putAt .hub .hst (entryKey (ringKey i) (ringEntry i) j) (storeFields (ringFieldsOf j)
      (fun _ => true) (t.copyAt .hub .hst (entryKey (ringKey i) (ringEntry i) j) false).toNat
        ((s.ringWordsWith i v).getD j 0)) = State.ringFill i (s.ringWordsWith i v) j t := by
    rw [State.putAt_hub, State.copyAt_hub]
    rfl
  have hcode : (s.ringFilled i v).entryCode .hub .hst page t (ringEntry i) (s.ringWordsWith i v) = 0 :=
    State.entryCode_ring hcross hkey
  have hof (j : Nat) : (ringFields.filter (fun f => f.1 == j)).map (·.2) = ringFieldsOf j := rfl
  simp only [State.storeEntry, hkey, hentry, State.tableBuf_ringFilled, hfields, hwords, hof, hnone, hcode, ne_eq,
    not_true_eq_false, if_false, hcross, hpage, hon, hput, beq_self_eq_true, Bool.true_and, if_true]
  rfl

end Filled

/-! ### What the next entry's load leaves alone -/

section Next

variable {s : State} {i : Nat}

theorem State.ringPi_putWord {k : Nat} (h : k ≠ (ringDb i).key) (w : Word) : (s.putWord .hst k w).ringPi i = s.ringPi i := by
  have hget : storeGet hubReset (storeSet hubReset s.hub.bank.regs k w) (ringDb i).key =
      storeGet hubReset s.hub.bank.regs (ringDb i).key := storeGet_set_ne _ (Ne.symm h) _
  have hw : (ringDb i).lo + (ringDb i).w ≤ 32 := by simp [ringDb_lo, ringDb_w]
  simp only [State.ringPi, State.hget, rfGet, hw, if_true]
  exact congrArg (fun w : Word => bitsOf w.toNat (ringDb i).lo (ringDb i).w) hget

theorem State.ringWord_putWord {k : Nat} (h : k < 0x10000) (w : Word) (j : Nat) :
    (s.putWord .hst k w).ringWord i j = s.ringWord i j := by
  have hbig := two_pow_le_entryKey (ringKey i) (ringEntry i) j
  exact congrArg BitVec.toNat (storeGet_set_ne _ (by omega) _)

theorem State.ringWord_setBuf (k : Nat) (buf : TableBuf) (j : Nat) : (s.setBuf k buf).ringWord i j = s.ringWord i j := rfl
theorem State.ringPi_setBuf (k : Nat) (buf : TableBuf) : (s.setBuf k buf).ringPi i = s.ringPi i := rfl
theorem State.ring_setBuf (k : Nat) (buf : TableBuf) : (s.setBuf k buf).ring i = s.ring i := rfl
theorem State.ring_putWord (k : Nat) (w : Word) : (s.putWord .hst k w).ring i = s.ring i := rfl

/-- AINC may load the next entry into the buffers: no ring sees it. -/
theorem State.tableNext_ring (s : State) (i : Nat) (p : Path) (t : TableDef) :
    (∀ j, (s.tableNext .hub p .hst t (ringKey i)).ringWord i j = s.ringWord i j) ∧
      (s.tableNext .hub p .hst t (ringKey i)).ringPi i = s.ringPi i ∧
      (s.tableNext .hub p .hst t (ringKey i)).ring i = s.ring i := by
  obtain ⟨-, -, hdb⟩ := ringDb_key i
  have hlt := (ringKey_lt i).2
  unfold State.tableNext
  dsimp only
  split
  · rw [State.loadTable_hst hlt]
    dsimp only
    rw [State.ringPi_setBuf, State.ringPi_putWord (Ne.symm hdb), State.ring_setBuf, State.ring_putWord]
    exact ⟨fun j => (State.ringWord_setBuf ..).trans (State.ringWord_putWord hlt _ j), rfl, rfl⟩
  · exact ⟨fun _ => rfl, rfl, rfl⟩

end Next

/-! ### ENABLE -/

/-- The store of ring `i`'s entry with `v` for its last word (R88). -/
def State.ringStore (i : Nat) (v : Word) (s : State) : State :=
  ((s.ringFilled i v).ringWritten i (s.ringWordsWith i v)).ringStored i (s.ringOn i)

section Store

variable {s : State} {i : Nat} {v : Word} (hwf : s.bankWf = true)
include hwf

theorem State.ringOn_written :
    ((s.ringFilled i v).ringWritten i (s.ringWordsWith i v)).ringOn i = bitAt v.toNat 17 := by
  rw [State.ringOn_ringWritten (State.bankWf_ringFilled hwf), State.ringWordsWith_getD s i v (by decide), if_pos rfl]

theorem State.ringStore_enable (hv : bitAt v.toNat 17 = true) (hoff : s.ringOn i = false) (hi : i < s.hub.rings.length) :
    (s.ringStore i v).ringOn i = true ∧ (s.ringStore i v).ringCi i = 0 ∧ (s.ringStore i v).ringPi i = 0 ∧
      (s.ringStore i v).ring i = {} := by
  have hwritten := (State.ringOn_written hwf (i := i)).trans hv
  have hwf' : ((s.ringFilled i v).ringWritten i (s.ringWordsWith i v)).bankWf = true :=
    State.bankWf_ringFill (State.bankWf_ringFilled hwf) i (s.ringWordsWith i v) 6
  have hi' : i < ((s.ringFilled i v).ringWritten i (s.ringWordsWith i v)).hub.rings.length := by
    rwa [State.rings_ringWritten, State.rings_ringFilled]
  obtain ⟨hon, hrest⟩ := State.ringStart_spec hwf' hi'
  rw [State.ringStore, hoff, State.ringStored_start hwritten]
  exact ⟨hon.trans hwritten, hrest⟩

theorem State.ringStore_disable (hv : bitAt v.toNat 17 = false) (hon : s.ringOn i = true) :
    (s.ringStore i v).ringOn i = false ∧ ((s.ringStore i v).ring i).stage = .idle ∧
      ((s.ringStore i v).ring i).waiting = [] := by
  have hwritten := (State.ringOn_written hwf (i := i)).trans hv
  obtain ⟨hoff, hrest⟩ := State.ringHalt_spec ((s.ringFilled i v).ringWritten i (s.ringWordsWith i v)) i
  rw [State.ringStore, hon, State.ringStored_halt hwritten]
  exact ⟨hoff.trans hwritten, hrest⟩

end Store

end Sys2Proof.Machine

/-! The events of the rings together (R113 to R122). -/

namespace Sys2Proof.Machine

theorem State.ringWord_lt (s : State) (i j : Nat) : s.ringWord i j < 2 ^ 32 := BitVec.isLt _

/-- The last word of an entry with another ENABLE. -/
def enableWord (w on : Nat) : Word := BitVec.ofNat 32 (setBitsOf w 17 1 on)

theorem toNat_enableWord {w : Nat} (hw : w < 2 ^ 32) (on : Nat) : (enableWord w on).toNat = setBitsOf w 17 1 on := by
  rw [enableWord, BitVec.toNat_ofNat, Nat.mod_eq_of_lt (setBitsOf_lt hw (by omega))]

section Enable

variable {p : Path} {u : Option (Fin 5)} {r : Nat} {s : State} (h : ringOk u r = true)
include h

theorem storeEnable_eq (harr : s.arrives p = true) (hidx : reaches p (.hub (ringPage u + 0x110)) = true)
    (hdata : reaches p (.hub (ringPage u + 0x134)) = true) (on : Bool) : storeEnable p u r on s =
      (s.ringSelected (ringIx u r)).writeAt p (.hub (ringPage u + 0x134)) (enableWord (s.ringWord (ringIx u r) 5) (b2n on))
        15#4 := by
  have harr' := (State.arrives_ringSelected s (ringIx u r) p).trans harr
  simp only [storeEnable, h, Bool.not_true, Bool.false_eq_true, if_false, State.writeTo, harr, hidx, Bool.and_self, if_true,
    State.writeAt_ringIdx h, State.ringWord_ringSelected, harr', hdata, enableWord]

theorem State.writeAt_ringStore {v : Word} (hwf : s.bankWf = true)
    (hcodes : ∀ j < 6, fieldsCode (ringFieldsOf j) false (if j = 5 then v.toNat else s.ringWord (ringIx u r) j) = 0) :
    (s.ringSelected (ringIx u r)).writeAt p (.hub (ringPage u + 0x134)) v 15#4 =
      (s.ringStore (ringIx u r) v).tableNext .hub p .hst (ringTable u) (ringKey (ringIx u r)) := by
  rw [State.writeAt_ringData h, State.storeEntry_ring hwf (ringTable_cross u) (ringTable_fields u) (ringTable_words u)
    ((idxKey_ringTable u).trans (ringKey_ringIx h).symm)
    (by rw [ringEntry_ringIx h, ringOfPage_doorbellPage h]) (by simpa using hcodes)]
  rfl

end Enable

/-- The entry of ring `i` may be stored with ENABLE at `on`. -/
def State.ringStorable (i on : Nat) (s : State) : Prop :=
  s.bankWf = true ∧
    ∀ j < 6, fieldsCode (ringFieldsOf j) false (if j = 5 then setBitsOf (s.ringWord i 5) 17 1 on else s.ringWord i j) = 0

section Stored

variable {u : Option (Fin 5)} {r : Nat} {s : State} (h : ringOk u r = true)
include h

theorem State.writeAt_enableWord {on : Nat} (hs : s.ringStorable (ringIx u r) on) (p : Path) :
    (s.ringSelected (ringIx u r)).writeAt p (.hub (ringPage u + 0x134)) (enableWord (s.ringWord (ringIx u r) 5) on) 15#4 =
      (s.ringStore (ringIx u r) (enableWord (s.ringWord (ringIx u r) 5) on)).tableNext .hub p .hst (ringTable u)
        (ringKey (ringIx u r)) := by
  obtain ⟨hwf, hcodes⟩ := hs
  refine State.writeAt_ringStore h hwf (fun j hj => ?_)
  rw [toNat_enableWord (s.ringWord_lt ..)]
  exact hcodes j hj

/-- A disabled ring that is enabled comes on at indices of zero (R113). -/
theorem State.enabled_of_storable (hs : s.ringStorable (ringIx u r) 1) (hoff : s.ringOn (ringIx u r) = false)
    (hi : ringIx u r < s.hub.rings.length) (p : Path) {t : State} (ht : t = (s.ringSelected (ringIx u r)).writeAt p
      (.hub (ringPage u + 0x134)) (enableWord (s.ringWord (ringIx u r) 5) 1) 15#4) :
    t.ringOn (ringIx u r) = true ∧ t.ringCi (ringIx u r) = 0 ∧ t.ringPi (ringIx u r) = 0 ∧ t.ring (ringIx u r) = {} := by
  rw [State.writeAt_enableWord h hs] at ht
  have hbit : bitAt (enableWord (s.ringWord (ringIx u r) 5) 1).toNat 17 = true := by
    rw [toNat_enableWord (s.ringWord_lt ..), bitAt_setBitsOf]
    rfl
  obtain ⟨hon, hci, hpi, hring⟩ := State.ringStore_enable hs.1 hbit hoff hi
  obtain ⟨hword, hdb, hnext⟩ := State.tableNext_ring
    (s.ringStore (ringIx u r) (enableWord (s.ringWord (ringIx u r) 5) 1)) (ringIx u r) p (ringTable u)
  rw [ht]
  exact ⟨(congrArg (bitAt · 17) (hword 5)).trans hon, (hword 0).trans hci, hdb.trans hpi, hnext.trans hring⟩

/-- An enabled ring that is disabled goes off with nothing in progress (R116). -/
theorem State.disabled_of_storable (hs : s.ringStorable (ringIx u r) 0) (hon : s.ringOn (ringIx u r) = true) (p : Path)
    {t : State} (ht : t = (s.ringSelected (ringIx u r)).writeAt p (.hub (ringPage u + 0x134))
      (enableWord (s.ringWord (ringIx u r) 5) 0) 15#4) :
    t.ringOn (ringIx u r) = false ∧ (t.ring (ringIx u r)).stage = .idle ∧ (t.ring (ringIx u r)).waiting = [] := by
  rw [State.writeAt_enableWord h hs] at ht
  have hbit : bitAt (enableWord (s.ringWord (ringIx u r) 5) 0).toNat 17 = false := by
    rw [toNat_enableWord (s.ringWord_lt ..), bitAt_setBitsOf]
    rfl
  obtain ⟨hoff, hidle, hnone⟩ := State.ringStore_disable hs.1 hbit hon
  obtain ⟨hword, -, hnext⟩ := State.tableNext_ring
    (s.ringStore (ringIx u r) (enableWord (s.ringWord (ringIx u r) 5) 0)) (ringIx u r) p (ringTable u)
  rw [ht, hnext]
  exact ⟨(congrArg (bitAt · 17) (hword 5)).trans hoff, hidle, hnone⟩

end Stored

/-- Settles O29: RING_ENABLE and RING_DISABLE are two writes, which come down to `ringStore`; each other event is one branch of
the engine's reply, timeout or completion. -/
theorem ringEvents_settled : Obligations.RingEvents := by
  refine ⟨fun p u r s hon harr hok hidx hdata => ?_, fun i s hon => ⟨fun d st len bytes h hring hlink he => ?_,
    fun bs hi h => ?_, fun bad hi h => ?_, fun d l got bs hi hne h hlen => ?_, fun d l got hi h => ?_, fun hi h ht => ?_,
    fun hi h => ?_, fun l h hl => ?_, fun h => ?_, fun h => ?_⟩⟩
  · intro i select store storable
    have hselect (t : State) : select t = t.ringSelected i := State.writeAt_ringIdx hok t p
    have hstore (on : Nat) (t : State) : store on (select t) =
        (t.ringSelected i).writeAt p (.hub (ringPage u + 0x134)) (enableWord (t.ringWord i 5) on) 15#4 := by
      rw [hselect]
      simp only [store, State.ringWord_ringSelected, enableWord]
    have hcommand (on : Bool) : storeEnable p u r on s.quiet = store (b2n on) (select s.quiet) :=
      (storeEnable_eq hok (by simpa using harr) hidx hdata on).trans (hstore (b2n on) s.quiet).symm
    have hstorable {on : Nat} (hs : storable on) : s.ringStorable i on := by
      obtain ⟨hwf, hfields⟩ := hs
      have hcodes := hfields _ _ _ (hubHit_ringIdx u)
      simp only [ringTable_words, ringTable_fields, ringTable_staged] at hcodes
      exact ⟨hwf, hcodes⟩
    exact ⟨run_completes (f := storeEnable p u r true) rfl hon (hcommand true),
      run_completes (f := storeEnable p u r false) rfl hon (hcommand false),
      fun hs hoff hi => State.enabled_of_storable hok (hstorable hs) hoff hi p (hstore 1 s),
      fun hs hring _ => State.disabled_of_storable hok (hstorable hs) hring p (hstore 0 s),
      fun k hk => State.ringStored_halt hk⟩
  · exact descriptorComplete_ready_completes hon h hring hlink he
  · exact run_completes (f := State.readReply i (.data bs)) rfl hon (State.readReply_fetch_data (s := s.quiet) hi h bs)
  · exact run_completes (f := State.readReply i (.error bad)) rfl hon (State.readReply_fetch_error (s := s.quiet) hi h)
  · exact run_completes (f := State.readReply i (.data bs)) rfl hon ((State.readReply_read_data (s := s.quiet) hne h bs).trans
      (State.readData_decoder (s := s.quiet) hi hlen))
  · exact ring_read_completes hon hi h
  · exact run_completes (f := State.readTimeout i) rfl hon (State.readTimeout_fetch (s := s.quiet) hi ht h)
  · exact ring_idle_completes hon hi h
  · exact image_read_completes hon h hl
  · exact run_completes (f := opModerationTimeout i) rfl hon (opModerationTimeout_gathered (s := s.quiet) h)
  · exact run_completes (f := opModerationTimeout i) rfl hon (opModerationTimeout_none (s := s.quiet) h)

end Sys2Proof.Machine
